-- ==== Sys2Proof/Word.lean ====
section
/-! DEFINITION. The widths the manual fixes: internal codes, line codes, key positions, and the line condition. -/

namespace Sys2Proof

/-- A 7-bit internal code, 000 to 177 octal (section 0.6, R2). -/
abbrev Code := BitVec 7

/-- A 5-unit line code or punch row pattern, 0 to 31: bit `k - 1` is data element (or hole) `k` (R1). -/
abbrev Row := BitVec 5

/-- A key position `8 * r + c` of the matrix, 0 to 63 (R6). -/
abbrev KeyPos := BitVec 6

/-- The condition of the line: mark is the idle line and the stop element (section 0.6). -/
inductive LineCond where
  | mark
  | space
  deriving DecidableEq, Repr

/-- The quality with which a character is received and stored (R25, R39). -/
inductive Quality where
  | good
  | doubtful
  | mutilated
  deriving DecidableEq, Repr

end Sys2Proof
end

