-- ==== Sys2Proof/Syntax.lean ====
section
/-! DEFINITION. The commands: one constructor of `Instr` for each row of spec/opcode_table.json, in the table's order.
A row is a step of the part: an event at one of its ports, the expiry of one of its timers, a key-down the scanner has
recognised, or a directive executed at the CR that ends it. -/

namespace Sys2Proof

/-- Where a directive comes from (section 9): from the line, with the two call-code characters it carries, or typed at
the keyboard (the manual's source "local"). -/
inductive DirSource where
  | line (c1 c2 : Code)
  | keyboard
  deriving DecidableEq, Repr

/-- The commands of the block. `t` of a line change is the tick of the transition, counted from tick 0 of the character in
progress (section 0.6). `k` of a key-down is the key position (R6). `body` of a directive is the characters held after its
letter (R166). -/
inductive Instr where
  -- power, reset and the line receiver
  | powerOn
  | hardReset
  | lineConditionChange (c : LineCond) (t : Nat)
  | falseStart
  | stopSample
  | breakDeclared
  | rateAdoption
  -- the line transmitter and the reply queue
  | characterSent
  | breakSent
  | deferredReset
  | deferredClear
  -- the keyboard
  | scan (closed : BitVec 64)
  | characterKeyDown (k : KeyPos)
  | lead (k : KeyPos)
  | hereIs (k : KeyPos)
  | breakKey (k : KeyPos)
  | lineLocal (k : KeyPos)
  | tape (k : KeyPos)
  | feed (k : KeyPos)
  | newTape (k : KeyPos)
  | endKey (k : KeyPos)
  | attend (k : KeyPos)
  | unattend (k : KeyPos)
  | answer (k : KeyPos)
  | seize (k : KeyPos)
  | clearLine (k : KeyPos)
  | clearFault (k : KeyPos)
  | repeatKey (k : KeyPos)
  | shiftKey (k : KeyPos)
  | repetition
  | breakLockTimerExpiry
  | closeTimerExpiry
  -- the directives
  | select (src : DirSource) (body : List Code)
  | deselect (src : DirSource) (body : List Code)
  | messageHeading (src : DirSource) (body : List Code)
  | endOfMessage (src : DirSource) (body : List Code)
  | punchClaim (src : DirSource) (body : List Code)
  | linePrintSwitch (src : DirSource) (body : List Code)
  | identify (src : DirSource) (body : List Code)
  | statusSnapshot (src : DirSource) (body : List Code)
  | openSource (src : DirSource) (body : List Code)
  | closeSource (src : DirSource) (body : List Code)
  | freeze (src : DirSource) (body : List Code)
  | accessNumber (src : DirSource) (body : List Code)
  | listDirectory (src : DirSource) (body : List Code)
  | retrieveEntry (src : DirSource) (body : List Code)
  | deleteEntry (src : DirSource) (body : List Code)
  | eraseStore (src : DirSource) (body : List Code)
  | setParameter (src : DirSource) (body : List Code)
  | loadTableEntry (src : DirSource) (body : List Code)
  | commitProfile (src : DirSource) (body : List Code)
  | stationReset (src : DirSource) (body : List Code)
  | hangUp (src : DirSource) (body : List Code)
  | clearStatistics (src : DirSource) (body : List Code)
  | copyEntryToTape (src : DirSource) (body : List Code)
  -- the mechanisms, the motor and the profile
  | printerDone
  | printerFaultTimerExpiry
  | paperOutChange (out low : Bool)
  | punchDone
  | punchFaultTimerExpiry
  | runUpTimerExpiry
  | idleTimerExpiry
  | commitCompletion (readBackEqual : Bool)
  -- the connection
  | callInputChange (present : Bool)
  | stableMarkTimerExpiry
  | answerTimerExpiry
  | callTimerExpiry
  | sustainedSpaceTimerExpiry
  | lineIdleTimerExpiry
  | clearingTimerExpiry
  | lineTypeAdoption
  -- data samples, and the loss of power
  | dataElementSample
  | powerRemoval
  deriving DecidableEq, Repr

end Sys2Proof
end

