-- ==== Sys2Proof/Decode.lean ====
section
/-! DEFINITION. Words of the opcode table. The table gives no row any bits (every row's "fields" is empty and none has a
"fixed" pattern), so no word spells a command. -/

namespace Sys2Proof

/-- The command a word spells by the table's bits: none, because no row of spec/opcode_table.json gives bits. -/
def decodeTableWord (_nbits _w : Nat) : Option Instr := none

end Sys2Proof
end

