-- ==== Sys2Proof/Machine/Tables.lean ====
section
/-! DEFINITION. Chapter 1 and R190: the loaded tables, the parameters, the working copy that holds them, their lookups, and
the factory default assignment. -/

namespace Sys2Proof.Machine

/-- A shift plane of the line (R1). -/
inductive Plane where
  | letters
  | figures
  deriving DecidableEq, Repr

/-- The send or punch shift state (R133, R108). -/
inductive ShiftState where
  | letters
  | figures
  | unknown
  deriving DecidableEq, Repr

/-- The shift state that says a plane is in force. -/
def Plane.shift : Plane → ShiftState
  | .letters => .letters
  | .figures => .figures

/-- An entry of the receive map (R3). -/
inductive RxEntry where
  | ignore
  | character (c : Code)
  | shiftLetters
  | shiftFigures
  deriving DecidableEq, Repr

/-- How a code is sent and punched: the plane of its code table record, with the line code where there is one (R5). -/
inductive SendAs where
  | none
  | letters (c : Row)
  | figures (c : Row)
  | both (c : Row)
  deriving DecidableEq, Repr

/-- A record of the code table (R5); a type position is 0 to 63. -/
structure CodeRec where
  sendAs : SendAs
  typePos : Option Nat
  deriving DecidableEq, Repr

/-- The functions of the key table, numbered 1 to 16 in this order (R6). -/
inductive KeyFn where
  | lead | hereIs | brk | lineLocal | tape | feed | newTape | endFn
  | attend | unattend | answer | seize | clearLine | clearFault | repeatFn | shiftFn
  deriving DecidableEq, Repr

/-- The functions in the order of their numbers, 1 to 16 (R6). -/
def keyFns : List KeyFn :=
  [.lead, .hereIs, .brk, .lineLocal, .tape, .feed, .newTape, .endFn, .attend, .unattend, .answer, .seize, .clearLine,
   .clearFault, .repeatFn, .shiftFn]

/-- The function with a given number, 1 to 16 (R17 admits no other). -/
def KeyFn.ofNumber (n : Nat) : KeyFn := keyFns.getD (n - 1) .shiftFn

/-- An entry of the key table (R6). -/
inductive KeyEntry where
  | none
  | character (c : Code)
  | function (f : KeyFn)
  deriving DecidableEq, Repr

/-- The parts of the profile image and of the working copy (R189): the tables, the texts, the access numbers as written
(R178), and parameters 01 to 34 in order. -/
structure Profile where
  rxMap : List RxEntry
  codeTable : List CodeRec
  keyTable : List KeyEntry
  answerbackLen : Nat
  answerbackCodes : List Code
  callCode : Option (Code × Code)
  operatorNumber : Option (List Code)
  supervisorNumber : Option (List Code)
  params : List Nat
  deriving DecidableEq, Repr

/-- Parameter `n`, 1 to 34 (R190). -/
def Profile.par (p : Profile) (n : Nat) : Nat := p.params.getD (n - 1) 0

/-- The working copy with parameter `n` set. -/
def Profile.setPar (p : Profile) (n v : Nat) : Profile := { p with params := p.params.set (n - 1) v }

/-! The parameters by name (R190). -/
def Profile.rateIndex (p : Profile) : Nat := p.par 1
def Profile.compensation (p : Profile) : Bool := p.par 2 == 1
def Profile.doubtfulMargin (p : Profile) : Nat := p.par 3
def Profile.breakThreshold (p : Profile) : Nat := p.par 4
/-- The clear threshold in ms (parameter 05 × 100 ms, R150). -/
def Profile.clearThresholdMs (p : Profile) : Nat := p.par 5 * 100
def Profile.unshiftOnSpace (p : Profile) : Bool := p.par 6 == 1
def Profile.lineTypeParam (p : Profile) : Nat := p.par 7
def Profile.autoAnswer (p : Profile) : Bool := p.par 8 == 1
def Profile.answerbackOnConnect (p : Profile) : Bool := p.par 9 == 1
def Profile.selectOnConnect (p : Profile) : Bool := p.par 10 == 1
def Profile.lineIdleS (p : Profile) : Nat := p.par 11
def Profile.retainUnattended (p : Profile) : Bool := p.par 12 == 1
def Profile.lineLength (p : Profile) : Nat := p.par 13
def Profile.bellOffset (p : Profile) : Nat := p.par 14
def Profile.autoNewLine (p : Profile) : Bool := p.par 15 == 1
def Profile.formLength (p : Profile) : Nat := p.par 16
def Profile.printHeadings (p : Profile) : Bool := p.par 17 == 1
def Profile.doubtfulMarking (p : Profile) : Bool := p.par 18 == 1
def Profile.substituteType (p : Profile) : Nat := p.par 19
def Profile.mutilationType (p : Profile) : Nat := p.par 20
def Profile.keyboardPrecedence (p : Profile) : Nat := p.par 21
def Profile.homeCopy (p : Profile) : Bool := p.par 22 == 1
def Profile.closeTimeS (p : Profile) : Nat := p.par 23
def Profile.motorIdleS (p : Profile) : Nat := p.par 24
/-- The motor run-up in ms (parameter 25 × 100 ms, R187). -/
def Profile.runUpMs (p : Profile) : Nat := p.par 25 * 100
def Profile.leaderRows (p : Profile) : Nat := p.par 26
def Profile.reelLength (p : Profile) : Nat := p.par 27
def Profile.tapeLowRows (p : Profile) : Nat := p.par 28
def Profile.errorRow (p : Profile) : Row := BitVec.ofNat 5 (p.par 29)
def Profile.punchFraming (p : Profile) : Bool := p.par 30 == 1
def Profile.activeLow (p : Profile) : Nat := p.par 31
def Profile.activeHigh (p : Profile) : Nat := p.par 32
def Profile.defaultSubstitute (p : Profile) : Code := BitVec.ofNat 7 (p.par 33)
def Profile.strict (p : Profile) : Bool := p.par 34 == 1

/-- The Range column of R190, parameters 01 to 34: lower and upper bound; the gaps of parameters 11 and 16 are
`clampPar`'s. -/
def parRanges : List (Nat × Nat) :=
  [(0, 5), (0, 1), (8, 30), (8, 48), (5, 50), (0, 1), (0, 1), (0, 1), (0, 1), (0, 1), (0, 600), (0, 1), (20, 132), (0, 20),
   (0, 1), (0, 127), (0, 1), (0, 1), (0, 64), (0, 63), (0, 3), (0, 1), (5, 255), (0, 255), (1, 50), (0, 255), (100, 65535),
   (0, 4095), (0, 31), (0, 1), (32, 127), (32, 127), (32, 127), (0, 1)]

/-- The range of parameter `n` (R190). -/
def parRange (n : Nat) : Nat × Nat := parRanges.getD (n - 1) (0, 0)

/-- The value an A directive sets for a value given (R175): within the range, and past the gaps of parameters 11 (1 to 9)
and 16 (1 to 11). -/
def clampPar (n v : Nat) : Nat :=
  if n = 11 ∧ 1 ≤ v ∧ v ≤ 9 then 10
  else if n = 16 ∧ 1 ≤ v ∧ v ≤ 11 then 12
  else max (parRange n).1 (min v (parRange n).2)

/-- The receive map's entry for a line code in a plane (R3). -/
def Profile.rxEntry (p : Profile) (pl : Plane) (c : Row) : RxEntry :=
  p.rxMap.getD (match pl with | .letters => c.toNat | .figures => 32 + c.toNat) .ignore

/-- The code table's record of a code (R5). -/
def Profile.codeRec (p : Profile) (c : Code) : CodeRec := p.codeTable.getD c.toNat ⟨.none, none⟩

/-- The key table's entry for a position at a shift level, 0 or 1 (R6). -/
def Profile.keyEntry (p : Profile) (level : Nat) (k : KeyPos) : KeyEntry := p.keyTable.getD (64 * level + k.toNat) .none

/-- The shift code of a plane: the lowest line code that is that plane's shift in both planes, if any (R4). -/
def Profile.shiftCode (p : Profile) (pl : Plane) : Option Row :=
  let want : RxEntry := match pl with | .letters => .shiftLetters | .figures => .shiftFigures
  ((List.range 32).find? fun c => p.rxMap.getD c .ignore == want && p.rxMap.getD (32 + c) .ignore == want).map
    (BitVec.ofNat 5)

/-- The answerback text: the codes in positions 1 to n (R7). -/
def Profile.answerback (p : Profile) : List Code := p.answerbackCodes.take p.answerbackLen

/-- The call-code letters as they stand in an outgoing line: left out while the call code is EMPTY (R8). -/
def Profile.callLetters (p : Profile) : List Code :=
  match p.callCode with
  | none => []
  | some (a, b) => [a, b]

/-- Security is enabled while the operator access number is set (R178). -/
def Profile.secured (p : Profile) : Bool := p.operatorNumber.isSome

/-- The store-input conversion (R2): `none` is a dropped code. -/
def Profile.storeCode (p : Profile) (c : Code) : Option Code :=
  if c.toNat ∈ [0o000, 0o005, 0o007, 0o012, 0o014, 0o015, 0o033, 0o040] then some c
  else if c.toNat < 0o040 then none
  else if p.activeLow ≤ c.toNat ∧ c.toNat ≤ p.activeHigh then some c
  else some p.defaultSubstitute

/-- The conversion of a code taken for sending or punching under a shift state: the line characters, and the shift state after
the last of them; `none` where the code is skipped (R108, R133). -/
def Profile.convert (p : Profile) (sh : ShiftState) (c : Code) : Option (List Row × ShiftState) :=
  let kept : ShiftState := if c = 0o040#7 ∧ p.unshiftOnSpace then .letters else sh
  let inPlane (pl : Plane) (r : Row) : Option (List Row × ShiftState) :=
    if sh = pl.shift then some ([r], kept) else (p.shiftCode pl).map fun s => ([s, r], pl.shift)
  match (p.codeRec c).sendAs with
  | .none => none
  | .both r => some ([r], kept)
  | .letters r => inPlane .letters r
  | .figures r => inPlane .figures r

/-! The factory default assignment (section 1.6). -/

/-- The receive map entries 27 to 31 of both planes (R9). -/
def factoryRxTail : List RxEntry :=
  [.character 13#7, .character 10#7, .character 32#7, .shiftFigures, .shiftLetters]

/-- `n` entries that deliver the codes from `first` on. -/
def rxRun (first n : Nat) : List RxEntry := (List.range n).map fun i => RxEntry.character (BitVec.ofNat 7 (first + i))

/-- The codes the FIGURES plane delivers at line codes 10 to 24 (R9). -/
def factoryFigureCodes : List Nat :=
  [0o060, 0o005, 0o033, 0o007, 0o056, 0o054, 0o055, 0o057, 0o077, 0o072, 0o050, 0o051, 0o053, 0o047, 0o075]

/-- The factory default receive map (R9). -/
def factoryRxMap : List RxEntry :=
  List.flatten [[RxEntry.ignore], rxRun 0o101 26, factoryRxTail,
    [RxEntry.ignore], rxRun 0o061 9, factoryFigureCodes.map fun n => RxEntry.character (BitVec.ofNat 7 n),
    [RxEntry.ignore, RxEntry.ignore], factoryRxTail]

/-- The factory default records of the codes other than letters and the digits 1 to 9 (R10). -/
def factoryOddRecs : List (Nat × CodeRec) :=
  [(0o060, ⟨.figures 10#5, some 27⟩), (0o056, ⟨.figures 14#5, some 37⟩), (0o054, ⟨.figures 15#5, some 38⟩),
   (0o055, ⟨.figures 16#5, some 39⟩), (0o057, ⟨.figures 17#5, some 40⟩), (0o077, ⟨.figures 18#5, some 41⟩),
   (0o072, ⟨.figures 19#5, some 42⟩), (0o050, ⟨.figures 20#5, some 43⟩), (0o051, ⟨.figures 21#5, some 44⟩),
   (0o053, ⟨.figures 22#5, some 45⟩), (0o047, ⟨.figures 23#5, some 46⟩), (0o075, ⟨.figures 24#5, some 47⟩),
   (0o005, ⟨.figures 11#5, none⟩), (0o033, ⟨.figures 12#5, none⟩), (0o007, ⟨.figures 13#5, none⟩),
   (0o015, ⟨.both 27#5, none⟩), (0o012, ⟨.both 28#5, none⟩), (0o040, ⟨.both 29#5, none⟩)]

/-- The factory default record of the code with number `n` (R10). -/
def factoryCodeRec (n : Nat) : CodeRec :=
  if 0o101 ≤ n ∧ n ≤ 0o132 then ⟨.letters (BitVec.ofNat 5 (n - 0o100)), some (n - 0o100)⟩
  else if 0o061 ≤ n ∧ n ≤ 0o071 then ⟨.figures (BitVec.ofNat 5 (n - 0o060)), some (27 + (n - 0o060))⟩
  else (factoryOddRecs.lookup n).getD ⟨.none, none⟩

/-- One level of the factory default key table, with the codes its positions 26 to 35 give (R11). -/
def factoryKeyLevel (digits : List Nat) : List KeyEntry :=
  List.flatten [(List.range 26).map (fun n => KeyEntry.character (BitVec.ofNat 7 (0o101 + n))),
    digits.map (fun n => KeyEntry.character (BitVec.ofNat 7 n)),
    [KeyEntry.character 32#7, KeyEntry.character 13#7, KeyEntry.character 10#7],
    List.replicate 9 KeyEntry.none,
    keyFns.map KeyEntry.function]

/-- The factory default key table (R11). -/
def factoryKeyTable : List KeyEntry :=
  List.append (factoryKeyLevel ((List.range 10).map fun n => 0o060 + n))
    (factoryKeyLevel [0o056, 0o054, 0o055, 0o057, 0o077, 0o072, 0o050, 0o051, 0o053, 0o047])

/-- The Default column of R190, parameters 01 to 34. -/
def factoryParams : List Nat :=
  [0, 1, 20, 12, 20, 1, 0, 1, 1, 1, 120, 1, 72, 8, 1, 0, 1, 1, 64, 63, 1, 1, 30, 30, 15, 24, 40000, 600, 31, 1, 32, 95, 63, 0]

/-- The factory defaults (section 1.6, R178, R190). -/
def Profile.factory : Profile where
  rxMap := factoryRxMap
  codeTable := (List.range 128).map factoryCodeRec
  keyTable := factoryKeyTable
  answerbackLen := 0
  answerbackCodes := List.replicate 20 0o000#7
  callCode := none
  operatorNumber := none
  supervisorNumber := none
  params := factoryParams

/-- A call code that can be held: EMPTY, or two letters other than ZZ (R8). -/
def callCodeOk : Option (Code × Code) → Bool
  | none => true
  | some (a, b) =>
    decide (0o101 ≤ a.toNat ∧ a.toNat ≤ 0o132 ∧ 0o101 ≤ b.toNat ∧ b.toNat ≤ 0o132) && (a, b) != (0o132#7, 0o132#7)

/-- An access number that can be held: not set, or 1 to 8 digits (R178). -/
def accessNumberOk : Option (List Code) → Bool
  | none => true
  | some ds => decide (1 ≤ ds.length ∧ ds.length ≤ 8) && ds.all fun d => decide (0o060 ≤ d.toNat ∧ d.toNat ≤ 0o071)

/-- A code table record that can be held: a type position is below 64 (R5). -/
def CodeRec.ok (r : CodeRec) : Bool :=
  match r.typePos with
  | none => true
  | some t => decide (t < 64)

/-- The parameters that can be held: 34 of them, each in its range (R190), the active range not inverted (R14). -/
def paramsOk (ps : List Nat) : Bool :=
  ps.length == 34 && (List.range 34).all (fun i => clampPar (i + 1) (ps.getD i 0) == ps.getD i 0)
  && decide (ps.getD 30 0 ≤ ps.getD 31 0)

/-- A profile every part of which holds what its rule allows (R3, R5 to R8, R178, R190). -/
def Profile.wf (p : Profile) : Bool :=
  p.rxMap.length == 64
  && (p.codeTable.length == 128 && p.codeTable.all CodeRec.ok)
  && (p.keyTable.length == 128 && p.keyTable.all (· != .character 0o033#7))
  && decide (p.answerbackLen ≤ 20)
  && (p.answerbackCodes.length == 20 && p.answerbackCodes.all fun c => c != 0o005#7 && c != 0o033#7)
  && callCodeOk p.callCode && accessNumberOk p.operatorNumber && accessNumberOk p.supervisorNumber
  && paramsOk p.params

end Sys2Proof.Machine
end

