-- ==== Sys2Proof/Config.lean ====
section
/-! DEFINITION. What the manual leaves open and the machine goes on from: the free values. -/

namespace Sys2Proof

/-- FREE VALUE (log entries 5 and 34). The bytes, without the check word, and the check word that stand in the profile image after a
write that was cut short (R192: "partly written") or that did not read back (R192: "as written"). The argument is the model's
count of such images, so each is a fresh value. Nothing constrains it. -/
opaque Config.spoiltBytes : Nat → List (BitVec 8) × BitVec 16

/-- FREE VALUE (log entry 5). The profile that those bytes hold, where they hold one: R189 does not give their order or encoding. It is
loaded only where the bytes pass their check. Nothing constrains it. -/
opaque Config.spoiltProfile : Nat → Option Machine.Profile

/-- FREE VALUE (log entry 34). The bytes of the image, without the check word, that hold a profile: R189 does not give their order or
encoding. Nothing constrains it. -/
opaque Config.imageBytes : Machine.Profile → List (BitVec 8)

end Sys2Proof
end

