-- ==== Sys2Proof/Machine/Operands.lean ====
section
/-! DEFINITION. The operand forms of directives: how a body is read as fields (R166), how numbers, flags and reasons are written
(R168, R194), and the fixed texts of headings and end rows (R86, R194, section 12.4). -/

namespace Sys2Proof.Machine

/-! ### Reading a body -/

/-- A digit code, 060 to 071. -/
def isDigit (c : Code) : Bool := decide (0o060 ≤ c.toNat ∧ c.toNat ≤ 0o071)

/-- Divide a body at each space; the field in progress is held reversed. -/
def splitAtSpaces : List Code → List Code → List (List Code)
  | acc, [] => [acc.reverse]
  | acc, c :: cs => if c = 0o040#7 then acc.reverse :: splitAtSpaces [] cs else splitAtSpaces (c :: acc) cs

/-- The fields of a body: none of an empty body, else the parts between its spaces (R166). -/
def rawFields : List Code → List (List Code)
  | [] => []
  | c :: cs => splitAtSpaces [] (c :: cs)

/-- A field is 1 to 8 digits (R166). -/
def fieldOk (f : List Code) : Bool := decide (1 ≤ f.length ∧ f.length ≤ 8) && f.all isDigit

/-- The fields of a body as written; `none` where any is not a digit string of 1 to 8 digits (R166). -/
def readFields (body : List Code) : Option (List (List Code)) :=
  if (rawFields body).all fieldOk then some (rawFields body) else none

/-- The decimal value of a digit string; leading zeros do not change it (R166). -/
def fieldValue (f : List Code) : Nat := f.foldl (fun v c => 10 * v + (c.toNat - 0o060)) 0

/-! ### Writing a line -/

/-- The internal code of a character of the common seven-bit code. -/
def chr (c : Char) : Code := BitVec.ofNat 7 c.toNat

/-- The code of a decimal digit. -/
def digit (n : Nat) : Code := BitVec.ofNat 7 (0o060 + n % 10)

/-- The decimal digits of `n`, at most `fuel` of them, before the codes in `acc`. -/
def decimalAcc : Nat → Nat → List Code → List Code
  | 0, _, acc => acc
  | fuel + 1, n, acc => if n < 10 then digit n :: acc else decimalAcc fuel (n / 10) (digit n :: acc)

/-- A number in decimal digits without leading zeros, 0 as one digit (R194). Twenty digits hold every number reported. -/
def number (n : Nat) : List Code := decimalAcc 20 n []

/-- A signed number (R194). -/
def signedNumber (i : Int) : List Code :=
  if i = 0 then [digit 0] else if 0 < i then 0o053#7 :: number i.toNat else 0o055#7 :: number (-i).toNat

/-- A flag, 0 or 1 (R194). -/
def flag (b : Bool) : List Code := [digit (if b then 1 else 0)]

/-- A serial: four digits (R194). -/
def fourDigits (n : Nat) : List Code := [digit (n / 1000), digit (n / 100), digit (n / 10), digit n]

/-- An entry number in a listing line: two digits (R194). -/
def twoDigits (n : Nat) : List Code := [digit (n / 10), digit n]

/-- CR, LF. -/
def crlf : List Code := [0o015#7, 0o012#7]

/-- A list of fields, each preceded by one space. -/
def spaced (fields : List (List Code)) : List Code := (fields.map (0o040#7 :: ·)).flatten

/-- The reason codes (R168). -/
inductive Reason where
  | a00 | a09 | n01 | n02 | n03 | n04 | n05 | n06 | n07 | n08 | n10 | n11 | n12 | n13 | n14
  deriving DecidableEq, Repr

/-- A reason as written: A or N and two digits (R168). -/
def Reason.text : Reason → List Code
  | .a00 => [chr 'A', digit 0, digit 0]
  | .a09 => [chr 'A', digit 0, digit 9]
  | .n01 => [chr 'N', digit 0, digit 1]
  | .n02 => [chr 'N', digit 0, digit 2]
  | .n03 => [chr 'N', digit 0, digit 3]
  | .n04 => [chr 'N', digit 0, digit 4]
  | .n05 => [chr 'N', digit 0, digit 5]
  | .n06 => [chr 'N', digit 0, digit 6]
  | .n07 => [chr 'N', digit 0, digit 7]
  | .n08 => [chr 'N', digit 0, digit 8]
  | .n10 => [chr 'N', digit 1, digit 0]
  | .n11 => [chr 'N', digit 1, digit 1]
  | .n12 => [chr 'N', digit 1, digit 2]
  | .n13 => [chr 'N', digit 1, digit 3]
  | .n14 => [chr 'N', digit 1, digit 4]

/-- A reply: its reason and its data fields (R168). -/
structure Reply where
  reason : Reason
  fields : List (List Code)
  deriving DecidableEq, Repr

/-- A reply that is its reason alone. -/
def Reason.alone (r : Reason) : Reply := ⟨r, []⟩

/-- A reply's reason and data fields as written. -/
def Reply.text (r : Reply) : List Code := List.append r.reason.text (spaced r.fields)

/-- A line reply (R194): CR, LF, the own call code where there is one, a space, the reply and CR, LF. -/
def Reply.lineText (p : Profile) (r : Reply) : List Code :=
  List.flatten [crlf, p.callLetters, [0o040#7], r.text, crlf]

/-! ### Fixed texts -/

/-- The heading the printer prints before a line record (R86). -/
def printHeading (serial precedence : Nat) : List Code :=
  List.flatten [fourDigits serial, [0o040#7, digit precedence], crlf]

/-- A serial as the resume header and the listing write it: four hyphens when absent (R86, R195). -/
def serialOrHyphens : Option Nat → List Code
  | none => List.replicate 4 0o055#7
  | some n => fourDigits n

/-- The resume header (R86). -/
def resumeHeader (serial : Option Nat) : List Code := List.flatten [[0o053#7], serialOrHyphens serial, crlf]

/-- The heading rows of a punched or retrieved record (section 12.4). -/
def headingRows (p : Profile) (serial precedence : Nat) : List Code :=
  List.flatten [[0o033#7], p.callLetters, [chr 'M', digit precedence, 0o040#7], fourDigits serial, [0o015#7]]

/-- The end rows of a punched or retrieved record (section 12.4). -/
def endRows (p : Profile) : List Code := List.flatten [[0o033#7], p.callLetters, [chr 'E', 0o015#7]]

/-- The body of an O or K as its echo carries it: each digit of the field `n`, what follows the first space, is a hyphen
(R183, R194). -/
def maskNumber (body : List Code) : List Code :=
  List.append (body.takeWhile (· != 0o040#7))
    ((body.dropWhile (· != 0o040#7)).map fun c => if isDigit c then 0o055#7 else c)

end Sys2Proof.Machine
end

