-- ==== Sys2Proof/Machine/ImageCheck.lean ====
section
/-! DEFINITION. The check of the profile image: its check word and what passes (R189). -/

namespace Sys2Proof.Machine

/-- The sum of the bytes of an image other than its check word. -/
def byteSum (bytes : List (BitVec 8)) : Nat := (bytes.map (·.toNat)).sum

/-- The check word that is stored with the bytes: 65535 minus their sum modulo 65536. -/
def checkWord (bytes : List (BitVec 8)) : BitVec 16 := BitVec.ofNat 16 (65535 - byteSum bytes % 65536)

/-- The check: the sum of the other bytes plus the check word is 65535 modulo 65536. -/
def checkPasses (bytes : List (BitVec 8)) (w : BitVec 16) : Bool := (byteSum bytes + w.toNat) % 65536 == 65535

end Sys2Proof.Machine
end

