-- ==== Sys2Proof/Machine/Memory.lean ====
section
/-! DEFINITION. The store's 16,384 cells (R39): a list of address and cell pairs in one canonical form, addresses strictly
rising and no cell listed that equals what an unlisted address reads as. -/

namespace Sys2Proof.Machine

/-- A cell: one stored character, its code and its quality (R39). -/
structure Cell where
  code : Code
  quality : Quality
  deriving DecidableEq, Repr

/-- The cells of the store. Cell `o` of block `b` has address `64 * b + o` (R39). -/
abbrev Memory := List (Nat × Cell)

/-- What an unlisted address reads as: code 000, quality GOOD, the contents after power-on (R39). -/
def Cell.blank : Cell := ⟨0o000#7, .good⟩

/-- The cell at an address. -/
def Memory.read : Memory → Nat → Cell
  | [], _ => .blank
  | (a, c) :: m, x => if x = a then c else if x < a then .blank else Memory.read m x

/-- A cell put in front of a memory whose addresses are higher, unless it is blank. -/
def Memory.consCell (x : Nat) (c : Cell) (m : Memory) : Memory := if c = .blank then m else (x, c) :: m

/-- Write a cell. -/
def Memory.write : Memory → Nat → Cell → Memory
  | [], x, c => Memory.consCell x c []
  | (a, d) :: m, x, c =>
    if x < a then Memory.consCell x c ((a, d) :: m)
    else if x = a then Memory.consCell x c m
    else (a, d) :: Memory.write m x c

/-- Every listed address lies at or above `lo`, they rise strictly, and no listed cell is blank. -/
def Memory.wfFrom : Nat → Memory → Bool
  | _, [] => true
  | lo, (a, c) :: m => decide (lo ≤ a) && decide (c ≠ .blank) && Memory.wfFrom (a + 1) m

/-- The canonical form. -/
def Memory.wf (m : Memory) : Bool := Memory.wfFrom 0 m

end Sys2Proof.Machine
end

