-- ==== Sys2Proof/Machine/State.lean ====
section
/-! DEFINITION. The state of the part, block by block (section 0.3), its faults and refusals, and its values after
power-on. Timers are `some d` while they run, with the length in ms they were started with, and `none` while stopped. -/

namespace Sys2Proof.Machine

/-- Why a command stops the part. No command of this part faults: every event of the manual leaves it running. -/
inductive Fault where
  /-- Raised by nothing. It names the one access the model could not make, a store cell at address 16,384 or above; every
  address the store forms lies in a block 0 to 255, so no meaning raises it. Safe. -/
  | noSuchCell
  deriving DecidableEq, Repr

/-- Why the model gives a command no meaning. -/
inductive Refusal where
  /-- Raised by an arm of `exec` whose command has no meaning yet. Safe. No arm raises it now. -/
  | notModelled (mnemonic : String)
  deriving DecidableEq, Repr

/-! ### Line Receiver (Chapter 2) -/

/-- The receiver states of section 2.2. -/
inductive RxState where
  | watching
  | hunting
  | sampling
  | candidate
  | spacing
  deriving DecidableEq, Repr

/-- One measured transition (R22). -/
structure Transition where
  boundary : Nat
  displacement : Int
  spaceGoing : Bool
  biasError : Int
  deriving DecidableEq, Repr

/-- The seven line statistics (section 2.12). -/
structure LineStats where
  characters : Nat
  doubtful : Nat
  mutilated : Nat
  falseStarts : Nat
  breaks : Nat
  peakMax : Nat
  peakSum : Nat
  deriving DecidableEq, Repr

/-- The Line Receiver. `tick` is the tick of the latest transition or sample of the character in progress, `samples` its
data elements so far; `peak` and `limit` are a break candidate's P and 64 × B (R27). -/
structure RxBlock where
  state : RxState
  rate : Nat
  tick : Nat
  sample : Nat
  transitions : List Transition
  samples : List LineCond
  peak : Nat
  limit : Nat
  be : Int
  plane : Plane
  stats : LineStats
  deriving DecidableEq, Repr

/-! ### Message Store (Chapter 3) -/

/-- The state of a directory entry (R41). -/
inductive RecState where
  | empty
  | receiving
  | suspended
  | composing
  | complete
  | cut
  deriving DecidableEq, Repr

/-- Who made a record (R41). -/
inductive Origin where
  | line
  | keyboard
  | station
  deriving DecidableEq, Repr

/-- An output status (R53). -/
inductive OutStatus where
  | none
  | pending
  | done
  | abandoned
  deriving DecidableEq, Repr

/-- A source of the punch (section 5.3). -/
inductive PunchSource where
  | line
  | keyboard
  | copy
  deriving DecidableEq, Repr

/-- One output of a record: its status, its cursor and its attachment mark (R41, R54). -/
structure Output where
  status : OutStatus
  cursor : Nat
  mark : Bool
  deriving DecidableEq, Repr

/-- A directory entry (R41). -/
structure Record where
  state : RecState
  origin : Origin
  serial : Option Nat
  precedence : Nat
  implicit : Bool
  length : Nat
  blocks : List Nat
  print : Output
  started : Bool
  punch : Output
  punchSource : PunchSource
  send : Output
  retained : Bool
  deletePending : Bool
  duplicate : Bool
  overflowed : Bool
  doubtful : Nat
  mutilated : Nat
  deriving DecidableEq, Repr

/-- An output that is not wanted. -/
def Output.none : Output := ⟨.none, 0, false⟩

/-- An EMPTY entry: the last column of R41 (its origin, precedence and punch source mean nothing). -/
def Record.empty : Record where
  state := .empty
  origin := .line
  serial := Option.none
  precedence := 0
  implicit := false
  length := 0
  blocks := []
  print := .none
  started := false
  punch := .none
  punchSource := .line
  send := .none
  retained := false
  deletePending := false
  duplicate := false
  overflowed := false
  doubtful := 0
  mutilated := 0

/-- An entry of the open-message stack: a precedence, and the record's entry number or VOID (`none`) (R47). -/
structure StackEntry where
  precedence : Nat
  entry : Option Nat
  deriving DecidableEq, Repr

/-- The Message Store. Entry number `e` is `dir` position `e - 1`; the open-message stack is listed top first. -/
structure StoreBlock where
  cells : Memory
  free : List Nat
  dir : List Record
  arrival : List Nat
  openStack : List StackEntry
  linePrint : Bool
  localSerial : Nat
  overflowCount : Nat
  lostMessageCount : Nat
  lostNoticeCount : Nat
  strayEndCount : Nat
  deriving DecidableEq, Repr

/-! ### Print Controller (Chapter 4) -/

/-- A printer operation (R67). -/
inductive PrinterOp where
  | print (position : Nat) (advance : Bool)
  | space
  | ret
  | feed
  | bell
  deriving DecidableEq, Repr

/-- A print context (R81). -/
structure PrintContext where
  entry : Nat
  lineStart : Nat
  midLine : Bool
  deriving DecidableEq, Repr

/-- What the sequence in progress belongs to (R74, R85, R87); `none` at a boundary. -/
inductive SeqKind where
  | none
  | opening
  | resumption
  | cell
  deriving DecidableEq, Repr

/-- The Print Controller. The sequence in progress is the converted operations `ops` not yet issued and then the text codes
`codes` (a heading or resume header) not yet taken. Contexts are listed top first. `lastFeed` says whether the last
operation completed was a FEED (R88). `paperOut` and `paperLow` are the sensor inputs. -/
structure PrintBlock where
  column : Nat
  pageLine : Nat
  bellFlag : Bool
  contexts : List PrintContext
  inFlight : Option PrinterOp
  ops : List PrinterOp
  codes : List Code
  kind : SeqKind
  held : Bool
  fault : Bool
  failedOp : Option PrinterOp
  faultTimer : Option Nat
  lastFeed : Bool
  paperOut : Bool
  paperLow : Bool
  deriving DecidableEq, Repr

/-! ### Punch Controller (Chapter 5) -/

/-- The state of a claim (R101). -/
inductive ClaimState where
  | idle
  | waiting
  | holding
  | draining
  deriving DecidableEq, Repr

/-- An entry of the claim table (R101). -/
structure Claim where
  state : ClaimState
  count : Nat
  deriving DecidableEq, Repr

/-- The piece in progress (R99). `reelLeader` is the leader a NEW TAPE punches (R113). -/
inductive Piece where
  | none
  | leader
  | reelLeader
  | trailer
  | feed
  | heading
  | cell
  | endRows
  deriving DecidableEq, Repr

/-- The Punch Controller. The piece in progress is the rows `rows` not yet issued and then the framing codes `codes` not yet
taken; `shiftAfter` is the shift state the rows in progress leave (R108). `framed`, `headingDone` and `endDone` belong to
the current record (R110, R109); `leaderOwed` is R100 item 2; `newTapeDue` is a NEW TAPE that waits for the row in flight
and `restart` the work its leader replaced (R113). -/
structure PunchBlock where
  lineClaim : Claim
  keyboardClaim : Claim
  copyClaim : Claim
  copyList : List Nat
  inFlight : Option Row
  rows : List Row
  codes : List Code
  shiftAfter : Option ShiftState
  piece : Piece
  current : Option Nat
  framed : Bool
  headingDone : Bool
  endDone : Bool
  shift : ShiftState
  tapeSupply : Nat
  tapeOut : Bool
  fault : Bool
  failedRow : Option Row
  faultTimer : Option Nat
  feedRows : Nat
  leaderOwed : Bool
  newTapeDue : Bool
  restart : Bool
  skipCount : Nat
  deriving DecidableEq, Repr

/-! ### Keyboard Scanner (Chapter 6) -/

/-- The debounce state of a key position (R116). -/
inductive Debounce where
  | up
  | pressing
  | down
  | releasing
  deriving DecidableEq, Repr

/-- The role of a key that is down (R117); a modifier also records whether its key-down was accepted (R118, R119). -/
inductive KeyRole where
  | none
  | shiftModifier (accepted : Bool)
  | repeatModifier (accepted : Bool)
  | pairMember
  | blocked
  deriving DecidableEq, Repr

/-- One key position. -/
structure KeyCell where
  debounce : Debounce
  role : KeyRole
  deriving DecidableEq, Repr

/-- A member of the rollover pair; `live` while its latest key-down or repetition was dispatched as a CHARACTER entry and
accepted (R119). -/
structure PairKey where
  key : KeyPos
  live : Bool
  deriving DecidableEq, Repr

/-- The keyboard mode (R127). -/
inductive KbMode where
  | line
  | loc
  deriving DecidableEq, Repr

/-- The Keyboard Scanner. The pair is listed in the order of its key-downs. The BREAK lock reason is its running timer
(R121). `bellPulses` counts the pulses given on the panel bell output: the model's own count of an output (log entry 12). -/
structure KbBlock where
  keys : List KeyCell
  pair : List PairKey
  repeatKey : Option KeyPos
  repeatTimer : Option Nat
  mode : KbMode
  breakTimer : Option Nat
  entryFlag : Bool
  closeTimer : Option Nat
  blockedCount : Nat
  noRoomCount : Nat
  bellPulses : Nat
  deriving DecidableEq, Repr

/-! ### Line Transmitter (Chapter 7) -/

/-- What a unit in flight belongs to; `orphan` once its item has been discarded (R141 to R143). -/
inductive TxItem where
  | answerback
  | reply
  | retrievalText
  | retrievalCell (entry : Nat)
  | keyboardCell (entry : Nat)
  | orphan
  deriving DecidableEq, Repr

/-- What is in flight on the send data: a character of a unit, with the characters of the unit that follow it and the shift
state after the last (R133); or a break with its space in UI (R135). -/
inductive TxFlight where
  | character (c : Row) (rest : List Row) (after : ShiftState) (item : TxItem)
  | brk (spaceUi : Nat)
  deriving DecidableEq, Repr

/-- The answerback state, with the codes of the copy still to be taken while SENDING (R136). -/
inductive AnswerbackState where
  | none
  | pending
  | sending (rest : List Code)
  deriving DecidableEq, Repr

/-- A part of a retrieval (R139). -/
inductive RetrievalPart where
  | crlf
  | heading
  | cells
  | endRows
  deriving DecidableEq, Repr

/-- The retrieval item: the record while the item refers to it, whether it has a serial, the part in progress with its codes
still to be taken, and the parts to come (R139, R140). -/
structure Retrieval where
  entry : Option Nat
  hasSerial : Bool
  part : RetrievalPart
  codes : List Code
  todo : List RetrievalPart
  deriving DecidableEq, Repr

/-- The Line Transmitter. `reply` is the codes of the reply line in progress still to be taken. -/
structure TxBlock where
  shift : ShiftState
  inFlight : Option TxFlight
  breakPending : Bool
  answerback : AnswerbackState
  reply : Option (List Code)
  retrieval : Option Retrieval
  keyboardText : Option Nat
  skipCount : Nat
  suppressionCount : Nat
  deriving DecidableEq, Repr

/-! ### Connection Controller (Chapter 8) -/

/-- The connection state (section 8.1). -/
inductive ConnState where
  | idle
  | answering
  | calling
  | connected
  | clearing
  | lost
  deriving DecidableEq, Repr

/-- The line type (R144). -/
inductive LineType where
  | switched
  | permanent
  deriving DecidableEq, Repr

/-- The Connection Controller. `lineCond` is both the receive data input and the condition last reported, which never differ
(R34); `callInput` is the CALL input, which the CALL lamp follows (R158). -/
structure ConnBlock where
  state : ConnState
  lineType : LineType
  lineCond : LineCond
  callInput : Bool
  loop : Bool
  clearingSpace : Bool
  stableMark : Option Nat
  answerTimer : Option Nat
  callTimer : Option Nat
  sustainedSpace : Option Nat
  lineIdle : Option Nat
  clearingTimer : Option Nat
  callAnswerable : Bool
  selected : Bool
  attended : Bool
  deriving DecidableEq, Repr

/-! ### Directive Interpreter (Chapter 9) -/

/-- The state of an assembler (R160, R162). -/
inductive AsmState where
  | idle
  | call
  | letter
  | body
  | discard
  deriving DecidableEq, Repr

/-- The match result of a line directive (R160, R161). -/
inductive MatchResult where
  | none
  | own
  | broadcast
  | foreign
  deriving DecidableEq, Repr

/-- An assembler: its state, match result and the characters held after LEAD (R163). -/
structure Assembler where
  state : AsmState
  result : MatchResult
  buffer : List Code
  deriving DecidableEq, Repr

/-- The kind of a reply queue entry (R167). -/
inductive ReplyKind where
  | lineReply
  | listing
  | reserved
  deriving DecidableEq, Repr

/-- A deferred action (R167). -/
inductive Deferred where
  | none
  | clear
  | reset
  deriving DecidableEq, Repr

/-- One captured entry number of a listing, and whether it is gone (R172). -/
structure Captured where
  entry : Nat
  gone : Bool
  deriving DecidableEq, Repr

/-- An entry of the reply queue (R167). `text` is the line to be sent next; `sent` is how many listing lines have been
composed. -/
structure ReplyEntry where
  kind : ReplyKind
  text : List Code
  deferred : Deferred
  captured : List Captured
  sent : Nat
  deriving DecidableEq, Repr

/-- The Directive Interpreter; the reply queue is listed head first. -/
structure DirBlock where
  lineAsm : Assembler
  localAsm : Assembler
  queue : List ReplyEntry
  overlongCount : Nat
  malformedCount : Nat
  overrunCount : Nat
  deriving DecidableEq, Repr

/-! ### Access Control (Chapter 10) -/

/-- The open state of a source (R179). -/
inductive OpenState where
  | closed
  | operator
  | supervisor
  deriving DecidableEq, Repr

/-- Access Control. -/
structure AccessBlock where
  attempts : Nat
  expired : Bool
  frozen : Bool
  lineOpen : OpenState
  localOpen : OpenState
  deriving DecidableEq, Repr

/-! ### Motor Control and Profile Memory (Chapter 11) -/

/-- The motor state (R187). -/
inductive MotorState where
  | stopped
  | starting
  | running
  deriving DecidableEq, Repr

/-- Motor Control. `quiet` says whether the condition of R188 (nothing in flight, nothing ready) has held since the idle timer
was last considered: the model's own field, so that the timer starts at the first moment the condition holds. -/
structure MotorBlock where
  state : MotorState
  runUp : Option Nat
  idle : Option Nat
  quiet : Bool
  deriving DecidableEq, Repr

/-- The nonvolatile image (R189): its bytes other than the check word, the parts that they hold, and the check word. The order and
encoding of the bytes are not given (log entry 34). -/
structure Image where
  parts : Profile
  bytes : List (BitVec 8)
  check : BitVec 16
  deriving DecidableEq, Repr

/-- The image passes its check (R189). -/
def Image.passes (i : Image) : Bool := checkPasses i.bytes i.check

/-- The working copy that a start-up or a reload takes from the image: its parts, or the factory defaults (R191). -/
def Image.loaded (i : Image) : Profile := if i.passes then i.parts else .factory

/-- A commit in progress: the snapshot with the check word composed for it, as it is being written into the image, and whether the V
came from the line (R192, R175). -/
structure Commit where
  written : Image
  fromLine : Bool
  deriving DecidableEq, Repr

/-- Profile Memory. `commit` is `some` while WRITING. -/
structure ProfileBlock where
  image : Image
  working : Profile
  commit : Option Commit
  fault : Bool
  deriving DecidableEq, Repr

/-- The state of the part, and the commands that wait for it, first in first out. `spoilt` counts the spoilt images so far,
so that each is a fresh free value (log entry 5). -/
structure State where
  powered : Bool
  rx : RxBlock
  store : StoreBlock
  print : PrintBlock
  punch : PunchBlock
  kb : KbBlock
  tx : TxBlock
  conn : ConnBlock
  dir : DirBlock
  access : AccessBlock
  motor : MotorBlock
  profile : ProfileBlock
  spoilt : Nat
  pending : List Instr
  deriving DecidableEq, Repr

/-! ### Values after power-on -/

/-- The line statistics cleared (R37). -/
def LineStats.zero : LineStats := ⟨0, 0, 0, 0, 0, 0, 0⟩

/-- The Line Receiver after power-on (section 2.14). -/
def RxBlock.start (p : Profile) : RxBlock where
  state := .watching
  rate := p.rateIndex
  tick := 0
  sample := 32
  transitions := []
  samples := []
  peak := 0
  limit := 0
  be := 0
  plane := .letters
  stats := .zero

/-- The Message Store after power-on (R66). -/
def StoreBlock.start : StoreBlock where
  cells := []
  free := List.range 256
  dir := List.replicate 32 .empty
  arrival := []
  openStack := []
  linePrint := true
  localSerial := 1
  overflowCount := 0
  lostMessageCount := 0
  lostNoticeCount := 0
  strayEndCount := 0

/-- The Print Controller after power-on (R94), with its sensor inputs as they stand. -/
def PrintBlock.start (paperOut paperLow : Bool) : PrintBlock where
  column := 1
  pageLine := 1
  bellFlag := false
  contexts := []
  inFlight := none
  ops := []
  codes := []
  kind := .none
  held := false
  fault := false
  failedOp := none
  faultTimer := none
  lastFeed := false
  paperOut := paperOut
  paperLow := paperLow

/-- A claim that is IDLE with count 0 (R101). -/
def Claim.start : Claim := ⟨.idle, 0⟩

/-- The Punch Controller after power-on (R98, R115). -/
def PunchBlock.start (p : Profile) : PunchBlock where
  lineClaim := .start
  keyboardClaim := .start
  copyClaim := .start
  copyList := []
  inFlight := none
  rows := []
  codes := []
  shiftAfter := none
  piece := .none
  current := none
  framed := false
  headingDone := false
  endDone := false
  shift := .unknown
  tapeSupply := p.reelLength
  tapeOut := false
  fault := false
  failedRow := none
  faultTimer := none
  feedRows := 0
  leaderOwed := false
  newTapeDue := false
  restart := false
  skipCount := 0

/-- The Keyboard Scanner after power-on (R130), with the model's count of bell pulses as it stands. -/
def KbBlock.start (bellPulses : Nat) : KbBlock where
  keys := List.replicate 64 ⟨.up, .none⟩
  pair := []
  repeatKey := none
  repeatTimer := none
  mode := .line
  breakTimer := none
  entryFlag := false
  closeTimer := none
  blockedCount := 0
  noRoomCount := 0
  bellPulses := bellPulses

/-- The Line Transmitter after power-on (R143). -/
def TxBlock.start : TxBlock where
  shift := .unknown
  inFlight := none
  breakPending := false
  answerback := .none
  reply := none
  retrieval := none
  keyboardText := none
  skipCount := 0
  suppressionCount := 0

/-- The line type a value of parameter 07 gives (R144). -/
def LineType.ofParam (v : Nat) : LineType := if v = 1 then .permanent else .switched

/-- The Connection Controller after power-on, with its inputs as they stand: on a permanent line at mark the stable mark timer
starts at once (R144). -/
def ConnBlock.start (p : Profile) (cond : LineCond) (callInput : Bool) : ConnBlock where
  state := .idle
  lineType := .ofParam p.lineTypeParam
  lineCond := cond
  callInput := callInput
  loop := false
  clearingSpace := false
  stableMark := if LineType.ofParam p.lineTypeParam = .permanent ∧ cond = .mark then some 1000 else none
  answerTimer := none
  callTimer := none
  sustainedSpace := none
  lineIdle := none
  clearingTimer := none
  callAnswerable := false
  selected := false
  attended := false

/-- An assembler that is IDLE with its buffer empty. -/
def Assembler.start : Assembler := ⟨.idle, .none, []⟩

/-- The Directive Interpreter after power-on (R177). -/
def DirBlock.start : DirBlock := ⟨.start, .start, [], 0, 0, 0⟩

/-- Access Control after power-on (R186). -/
def AccessBlock.start : AccessBlock := ⟨0, false, false, .closed, .closed⟩

/-- Motor Control after power-on (R187). -/
def MotorBlock.start : MotorBlock := ⟨.stopped, none, none, false⟩

/-- Profile Memory after a start-up with this image (R191). -/
def ProfileBlock.start (i : Image) : ProfileBlock := ⟨i, i.loaded, none, !i.passes⟩

/-- The part after a start-up, given what a start-up does not set: the image, the inputs, the model's own counts and the
waiting commands. -/
def State.start (image : Image) (cond : LineCond) (callInput paperOut paperLow : Bool) (bellPulses spoilt : Nat)
    (pending : List Instr) : State :=
  let prof : ProfileBlock := .start image
  { powered := true
    rx := .start prof.working
    store := .start
    print := .start paperOut paperLow
    punch := .start prof.working
    kb := .start bellPulses
    tx := .start
    conn := .start prof.working cond callInput
    dir := .start
    access := .start
    motor := .start
    profile := prof
    spoilt := spoilt
    pending := pending }

/-- The machine right after power-on. The manual does not give the image a part leaves the factory with, nor its inputs:
DESIGN CHOICE (log entries 2 and 3): the image is blank, every byte and the check word 0, and so fails its check, and the factory
defaults stand; the line is at mark, no call is present, and paper is present. -/
def State.reset : State := State.start ⟨.factory, [], 0#16⟩ .mark false false false 0 0 []

end Sys2Proof.Machine
end

