-- ==== Sys2Proof/Machine/Ops.lean ====
section
/-! DEFINITION. The operations every block shares: changing one block, counters, timers, and the directory's entries with the
disposition rule (R57 to R60). -/

namespace Sys2Proof.Machine

/-! ### Changing one block -/

namespace State

def onRx (s : State) (f : RxBlock → RxBlock) : State := { s with rx := f s.rx }
def onStore (s : State) (f : StoreBlock → StoreBlock) : State := { s with store := f s.store }
def onPrint (s : State) (f : PrintBlock → PrintBlock) : State := { s with print := f s.print }
def onPunch (s : State) (f : PunchBlock → PunchBlock) : State := { s with punch := f s.punch }
def onKb (s : State) (f : KbBlock → KbBlock) : State := { s with kb := f s.kb }
def onTx (s : State) (f : TxBlock → TxBlock) : State := { s with tx := f s.tx }
def onConn (s : State) (f : ConnBlock → ConnBlock) : State := { s with conn := f s.conn }
def onDir (s : State) (f : DirBlock → DirBlock) : State := { s with dir := f s.dir }
def onAccess (s : State) (f : AccessBlock → AccessBlock) : State := { s with access := f s.access }
def onMotor (s : State) (f : MotorBlock → MotorBlock) : State := { s with motor := f s.motor }
def onProfile (s : State) (f : ProfileBlock → ProfileBlock) : State := { s with profile := f s.profile }

/-- The working copy every block reads (R189). -/
def working (s : State) : Profile := s.profile.working

/-- The working copy changed. -/
def onWorking (s : State) (f : Profile → Profile) : State := s.onProfile fun b => { b with working := f b.working }

end State

/-- A 16-bit saturating counter increased by 1 (section 0.6). -/
def sat16 (n : Nat) : Nat := if n < 65535 then n + 1 else n

/-- A quality count increased by 1, saturating at 255 (R46). -/
def sat8 (n : Nat) : Nat := if n < 255 then n + 1 else n

/-- A timer given in seconds, where 0 means none (R151, R188). -/
def secondsTimer (n : Nat) : Option Nat := if n = 0 then none else some (n * 1000)

/-- One pulse of the panel bell output (R120). -/
def State.bell (s : State) : State := s.onKb fun b => { b with bellPulses := b.bellPulses + 1 }

/-! ### Directory entries -/

/-- RECEIVING, SUSPENDED and COMPOSING are the open states (R44). -/
def RecState.isOpen : RecState → Bool
  | .receiving | .suspended | .composing => true
  | .empty | .complete | .cut => false

/-- COMPLETE and CUT are the closed states (R44). -/
def RecState.isClosed : RecState → Bool
  | .complete | .cut => true
  | .empty | .receiving | .suspended | .composing => false

/-- An output that is owed (R53). -/
def Output.owed (o : Output) : Bool := o.status == .pending

/-- A PENDING output given up; any other status stays (R58). -/
def Output.giveUp (o : Output) : Output := if o.owed then { o with status := .abandoned } else o

/-- The disposition condition (R57). -/
def Record.disposable (r : Record) : Bool :=
  r.state.isClosed && !r.print.owed && !r.punch.owed && !r.send.owed && !r.retained
  && !r.print.mark && !r.punch.mark && !r.send.mark

/-- A closed record owed to the printer with no context and no cell unprinted (R83). -/
def Record.printedOut (r : Record) : Bool :=
  r.print.owed && !r.print.mark && r.state.isClosed && r.print.cursor == r.length

/-- The captured list of a listing with an entry number marked gone, if its line has not yet been composed (R172). -/
def ReplyEntry.markGone (e : Nat) (q : ReplyEntry) : ReplyEntry :=
  let later := (q.captured.drop q.sent).map fun c => if c.entry = e then { c with gone := true } else c
  { q with captured := List.append (q.captured.take q.sent) later }

namespace State

/-- The record of entry number `e`, 1 to 32 (R41). -/
def record (s : State) (e : Nat) : Record := s.store.dir.getD (e - 1) .empty

/-- Entry number `e` with its record replaced. -/
def setRecord (s : State) (e : Nat) (r : Record) : State := s.onStore fun b => { b with dir := b.dir.set (e - 1) r }

/-- Freeing a record (R60): its blocks go to the tail of the free-block list, its number leaves the arrival list, its entry
becomes EMPTY, and the listings in the reply queue mark it gone (R172). -/
def freeRecord (s : State) (e : Nat) : State :=
  ((s.onStore fun b => { b with free := List.append b.free (s.record e).blocks, arrival := b.arrival.erase e }).setRecord e
    .empty).onDir fun d => { d with queue := d.queue.map (ReplyEntry.markGone e) }

/-- Examine entry `e` after a change to it: a record with no cell left to print is DONE (R83), and a record that meets the
disposition condition is freed at once (R57). -/
def examine (s : State) (e : Nat) : State :=
  let r := s.record e
  let r' : Record := if r.printedOut then { r with print := { r.print with status := .done } } else r
  if r'.disposable then s.freeRecord e else s.setRecord e r'

/-- Change entry `e` and examine it. -/
def updRecord (s : State) (e : Nat) (f : Record → Record) : State := (s.setRecord e (f (s.record e))).examine e

/-- Do `f` for each in-use entry, in the order of the arrival list as it stands at the start. -/
def forRecords (s : State) (f : State → Nat → State) : State := s.store.arrival.foldl f s

/-- The lowest-numbered EMPTY entry (R42). -/
def lowestEmpty (s : State) : Option Nat := ((List.range 32).map (· + 1)).find? fun e => (s.record e).state == .empty

/-- The number of EMPTY entries (R42). -/
def emptyEntries (s : State) : Nat := (((List.range 32).map (· + 1)).filter fun e => (s.record e).state == .empty).length

/-- The address of cell `i` of a record (R39). -/
def cellAddress (r : Record) (i : Nat) : Nat := 64 * r.blocks.getD (i / 64) 0 + i % 64

/-- Cell `i` of entry `e`. -/
def cellOf (s : State) (e i : Nat) : Cell := s.store.cells.read (cellAddress (s.record e) i)

/-- The COMPOSING record, if any (R63). -/
def composing (s : State) : Option Nat := s.store.arrival.find? fun e => (s.record e).state == .composing

end State

/-! ### Whose record comes first -/

/-- The entry of highest precedence among those that qualify, and the earliest in the arrival list among equals (R43, R82,
R106). -/
def State.bestEntry (s : State) (ok : Record → Bool) : Option Nat :=
  s.store.arrival.foldl
    (fun best e =>
      if ok (s.record e) then
        match best with
        | none => some e
        | some b => if (s.record b).precedence < (s.record e).precedence then some e else some b
      else best)
    none

end Sys2Proof.Machine
end

