-- ==== Sys2Proof/Machine/Flags.lean ====
section
/-! DEFINITION. What the part shows of its state, computed from it: the service states, the demand for the motor, the lamps and
indications, the lock reasons, the shift level and the send data. -/

namespace Sys2Proof.Machine

/-- The printer service states (R78). -/
inductive PrinterService where
  | idle | ready | busy | held | fault
  deriving DecidableEq, Repr

/-- The punch service states (R98). -/
inductive PunchService where
  | idle | ready | busy | tapeOut | fault
  deriving DecidableEq, Repr

/-- The printer service state (R78). -/
def PrintBlock.service (b : PrintBlock) : PrinterService :=
  if b.fault then .fault
  else if b.inFlight.isSome then .busy
  else if b.held then .held
  else if b.ops.isEmpty then .idle
  else .ready

/-- The punch service state (R98). -/
def PunchBlock.service (b : PunchBlock) : PunchService :=
  if b.fault then .fault
  else if b.inFlight.isSome then .busy
  else if b.tapeOut then .tapeOut
  else if b.rows.isEmpty then .idle
  else .ready

namespace State

/-- Demand from either controller: its service state is READY (R187). -/
def demand (s : State) : Bool := s.print.service == .ready || s.punch.service == .ready

/-- The MOTOR ON output (R187). -/
def motorOn (s : State) : Bool := s.motor.state != .stopped

/-- The TAPE LOW indication (R111). -/
def tapeLow (s : State) : Bool := decide (s.punch.tapeSupply ≤ s.working.tapeLowRows)

/-- The ALARM lamp: lit while any block holds a request for it (R69, R79, R97, R112, R191). -/
def alarmLamp (s : State) : Bool :=
  s.print.fault || s.print.held || s.punch.fault || s.punch.tapeOut || s.profile.fault

/-- The MESSAGE WAITING lamp: lit while any in-use record is retained (R56). -/
def messageWaitingLamp (s : State) : Bool := s.store.dir.any fun r => r.state != .empty && r.retained

/-- The CALL lamp (R158). -/
def callLamp (s : State) : Bool := s.conn.callInput

/-- The CONNECTED lamp (R158). -/
def connectedLamp (s : State) : Bool := s.conn.state == .connected

/-- The ATTENDED lamp (R158). -/
def attendedLamp (s : State) : Bool := s.conn.attended

/-- The connection is CONNECTED. -/
def isConnected (s : State) : Bool := s.conn.state == .connected

/-- The UNATTENDED lock reason (R121). -/
def unattendedLock (s : State) : Bool := !s.conn.attended

/-- The SEND-LAG lock reason: 64 unsent cells in a COMPOSING record whose send is PENDING (R121). -/
def sendLagLock (s : State) : Bool :=
  match s.composing with
  | none => false
  | some e => (s.record e).send.owed && (s.record e).length - (s.record e).send.cursor == 64

/-- The BREAK lock reason (R121). -/
def breakLock (s : State) : Bool := s.kb.breakTimer.isSome

/-- Some lock reason is present (R121). -/
def locked (s : State) : Bool := s.unattendedLock || s.sendLagLock || s.breakLock

/-- The shift level (R118). -/
def shiftLevel (s : State) : Nat := if s.kb.keys.any (·.role == .shiftModifier true) then 1 else 0

/-- A REPEAT modifier whose key-down was accepted is held (R119). -/
def repeatHeld (s : State) : Bool := s.kb.keys.any (·.role == .repeatModifier true)

end State

/-- The statistics full indication (R36). -/
def LineStats.full (t : LineStats) : Bool := t.characters == 65535

/-- A condition held for a number of half unit intervals. -/
abbrev Element := LineCond × Nat

/-- The frame of a character on the send data (R132, section 12.1): start, five data elements, and the stop element of 1.5 UI. -/
def frame (c : Row) : List Element :=
  List.flatten [[(LineCond.space, 2)],
    (List.range 5).map fun k => (if c.getLsbD k then LineCond.mark else LineCond.space, 2), [(LineCond.mark, 3)]]

/-- The elements of what is in flight on the send data: a character's frame, or a break's space and its 1.5 UI of mark (R132,
R135). -/
def TxFlight.elements : TxFlight → List Element
  | .character c _ _ _ => frame c
  | .brk ui => [(LineCond.space, 2 * ui), (LineCond.mark, 3)]

/-- What the send data carries: the clearing space over anything else (R153), the elements in flight, or mark at rest (the
empty list) (R132). -/
def State.sendData (s : State) : List Element :=
  if s.conn.clearingSpace then [(LineCond.space, 0)]
  else match s.tx.inFlight with
    | none => []
    | some f => f.elements

end Sys2Proof.Machine
end

