-- ==== Sys2Proof/Machine/StoreOps.lean ====
section
/-! DEFINITION. The Message Store's own operations (Chapter 3): appending, creation, headings, ends, line text, teardown, the
keyboard's requests and station notices. -/

namespace Sys2Proof.Machine

/-- A record after a successful append of a character of this quality (R45, R46). -/
def Record.grown (r : Record) (q : Quality) : Record :=
  { r with
    length := r.length + 1
    doubtful := if q = .doubtful then sat8 r.doubtful else r.doubtful
    mutilated := if q = .mutilated then sat8 r.mutilated else r.mutilated }

namespace State

/-- Write a cell of entry `e` at its length and count it. -/
def putCell (s : State) (e : Nat) (c : Cell) : State :=
  let r := s.record e
  (s.onStore fun b => { b with cells := b.cells.write (cellAddress r r.length) c }).setRecord e (r.grown c.quality)

/-- Append a character to entry `e` (R45); `none` where the append fails, with nothing changed. -/
def append (s : State) (e : Nat) (c : Cell) : Option State :=
  let r := s.record e
  if 16383 ≤ r.length then none
  else if r.length % 64 = 0 then
    match s.store.free with
    | [] => none
    | b :: rest =>
      some (((s.onStore fun st => { st with free := rest }).setRecord e
        { r with blocks := List.append r.blocks [b] }).putCell e c)
  else some (s.putCell e c)

/-- Create a record in the lowest EMPTY entry, with its number; `none` where no entry is EMPTY (R42). -/
def create (s : State) (r : Record) : Option (State × Nat) :=
  match s.lowestEmpty with
  | none => none
  | some e =>
    let kept : Record := { r with retained := !s.conn.attended && s.working.retainUnattended }
    some ((s.setRecord e kept).onStore fun b => { b with arrival := List.append b.arrival [e] }, e)

/-- A source's claim is HOLDING or WAITING: it marks new records (R101). -/
def claims (c : Claim) : Bool := c.state == .holding || c.state == .waiting

/-- A status PENDING where the output is wanted, NONE where not. -/
def wanted (w : Bool) : Output := ⟨if w then .pending else .none, 0, false⟩

/-- A new line record (R48, R51): its outputs marked from the line print switch and the LINE claim as they stand. -/
def lineRecord (s : State) (precedence : Nat) (serial : Option Nat) : Record :=
  { Record.empty with
    state := .receiving
    origin := .line
    serial := serial
    precedence := precedence
    implicit := serial.isNone
    print := wanted s.store.linePrint
    punch := wanted (claims s.punch.lineClaim)
    punchSource := .line }

/-- Close a record the line side lets go: CUT if explicit, COMPLETE if implicit (R48 step 1). -/
def closeLineRecord (s : State) (e : Nat) : State :=
  s.updRecord e fun r => { r with state := if r.implicit then .complete else .cut }

/-- Close the record a stack entry names, if any. -/
def closeEntry (s : State) (t : StackEntry) : State :=
  match t.entry with
  | none => s
  | some e => s.closeLineRecord e

/-- Set the open-message stack, top first. -/
def setStack (s : State) (st : List StackEntry) : State := s.onStore fun b => { b with openStack := st }

/-- Step 1 of a heading: pop and close every entry of precedence `p` or above from the top (R48). -/
def cutFrom (p : Nat) : List StackEntry → State → State
  | [], s => s.setStack []
  | t :: rest, s => if p ≤ t.precedence then cutFrom p rest (s.closeEntry t) else s.setStack (t :: rest)

/-- The record on top of the stack, if it names one, takes a state (R48 step 2, R50). -/
def topTakes (s : State) (st : RecState) : State :=
  match s.store.openStack with
  | ⟨_, some e⟩ :: _ => s.updRecord e fun r => { r with state := st }
  | _ => s

/-- Push an entry on the stack. -/
def push (s : State) (t : StackEntry) : State := s.setStack (t :: s.store.openStack)

/-- Push VOID and count the lost message (R48 step 3, R51, R65). -/
def pushVoid (s : State) (p : Nat) : State :=
  (s.push ⟨p, none⟩).onStore fun b => { b with lostMessageCount := sat16 b.lostMessageCount }

/-- Some in-use LINE record holds a serial (R49). -/
def serialHeld (s : State) (n : Nat) : Bool :=
  s.store.arrival.any fun e => (s.record e).origin == .line && (s.record e).serial == some n

/-- A heading request (R48, R49). -/
def heading (s : State) (p n : Nat) : State :=
  let s := (cutFrom p s.store.openStack s).topTakes .suspended
  match s.create { s.lineRecord p (some n) with duplicate := s.serialHeld n } with
  | none => s.pushVoid p
  | some (s, e) => s.push ⟨p, some e⟩

/-- An end request (R50). -/
def endMessage (s : State) : State :=
  match s.store.openStack with
  | [] => s.onStore fun b => { b with strayEndCount := sat16 b.strayEndCount }
  | t :: rest =>
    let s := s.setStack rest
    (match t.entry with
      | none => s
      | some e => s.updRecord e fun r => { r with state := .complete }).topTakes .receiving

/-- Append line text to entry `e`; a character that cannot be appended is dropped, marked and counted (R51). -/
def appendLine (s : State) (e : Nat) (c : Cell) : State :=
  match s.append e c with
  | some s => s
  | none =>
    (s.setRecord e { s.record e with overflowed := true }).onStore fun b =>
      { b with overflowCount := sat16 b.overflowCount }

/-- Line text (R51): a cell as the store is to hold it. -/
def lineText (s : State) (c : Cell) : State :=
  match s.store.openStack with
  | [] =>
    match s.create (s.lineRecord 0 none) with
    | none => s.pushVoid 0
    | some (s, e) => (s.push ⟨0, some e⟩).appendLine e c
  | ⟨_, some e⟩ :: _ => s.appendLine e c
  | ⟨_, none⟩ :: _ => s

/-- A received character offered to the store (R33): good and doubtful ones pass the store-input conversion, a mutilated one is
stored as delivered (R2). -/
def offerText (s : State) (c : Code) (q : Quality) : State :=
  if q = .mutilated then s.lineText ⟨c, q⟩
  else match s.working.storeCode c with
    | none => s
    | some c => s.lineText ⟨c, q⟩

/-- A teardown: every stack entry is popped, top down, and its record closed (R52). -/
def teardown (s : State) : State := cutFrom 0 s.store.openStack s

/-- The selected flag cleared; a change from set to clear is a loss of selection, which tears down the stack (R156, R52). -/
def deselect (s : State) : State :=
  if s.conn.selected then (s.onConn fun c => { c with selected := false }).teardown else s

/-- The serial a local record takes, and the counter after it (R62). -/
def takeSerial (s : State) : State :=
  s.onStore fun b => { b with localSerial := if b.localSerial = 9999 then 0 else b.localSerial + 1 }

/-- A new keyboard record, its outputs from the values in force (R63, R123). -/
def keyboardRecord (s : State) : Record :=
  { Record.empty with
    state := .composing
    origin := .keyboard
    serial := some s.store.localSerial
    precedence := s.working.keyboardPrecedence
    print := wanted s.working.homeCopy
    send := wanted (s.kb.mode == .line && s.isConnected)
    punch := wanted (claims s.punch.keyboardClaim)
    punchSource := .keyboard }

/-- Create and append (R63); `none` where either fails, with nothing made. -/
def createKeyboard (s : State) (c : Code) : Option State :=
  match s.create s.keyboardRecord with
  | none => none
  | some (s', e) => (s'.append e ⟨c, .good⟩).map takeSerial

/-- The close timer started or restarted with parameter 23 (R125). -/
def startCloseTimer (s : State) : State := s.onKb fun b => { b with closeTimer := some (s.working.closeTimeS * 1000) }

/-- Close the COMPOSING record, if any; the close timer stops (R63, R126). -/
def closeComposing (s : State) : State :=
  match s.composing with
  | none => s.onKb fun b => { b with closeTimer := none }
  | some e => (s.onKb fun b => { b with closeTimer := none }).updRecord e fun r => { r with state := .complete }

/-- The blocks a text needs (R64). -/
def blocksFor (n : Nat) : Nat := (n + 63) / 64

/-- Append a text of GOOD cells to entry `e`; a cell that fails is passed over, which R64's check excludes. -/
def appendAll (e : Nat) (cs : List Code) (s : State) : State :=
  cs.foldl (fun s c => (s.append e ⟨c, .good⟩).getD s) s

/-- Whether a station notice of this text can be made: an EMPTY entry and enough free blocks (R64). -/
def noticeFits (s : State) (text : List Code) : Bool :=
  s.lowestEmpty.isSome && decide (blocksFor (text.filterMap s.working.storeCode).length ≤ s.store.free.length)

/-- A station notice (R64): made whole, or lost and counted. -/
def notice (s : State) (text : List Code) : State :=
  let cells := text.filterMap s.working.storeCode
  let r : Record :=
    { Record.empty with
      state := .complete
      origin := .station
      serial := some s.store.localSerial
      precedence := 2
      print := wanted true }
  match (if s.noticeFits text then s.create r else none) with
  | none => s.onStore fun b => { b with lostNoticeCount := sat16 b.lostNoticeCount }
  | some (s, e) => ((appendAll e cells s).takeSerial).examine e

end State

end Sys2Proof.Machine
end

