-- ==== Sys2Proof/Machine/PrintOps.lean ====
section
/-! DEFINITION. The Print Controller (Chapter 4): operations and their effects, the conversion of cells, the context stack,
boundaries and preemption, faults and paper, and its station reset. -/

namespace Sys2Proof.Machine

/-! ### Conversion (R75 to R77) -/

/-- The action of a printing code: `none` is SPACE, `some p` PRINT at position `p` (R76). -/
def printAction (p : Profile) (c : Cell) : Option Nat :=
  if c.quality = .mutilated then some p.mutilationType
  else if c.quality = .doubtful ∧ p.doubtfulMarking then some p.mutilationType
  else match (p.codeRec c.code).typePos with
    | some t => some t
    | none => if p.substituteType ≤ 63 then some p.substituteType else none

/-- A printing code's operations at a column, and whether they begin with the new line of R77. -/
def printingOps (p : Profile) (column : Nat) (c : Cell) : List PrinterOp × Bool :=
  let act (advance : Bool) : PrinterOp :=
    match printAction p c with
    | none => .space
    | some t => .print t advance
  if column ≤ p.lineLength then ([act true], false)
  else if p.autoNewLine then ([.ret, .feed, act true], true)
  else ([act false], false)

/-- The FEEDs of a form feed (R75). -/
def formFeeds (p : Profile) (pageLine : Nat) : Nat := if p.formLength = 0 then 1 else p.formLength + 1 - pageLine

/-- The whole sequence of a cell, and whether it begins with a new line (R75, R76, R77). A MUTILATED cell is the mutilation glyph
whatever its code (log entry 17). -/
def convertPrint (p : Profile) (column pageLine : Nat) (c : Cell) : List PrinterOp × Bool :=
  if c.quality = .mutilated then printingOps p column c
  else if c.code = 0o015#7 then ([.ret], false)
  else if c.code = 0o012#7 then ([.feed], false)
  else if c.code = 0o040#7 then ([.space], false)
  else if c.code = 0o007#7 then ([.bell], false)
  else if c.code = 0o014#7 then (List.replicate (formFeeds p pageLine) .feed, false)
  else if c.code = 0o000#7 then ([], false)
  else printingOps p column c

/-! ### Effects of operations (R67, R72) -/

/-- The page line after a FEED (R67). -/
def nextPageLine (formLength pageLine : Nat) : Nat :=
  if formLength = 0 then 1 else if formLength ≤ pageLine then 1 else pageLine + 1

/-- The margin bell after a PRINT with advance (R72): it becomes ready ahead of the rest of the sequence. A PRINT that a station reset
left in flight rings it too, with a BELL that belongs to no sequence (log entry 32). -/
def PrintBlock.marginBell (p : Profile) (b : PrintBlock) : PrintBlock :=
  if 0 < p.bellOffset ∧ b.bellFlag = false ∧ b.column = p.lineLength + 1 - p.bellOffset then
    { b with bellFlag := true, ops := .bell :: b.ops }
  else b

/-- The effect of an operation at its completion (R67, R72). -/
def PrintBlock.complete (p : Profile) (op : PrinterOp) (b : PrintBlock) : PrintBlock :=
  match op with
  | .print _ true => PrintBlock.marginBell p { b with column := min (b.column + 1) (p.lineLength + 1), lastFeed := false }
  | .print _ false => { b with lastFeed := false }
  | .space => { b with column := min (b.column + 1) (p.lineLength + 1), lastFeed := false }
  | .ret => { b with column := 1, bellFlag := false, lastFeed := false }
  | .feed => { b with pageLine := nextPageLine p.formLength b.pageLine, lastFeed := true }
  | .bell => { b with lastFeed := false }

/-- A change of L or F reaching the column and page line (R73). -/
def PrintBlock.fitForm (p : Profile) (b : PrintBlock) : PrintBlock :=
  { b with
    column := min b.column (p.lineLength + 1)
    pageLine := if p.formLength = 0 then 1 else min b.pageLine p.formLength }

/-- A boundary at which the last operation completed was a FEED and the column is 1 (R88). -/
def PrintBlock.atLineBoundary (b : PrintBlock) : Bool := b.lastFeed && b.column == 1

/-! ### The context stack -/

namespace State

/-- A print candidate (R80). -/
def candidate (r : Record) : Bool :=
  r.print.owed && !r.print.mark && (decide (r.print.cursor < r.length) || r.state.isOpen)

/-- The candidate selected among all (R82). -/
def bestCandidate (s : State) : Option Nat := s.bestEntry candidate

/-- The print attachment mark of entry `e` (R54). -/
def markPrint (s : State) (e : Nat) (m : Bool) : State :=
  s.updRecord e fun r => { r with print := { r.print with mark := m } }

/-- The heading of a line record with a serial, when print headings are on (R85 step 4). -/
def headingOf (s : State) (r : Record) : List Code :=
  match r.serial with
  | some n => if r.origin = .line ∧ s.working.printHeadings then printHeading n r.precedence else []
  | none => []

/-- The header of an opening or a resumption: the resume header once started, else the heading (R85, R87). -/
def headerOf (s : State) (r : Record) : List Code := if r.started then resumeHeader r.serial else s.headingOf r

/-- RETURN and FEED unless the carriage is at the left margin (R85 step 1, R87 step 1). -/
def freshLine (s : State) : List PrinterOp := if s.print.column = 1 then [] else [.ret, .feed]

/-- Push a context for a candidate: its mark is set and its opening sequence begins (R81, R85). -/
def pushContext (s : State) (e : Nat) : State :=
  let r := s.record e
  let separation : List PrinterOp := if s.print.contexts.isEmpty then [] else [.feed]
  (s.setRecord e { r with print := { r.print with mark := true } }).onPrint fun b =>
    { b with
      contexts := ⟨e, r.print.cursor, false⟩ :: b.contexts
      ops := List.append s.freshLine separation
      codes := s.headerOf r
      kind := .opening }

/-- The top's flag set where it is preempted with the carriage away from column 1, and kept where it is set already (R81, R89) (log
entry 25). -/
def markMidLine (s : State) : State :=
  s.onPrint fun b =>
    match b.contexts with
    | [] => b
    | top :: rest => { b with contexts := { top with midLine := top.midLine || b.column != 1 } :: rest }

/-- The top context's record has no unprinted cell and is closed (R83). -/
def finished (r : Record) : Bool := r.print.cursor == r.length && r.state.isClosed

/-- Remove the top context and clear its mark; `done` sets the print status DONE (R83, R92). -/
def dropTop (s : State) (done : Bool) : State :=
  match s.print.contexts with
  | [] => s
  | top :: rest =>
    (s.onPrint fun b => { b with contexts := rest }).updRecord top.entry fun r =>
      { r with print := { status := if done then .done else r.print.status, cursor := r.print.cursor, mark := false } }

/-- The resumption sequence of the new top, which is entry `e` (R87). -/
def resume (s : State) (e : Nat) : State :=
  s.onPrint fun b => { b with ops := s.freshLine, codes := s.headerOf (s.record e), kind := .resumption }

/-- A candidate whose precedence exceeds entry `e`'s, the best of them (R90). -/
def exceeding (s : State) (e : Nat) : Option Nat :=
  match s.bestCandidate with
  | none => none
  | some c => if (s.record e).precedence < (s.record c).precedence then some c else none

/-- A candidate takes the printer from the top (R89, R90): the top's flag is set and the candidate's context pushed. -/
def preempt (s : State) (c : Nat) : State := s.markMidLine.pushContext c

/-- After a pop (R84): the contexts beneath that are finished are popped in turn, then a candidate that exceeds the new top
preempts it, or the new top resumes. With the stack empty, selection follows at the boundary (R82). The list is the contexts
left, which each turn shortens. -/
def afterPop : List PrintContext → State → State
  | [], s => s
  | top :: rest, s =>
    if finished (s.record top.entry) then afterPop rest (s.dropTop true)
    else match s.exceeding top.entry with
      | some c => s.preempt c
      | none => s.resume top.entry

/-- Pop the top context and go on as R84 gives. -/
def popContext (s : State) (done : Bool) : State :=
  let s := s.dropTop done
  afterPop s.print.contexts s

/-- The line-start cursor of the top context set. -/
def setLineStart (s : State) (n : Nat) : State :=
  s.onPrint fun b =>
    match b.contexts with
    | [] => b
    | top :: rest => { b with contexts := { top with lineStart := n } :: rest }

/-- Take the cell at the print cursor of the top's record, entry `e` (R74). -/
def takePrintCell (s : State) (e : Nat) : State :=
  let i := (s.record e).print.cursor
  let seq := convertPrint s.working s.print.column s.print.pageLine (s.cellOf e i)
  let s := s.onPrint fun b => { b with ops := seq.1, kind := .cell }
  if seq.2 then s.setLineStart i else s

/-- A cell is done: the print cursor moves on, the record is started, and at column 1 a new printed line starts (R74). -/
def cellDone (s : State) (e : Nat) : State :=
  let r := s.record e
  let s := s.setRecord e { r with started := true, print := { r.print with cursor := r.print.cursor + 1 } }
  if s.print.column = 1 then s.setLineStart (r.print.cursor + 1) else s

/-- The end of a resumption sequence: a context preempted mid-line has its cursor rewound to its line start (R87). -/
def rewind (s : State) (top : PrintContext) : State :=
  if top.midLine then
    let r := s.record top.entry
    (s.setRecord top.entry { r with print := { r.print with cursor := top.lineStart } }).onPrint fun b =>
      match b.contexts with
      | [] => b
      | t :: rest => { b with contexts := { t with midLine := false } :: rest }
  else s

/-- The sequence in progress has completed (R74, R85, R87). -/
def endSequence (s : State) : State :=
  let kind := s.print.kind
  let s := s.onPrint fun b => { b with kind := .none }
  match s.print.contexts with
  | [] => s
  | top :: _ =>
    match kind with
    | .none => s
    | .opening => if s.print.column = 1 then s.setLineStart (s.record top.entry).print.cursor else s
    | .resumption => s.rewind top
    | .cell => s.cellDone top.entry

/-- Whether the candidate `c` may preempt the top here (R89, R90): an OVERRIDE at any boundary, others at a line boundary or while
the top waits for text. -/
def mayPreempt (s : State) (top c : Nat) : Bool :=
  let waiting := (s.record top).print.cursor == (s.record top).length
  (s.record c).precedence == 3 || s.print.atLineBoundary || waiting

/-- The Print Controller at a boundary (R88); `none` where it is IDLE. -/
def printBoundary (s : State) : Option State :=
  match s.print.contexts with
  | [] => s.bestCandidate.map s.pushContext
  | top :: _ =>
    let r := s.record top.entry
    if r.print.status = .abandoned then some (s.popContext false)
    else if finished r then some (s.popContext true)
    else
      let take : Option State := if r.print.cursor < r.length then some (s.takePrintCell top.entry) else none
      match s.exceeding top.entry with
      | some c => if s.mayPreempt top.entry c then some (s.preempt c) else take
      | none => take

/-- Whether the paper sensor stops an operation that is ready with nothing in flight: a PRINT or a FEED (R79). -/
def paperStops (s : State) (op : PrinterOp) : Bool :=
  s.print.paperOut && match op with
    | .print _ _ => true
    | .feed => true
    | _ => false

/-- The next thing the Print Controller does of itself, if any: be HELD with a ready operation or issue it (R79, R68); take the
next code of a header (R86); end the sequence; act at the boundary (R88). The paper sensor is read before the motor is looked at, so
PAPER OUT holds an operation that waits for the motor too, and its demand is withdrawn (R70, R187; log entry 33). -/
def printStep (s : State) : Option State :=
  let b := s.print
  if b.inFlight.isSome || b.fault || b.held then none
  else match b.ops with
    | op :: rest =>
      if s.paperStops op then some (s.onPrint fun b => { b with held := true })
      else if s.motor.state = .running then
        some (s.onPrint fun b => { b with inFlight := some op, ops := rest, faultTimer := some 2000 })
      else none
    | [] =>
      match b.codes with
      | c :: rest =>
        some (s.onPrint fun b =>
          { b with ops := (convertPrint s.working b.column b.pageLine ⟨c, .good⟩).1, codes := rest })
      | [] => if b.kind = .none then s.printBoundary else some s.endSequence

/-! ### Done, faults, paper, reset -/

/-- The printer's done signal (R68): without an operation in flight it is ignored. -/
def operationDone (s : State) : State :=
  match s.print.inFlight with
  | none => s
  | some op =>
    s.onPrint fun b => PrintBlock.complete s.working op { b with inFlight := none, faultTimer := none }

/-- The fault timer expires before done (R69). -/
def operationFault (s : State) : State :=
  match s.print.inFlight with
  | none => s
  | some op => s.onPrint fun b => { b with fault := true, failedOp := some op, inFlight := none, faultTimer := none }

/-- CLEAR FAULT at the printer (R70): the failed operation, if it was not discarded (R95), is ready again. -/
def clearPrintFault (s : State) : State :=
  if s.print.fault then
    s.onPrint fun b => { b with fault := false, failedOp := none, ops := List.append b.failedOp.toList b.ops }
  else s

/-- The paper sensors read; paper present ends a hold (R79). -/
def paperSensors (s : State) (out low : Bool) : State :=
  s.onPrint fun b => { b with paperOut := out, paperLow := low, held := b.held && out }

/-- A station reset at the printer (R95). The marks are cleared in the order of the context stack, from the top (log entry 8). -/
def resetPrint (s : State) : State :=
  let entries := s.print.contexts.map (·.entry)
  entries.foldl (fun s e => s.markPrint e false)
    (s.onPrint fun b => { b with contexts := [], ops := [], codes := [], kind := .none, held := false, failedOp := none })

end State
end Sys2Proof.Machine
end

