-- ==== Sys2Proof/Machine/PunchOps.lean ====
section
/-! DEFINITION. The Punch Controller (Chapter 5): claims, the copy list, deletion's effect on it, pieces, boundaries, the tape
supply and its station reset. -/

namespace Sys2Proof.Machine

/-! ### The claim table -/

/-- A source's entry of the claim table (R101). -/
def PunchBlock.claim (b : PunchBlock) : PunchSource → Claim
  | .line => b.lineClaim
  | .keyboard => b.keyboardClaim
  | .copy => b.copyClaim

/-- The claim table with one entry replaced. -/
def PunchBlock.setClaim (b : PunchBlock) (src : PunchSource) (c : Claim) : PunchBlock :=
  match src with
  | .line => { b with lineClaim := c }
  | .keyboard => { b with keyboardClaim := c }
  | .copy => { b with copyClaim := c }

/-- The sources in the order of their rank (R101). -/
def punchSources : List PunchSource := [.line, .keyboard, .copy]

/-- A claim that holds the punch: HOLDING or DRAINING (R101). -/
def Claim.holds (c : Claim) : Bool := c.state == .holding || c.state == .draining

/-- The holder: the source that is HOLDING or DRAINING (R101). -/
def PunchBlock.holder (b : PunchBlock) : Option PunchSource := punchSources.find? fun src => (b.claim src).holds

/-- A trailer in progress with its rows not yet issued discarded (R102). -/
def PunchBlock.dropTrailer (b : PunchBlock) : PunchBlock :=
  if b.piece = .trailer then { b with piece := .none, rows := [] } else b

/-- A closed record with its deletion recorded: delete pending set, retained cleared, what is PENDING abandoned (R58). -/
def Record.deleted (r : Record) : Record :=
  { r with
    deletePending := true
    retained := false
    print := r.print.giveUp
    punch := r.punch.giveUp
    send := r.send.giveUp }

namespace State

/-- A claim request (R102), with its answer. -/
def claimRequest (s : State) (src : PunchSource) : State × Reason :=
  let c := s.punch.claim src
  match c.state with
  | .holding | .waiting =>
    if c.count < 15 then (s.onPunch (·.setClaim src { c with count := c.count + 1 }), .a00) else (s, .n10)
  | .draining => (s.onPunch fun b => (b.setClaim src ⟨.holding, 1⟩).dropTrailer, .a00)
  | .idle =>
    if s.punch.holder.isNone then
      (s.onPunch fun b => { b.setClaim src ⟨.holding, 1⟩ with leaderOwed := true }, .a00)
    else (s.onPunch (·.setClaim src ⟨.waiting, 1⟩), .a00)

/-- Every record marked for a source has its punch status made ABANDONED (R103). -/
def abandonMarked (s : State) (src : PunchSource) : State :=
  s.forRecords fun s e =>
    let r := s.record e
    if r.punch.owed && r.punchSource == src then s.updRecord e fun r => { r with punch := r.punch.giveUp } else s

/-- A source's count taken to 0 at once: HOLDING drains, WAITING becomes IDLE with its records abandoned; IDLE and DRAINING stay
(R103). -/
def releaseAll (s : State) (src : PunchSource) : State :=
  match (s.punch.claim src).state with
  | .idle | .draining => s
  | .holding => s.onPunch (·.setClaim src ⟨.draining, 0⟩)
  | .waiting => (s.onPunch (·.setClaim src ⟨.idle, 0⟩)).abandonMarked src

/-- A release request (R103), with its answer. -/
def releaseRequest (s : State) (src : PunchSource) : State × Reason :=
  let c := s.punch.claim src
  match c.state with
  | .idle | .draining => (s, .n11)
  | .holding | .waiting =>
    if 1 < c.count then (s.onPunch (·.setClaim src { c with count := c.count - 1 }), .a00)
    else (s.releaseAll src, .a00)

/-- The TAPE key: a claim while IDLE or DRAINING, a release to count 0 while HOLDING or WAITING (R103, R128). -/
def tapeKey (s : State) : State :=
  match s.punch.keyboardClaim.state with
  | .idle | .draining => (s.claimRequest .keyboard).1
  | .holding | .waiting => s.releaseAll .keyboard

/-! ### The copy list and deletion -/

/-- The punch attachment mark of entry `e` (R54). -/
def markPunch (s : State) (e : Nat) (m : Bool) : State :=
  s.updRecord e fun r => { r with punch := { r.punch with mark := m } }

/-- An entry leaves the copy list (R107): a release request for COPY, and its mark is cleared unless it is the current record. -/
def leaveCopyList (s : State) (e : Nat) : State :=
  let s := ((s.onPunch fun b => { b with copyList := b.copyList.erase e }).releaseRequest .copy).1
  if s.punch.current = some e then s else s.markPunch e false

/-- A context beneath the top whose record has been abandoned is removed at once (R93). -/
def dropBeneath (s : State) (e : Nat) : State :=
  match s.print.contexts with
  | [] => s
  | top :: rest =>
    if rest.any (·.entry == e) then
      (s.onPrint fun b => { b with contexts := top :: rest.filter (·.entry != e) }).updRecord e fun r =>
        { r with print := { r.print with mark := false } }
    else s

/-- Delete a closed record (R58); one already delete pending stays as it is. -/
def deleteRecord (s : State) (e : Nat) : State :=
  let r := s.record e
  if r.state.isClosed && !r.deletePending then
    let s := (s.setRecord e r.deleted).dropBeneath e
    let s := if s.punch.copyList.contains e then s.leaveCopyList e else s
    s.examine e
  else s

/-- A deletion request for an entry (R58), with its answer. -/
def requestDelete (s : State) (e : Nat) : State × Reason :=
  let r := s.record e
  if r.state = .empty then (s, .n07) else if r.state.isOpen then (s, .n08) else (s.deleteRecord e, .a00)

/-- An erase, steps 1 to 3 (R61): the stack's records closed, from the top down, and its entries made VOID, the keyboard record
closed, every record deleted, in the order of the arrival list (log entry 8). -/
def erase (s : State) : State :=
  let s := s.store.openStack.foldl closeEntry s
  let s := s.setStack (s.store.openStack.map fun t => { t with entry := none })
  s.closeComposing.forRecords deleteRecord

/-- A copy request for an entry (R55, R107), with its answer. -/
def requestCopy (s : State) (e : Nat) : State × Reason :=
  let r := s.record e
  if r.state = .empty || r.deletePending then (s, .n07)
  else if r.punch.owed then (s, .n08)
  else if 8 ≤ s.punch.copyList.length then (s, .n08)
  else
    let s := s.setRecord e { r with punch := ⟨.pending, 0, true⟩, punchSource := .copy }
    (((s.onPunch fun b => { b with copyList := List.append b.copyList [e] }).claimRequest .copy).1, .a00)

/-! ### Pieces -/

/-- Begin a piece of blank rows of a given length. -/
def beginBlank (s : State) (piece : Piece) (n : Nat) : State :=
  s.onPunch fun b => { b with piece := piece, rows := List.replicate n 0#5 }

/-- Begin a piece of framing codes (R110). -/
def beginCodes (s : State) (piece : Piece) (codes : List Code) : State :=
  s.onPunch fun b => { b with piece := piece, codes := codes }

/-- A code that cannot be punched is counted (R108). -/
def countPunchSkip (s : State) : State := s.onPunch fun b => { b with skipCount := sat16 b.skipCount }

/-- The rows of a code taken under the punch shift state, or its skip (R108). -/
def punchCode (s : State) (c : Code) : Option (List Row × ShiftState) := s.working.convert s.punch.shift c

/-- Take the next framing code of a heading or end piece (R108, R110). -/
def takeFraming (s : State) (c : Code) (rest : List Code) : State :=
  let s' := s.onPunch fun b => { b with codes := rest }
  match s.punchCode c with
  | none => s'.countPunchSkip
  | some (rows, sh) => s'.onPunch fun b => { b with rows := rows, shiftAfter := some sh }

/-- Move the punch cursor of entry `e` one cell on. -/
def advancePunch (s : State) (e : Nat) : State :=
  s.updRecord e fun r => { r with punch := { r.punch with cursor := r.punch.cursor + 1 } }

/-- Take the cell at the punch cursor of the current record `e` (R108). -/
def takePunchCell (s : State) (e : Nat) : State :=
  let c := s.cellOf e (s.record e).punch.cursor
  if c.quality = .mutilated then
    s.onPunch fun b => { b with piece := .cell, rows := [s.working.errorRow], shiftAfter := some b.shift }
  else match s.punchCode c.code with
    | none => s.countPunchSkip.advancePunch e
    | some (rows, sh) => s.onPunch fun b => { b with piece := .cell, rows := rows, shiftAfter := some sh }

/-- The current record is let go: it ceases to be current and its mark is cleared (R109). -/
def letGoPunch (s : State) (e : Nat) : State := (s.onPunch fun b => { b with current := none }).markPunch e false

/-- The current record is finished: DONE, off the copy list, let go (R109). -/
def finishPunch (s : State) (e : Nat) : State :=
  let r := s.record e
  let s := s.setRecord e { r with punch := { r.punch with status := .done } }
  (if s.punch.copyList.contains e then s.leaveCopyList e else s).letGoPunch e

/-- Entry `e` becomes the current record, its framing fixed (R106, R110). -/
def choosePunch (s : State) (e : Nat) : State :=
  let r := s.record e
  let framed := s.working.punchFraming && r.punchSource != .keyboard && r.serial.isSome
  (s.onPunch fun b => { b with current := some e, framed := framed, headingDone := false, endDone := false, restart := false }).setRecord
    e { r with punch := { r.punch with mark := true } }

/-- The record a holder has to punch next (R106). -/
def nextToPunch (s : State) : PunchSource → Option Nat
  | .copy => s.punch.copyList.head?
  | src => s.bestEntry fun r => r.punch.owed && r.punchSource == src

/-- The highest-ranked WAITING source, if any, becomes HOLDING and its leader is owed (R104). -/
def handover (s : State) : State :=
  match punchSources.find? fun src => (s.punch.claim src).state == .waiting with
  | none => s
  | some src =>
    s.onPunch fun b => { b.setClaim src { b.claim src with state := .holding } with leaderOwed := true }

/-- The end of a trailer (R104): the DRAINING holder becomes IDLE and the punch is handed over. -/
def trailerEnd (s : State) : State :=
  match s.punch.holder with
  | none => s
  | some src => (s.onPunch fun b => b.setClaim src ⟨.idle, 0⟩).handover

/-- The current record is punched again from the start (R113). One abandoned since the NEW TAPE stands so too, and is let go at the
boundary that follows with nothing of it on the new reel (R109). -/
def restartRecord (s : State) : State :=
  match s.punch.current with
  | none => s
  | some e =>
    let r := s.record e
    (s.onPunch fun b => { b with headingDone := false, endDone := false }).setRecord e
      { r with punch := { r.punch with cursor := 0 } }

/-- The piece in progress has no row left: what its end does (R99, R102, R104, R108, R109, R113). -/
def endPiece (s : State) : State :=
  let piece := s.punch.piece
  let s := s.onPunch fun b => { b with piece := .none }
  match piece with
  | .none | .feed => s
  | .leader => s.onPunch fun b => { b with shift := .unknown }
  | .reelLeader =>
    let again := s.punch.restart
    let s := s.onPunch fun b => { b with shift := .unknown, restart := false }
    if again then s.restartRecord else s
  | .trailer => (s.onPunch fun b => { b with shift := .unknown }).trailerEnd
  | .heading => s.onPunch fun b => { b with headingDone := true }
  | .endRows => s.onPunch fun b => { b with endDone := true }
  | .cell =>
    match s.punch.current with
    | none => s
    | some e => s.advancePunch e

/-! ### The punch boundary -/

/-- Items 3 and 4 of R100: go on with the current record `e`, or wait for its text (`none`). -/
def goOnPunching (s : State) (e : Nat) : Option State :=
  let r := s.record e
  let b := s.punch
  if r.punch.status = .abandoned then
    if b.framed && b.headingDone && !b.endDone then some (s.beginCodes .endRows (endRows s.working))
    else some (s.letGoPunch e)
  else if b.framed && !b.headingDone then
    some (s.beginCodes .heading (headingRows s.working (r.serial.getD 0) r.precedence))
  else if r.punch.cursor < r.length then some (s.takePunchCell e)
  else if r.state.isClosed then
    if b.framed && !b.endDone then some (s.beginCodes .endRows (endRows s.working)) else some (s.finishPunch e)
  else none

/-- Items 5 to 7 of R100: choose a record for the holder, punch a DRAINING holder's trailer, or rest (`none`). -/
def serveHolder (s : State) : Option State :=
  match s.punch.holder with
  | none => none
  | some src =>
    match s.nextToPunch src with
    | some e => some (s.choosePunch e)
    | none =>
      if (s.punch.claim src).state = .draining then some (s.beginBlank .trailer s.working.leaderRows) else none

/-- The Punch Controller at a punch boundary (R100); `none` where it is IDLE. -/
def punchBoundary (s : State) : Option State :=
  if 0 < s.punch.feedRows then
    some ((s.beginBlank .feed s.punch.feedRows).onPunch fun b => { b with feedRows := 0 })
  else if s.punch.leaderOwed then
    some ((s.beginBlank .leader s.working.leaderRows).onPunch fun b => { b with leaderOwed := false })
  else match s.punch.current with
    | some e => s.goOnPunching e
    | none => s.serveHolder

/-- Issue a row: it is in flight and the fault timer starts at 2 s (R96). -/
def issueRow (s : State) (r : Row) (rest : List Row) : State :=
  s.onPunch fun b => { b with inFlight := some r, rows := rest, faultTimer := some 2000 }

/-- The next thing the Punch Controller does of itself, if any: issue a ready row, or meet an empty reel with it (R96, R112); take
the shift state a finished code leaves (R108); take the next framing code; end the piece; act at the boundary (R100). -/
def punchStep (s : State) : Option State :=
  let b := s.punch
  if b.inFlight.isSome || b.fault || b.tapeOut then none
  else match b.rows with
    | r :: rest =>
      if b.tapeSupply = 0 then some (s.onPunch fun b => { b with tapeOut := true })
      else if s.motor.state = .running then some (s.issueRow r rest)
      else none
    | [] =>
      match b.shiftAfter with
      | some sh => some (s.onPunch fun b => { b with shift := sh, shiftAfter := none })
      | none =>
        match b.codes with
        | c :: rest => some (s.takeFraming c rest)
        | [] => if b.piece = .none then s.punchBoundary else some s.endPiece

/-! ### The reel, FEED, faults -/

/-- A NEW TAPE whose row in flight, if any, has completed (R113): the counter set to the reel length, TAPE OUT left, the rows not
issued discarded, and a leader begun. What the leader replaced goes on at its end: a record of a piece, or none, whose punch
is owed is punched again from the start; an abandoned one is let go without end rows. With a row in flight at the key-down, the piece
and the punch status are those at the completion of that row (log entry 35). A second new reel during the new reel's own leader keeps
what the first one owed (log entry 41). -/
def newReel (s : State) : State :=
  let b := s.punch
  let status := (b.current.map fun e => (s.record e).punch.status).getD .none
  let ofRecord : Bool := b.piece == .none || b.piece == .heading || b.piece == .cell || b.piece == .endRows
  (s.onPunch fun b =>
    { b with
      tapeSupply := s.working.reelLength
      tapeOut := false
      codes := []
      shiftAfter := none
      newTapeDue := false
      headingDone := b.headingDone && status != .abandoned
      restart := if ofRecord then status == .pending else b.restart }).beginBlank .reelLeader s.working.leaderRows

/-- A NEW TAPE request (R113); `none` where it is refused, in FAULT. A row in flight completes first. -/
def newTapeRequest (s : State) : Option State :=
  if s.punch.fault then none
  else if s.punch.inFlight.isSome then some (s.onPunch fun b => { b with newTapeDue := true })
  else some s.newReel

/-- A FEED request (R114); `none` where it is refused. -/
def feedRequest (s : State) : Option State :=
  if s.punch.fault || s.punch.tapeOut || s.punch.holder == some .line || s.punch.holder == some .copy then none
  else some (s.onPunch fun b => { b with feedRows := b.feedRows + 8 })

/-- The row in flight completes (R96, R111). -/
def rowDone (s : State) : State :=
  if s.punch.inFlight.isSome then
    let s := s.onPunch fun b => { b with inFlight := none, faultTimer := none, tapeSupply := b.tapeSupply - 1 }
    if s.punch.newTapeDue then s.newReel else s
  else s

/-- The fault timer expires before the row in flight is done (R97). A NEW TAPE that waits for that row stays due, and acts at the
completion of the row issued after the fault (log entry 15). -/
def rowFault (s : State) : State :=
  match s.punch.inFlight with
  | none => s
  | some r => s.onPunch fun b => { b with fault := true, failedRow := some r, inFlight := none, faultTimer := none }

/-- CLEAR FAULT at the punch (R97): the failed row, if it was not discarded, is ready again. -/
def clearPunchFault (s : State) : State :=
  if s.punch.fault then
    s.onPunch fun b => { b with fault := false, failedRow := none, rows := List.append b.failedRow.toList b.rows }
  else s

/-- A station reset at the punch (R115). A NEW TAPE that waits for the row in flight still sets the counter (log entry 15). -/
def resetPunch (s : State) : State :=
  (s.onPunch fun b =>
    { b with
      lineClaim := .start
      keyboardClaim := .start
      copyClaim := .start
      copyList := []
      rows := []
      codes := []
      shiftAfter := none
      piece := .none
      current := none
      framed := false
      headingDone := false
      endDone := false
      shift := .unknown
      failedRow := none
      feedRows := 0
      leaderOwed := false
      restart := false }).forRecords fun s e =>
    s.updRecord e fun r => { r with punch := { r.punch.giveUp with mark := false } }

end State
end Sys2Proof.Machine
end

