-- ==== Sys2Proof/Machine/TxOps.lean ====
section
/-! DEFINITION. The Line Transmitter's requests and discards (R135, R136, R141 to R143), the retrieval mark (R55), the reply queue
and the assemblers' aborts (R160, R162, R167). -/

namespace Sys2Proof.Machine
namespace State

/-! ### Requests -/

/-- A break request (R135). -/
def breakRequest (s : State) : State :=
  let breaking : Bool := match s.tx.inFlight with
    | some (.brk _) => true
    | _ => false
  if s.isConnected && !s.tx.breakPending && !breaking then s.onTx fun b => { b with breakPending := true } else s

/-- An answerback request (R136). -/
def answerbackRequest (s : State) : State :=
  match s.tx.answerback with
  | .none => if s.isConnected then s.onTx fun b => { b with answerback := .pending } else s
  | .pending | .sending _ => s.onTx fun b => { b with suppressionCount := sat16 b.suppressionCount }

/-- A retrieval request for an entry (R55, R139, R173), with its answer. One taken while a retrieval is in progress is answered N08,
whatever its entry (R140; log entry 36). -/
def requestRetrieval (s : State) (e : Nat) : State × Reason :=
  let r := s.record e
  if s.tx.retrieval.isSome then (s, .n08)
  else if r.state = .empty || r.deletePending then (s, .n07)
  else if r.state.isOpen || r.send.owed then (s, .n08)
  else
    let todo : List RetrievalPart := if r.serial.isSome then [.heading, .cells, .endRows] else [.cells]
    ((s.setRecord e { r with send := ⟨.pending, 0, true⟩ }).onTx fun b =>
      { b with retrieval := some ⟨some e, r.serial.isSome, .crlf, crlf, todo⟩ }, .a00)

/-! ### Discarding -/

/-- The send attachment mark of entry `e` cleared, and its send given up if `giveUp` (R54, R141). -/
def letGoSend (s : State) (e : Nat) (giveUp : Bool) : State :=
  s.updRecord e fun r =>
    { r with send := { (if giveUp then r.send.giveUp else r.send) with mark := false } }

/-- A unit in flight whose item has been discarded completes without it (R141, R143); a break is kept. -/
def TxFlight.orphaned : TxFlight → TxFlight
  | .character c rest after _ => .character c rest after .orphan
  | .brk ui => .brk ui

/-- The answerback and the reply in progress discarded, and the retrieval's record and then the keyboard-text record let go (R141 to
R143) (log entry 8). -/
def dropItems (s : State) : State :=
  let refs : List Nat := List.append ((s.tx.retrieval.bind (·.entry)).toList) s.tx.keyboardText.toList
  refs.foldl (fun s e => s.letGoSend e true)
    (s.onTx fun b =>
      { b with
        inFlight := b.inFlight.map TxFlight.orphaned
        answerback := .none
        reply := none
        retrieval := none
        keyboardText := none })

/-- Every record that qualifies and whose send is PENDING has it made ABANDONED (R141, R143). -/
def abandonSends (s : State) (ok : Record → Bool) : State :=
  s.forRecords fun s e =>
    let r := s.record e
    if ok r && r.send.owed then s.updRecord e fun r => { r with send := r.send.giveUp } else s

/-- What a received break and a leaving of CONNECTED discard (R141, R142): every item but a break, with the retrieval's and the
keyboard records' sends ABANDONED. -/
def discardSends (s : State) : State := s.dropItems.abandonSends fun r => r.origin == .keyboard

/-- A station reset at the Line Transmitter (R143). -/
def resetTx (s : State) : State :=
  (s.dropItems.onTx fun b => { b with breakPending := false }).abandonSends fun _ => true

/-! ### The reply queue and the assemblers -/

/-- The reply queue set. -/
def setQueue (s : State) (q : List ReplyEntry) : State := s.onDir fun d => { d with queue := q }

/-- Some entry of the queue carries a deferred action. -/
def queueCarries (s : State) (a : Deferred) : Bool := s.dir.queue.any (·.deferred == a)

/-- A reply entry put at the tail of the queue (R167). -/
def enqueue (s : State) (r : ReplyEntry) : State := s.setQueue (List.append s.dir.queue [r])

/-- The line assembler returned to IDLE with its buffer emptied, without count (R160); its match result is then NONE (log entry
40). -/
def abortLineAsm (s : State) : State := s.onDir fun d => { d with lineAsm := .start }

/-- The local assembler returned to IDLE with its buffer emptied, without count (R162). It makes no match: its result is always
NONE. -/
def abortLocalAsm (s : State) : State := s.onDir fun d => { d with localAsm := .start }

end State
end Sys2Proof.Machine
end

