-- ==== Sys2Proof/Machine/ConnOps.lean ====
section
/-! DEFINITION. The connection's state machine (Chapter 8), the working copy's loading and changing (R73, R151, R191), the station
reset over every block, the power-on and hard reset, and the adoptions (R18, R145). -/

namespace Sys2Proof.Machine

/-- The image that a commit writes: the snapshot, its bytes, and the check word composed for them (R189, R192). -/
def Image.written (snapshot : Profile) : Image :=
  ⟨snapshot, Config.imageBytes snapshot, checkWord (Config.imageBytes snapshot)⟩

/-- The image numbered `n` of those whose write was cut short or did not read back (R192): free bytes with a free check word, which
alone decide whether it passes (R189), and the free profile that they hold, which is taken to be well formed (log entry 5). -/
def Image.spoilt (n : Nat) : Image :=
  let parts := match Config.spoiltProfile n with
    | some p => if p.wf then p else .factory
    | none => .factory
  ⟨parts, (Config.spoiltBytes n).1, (Config.spoiltBytes n).2⟩

namespace State

/-! ### Loading and changing the working copy -/

/-- The line idle timer as parameter 11 gives it (R151). -/
def idleTimer (s : State) : Option Nat := secondsTimer s.working.lineIdleS

/-- A switched line in CONNECTED, where the line idle timer runs (R151). -/
def idleTimed (s : State) : Bool := s.isConnected && s.conn.lineType == .switched

/-- A notice of a received or sent character restarts the line idle timer (R151). -/
def noticeTraffic (s : State) : State :=
  if s.idleTimed then s.onConn fun c => { c with lineIdle := s.idleTimer } else s

/-- The working copy replaced (by an A directive or a reload), with what acts at once on its parameters: the form and line length
(R73), and a changed parameter 11 while CONNECTED (R151). Every other part is read at its own moment. -/
def changeWorking (s : State) (p : Profile) : State :=
  let old := s.working
  let s := s.onWorking fun _ => p
  let s := if p.lineLength ≠ old.lineLength ∨ p.formLength ≠ old.formLength then s.onPrint (PrintBlock.fitForm p) else s
  if p.lineIdleS ≠ old.lineIdleS then s.noticeTraffic else s

/-- A reload of the working copy from the image (R191). -/
def reload (s : State) : State :=
  (s.onProfile fun b => { b with fault := !b.image.passes }).changeWorking s.profile.image.loaded

/-- The image after a write that was cut short or did not read back. -/
def spoilImage (s : State) : State :=
  { (s.onProfile fun b => { b with image := .spoilt s.spoilt }) with spoilt := s.spoilt + 1 }

/-- The image when a reset or the loss of power ends a commit that is writing (R192). -/
def cutCommit (s : State) : State :=
  if s.profile.commit.isSome then s.spoilImage.onProfile fun b => { b with commit := none } else s

/-- Power-on and hard reset (section 0.7, R191): all state takes its initial value; the image, the inputs and the waiting commands
stay. -/
def startUp (s : State) : State :=
  let t := s.cutCommit
  State.start t.profile.image t.conn.lineCond t.conn.callInput t.print.paperOut t.print.paperLow t.kb.bellPulses t.spoilt
    t.pending

/-! ### The station reset -/

/-- A station reset, when it takes effect (section 0.7): each block's own part, and then the reload (R52, R66, R95, R115, R131, R143,
R159, R177, R186, R191). -/
def stationResetEffect (s : State) : State :=
  let s := ((s.abortLineAsm.abortLocalAsm).setQueue []).onKb fun b => { b with entryFlag := false }
  let s := ((s.closeComposing.resetTx).resetPunch).resetPrint
  let s := (s.onConn fun c => { c with selected := false }).teardown
  let s := s.onStore fun b => { b with linePrint := true }
  (s.onAccess fun a => { a with lineOpen := .closed, localOpen := .closed }).reload

/-! ### Entering and leaving CONNECTED -/

/-- The connection leaves CONNECTED for CLEARING or LOST, as every block takes its notice (R155): the receiver (R19), the line
assembler and the reply queue (R160, R167), the line open state (R179), the sends (R142), the keyboard record (R126), the stack
(R52) and the LINE claim (R103). A station reset deferred in the queue is then made (R167); a deferred clear is without effect
(R176). -/
def leaveConnected (s : State) (target : ConnState) : State :=
  let reset := s.queueCarries .reset
  let s := s.onConn fun c =>
    { c with state := target, selected := false, sustainedSpace := none, lineIdle := none }
  let s := s.onRx fun b => { b with state := .watching, transitions := [], samples := [] }
  let s := (s.abortLineAsm.setQueue []).onAccess fun a => { a with lineOpen := .closed }
  let s := (s.discardSends.onTx fun b => { b with breakPending := false }).closeComposing
  let s := s.teardown.releaseAll .line
  if reset then s.stationResetEffect else s

/-- Entry to CLEARING (R153). -/
def enterClearing (s : State) : State :=
  let s := if s.isConnected then s.leaveConnected .clearing else s
  s.onConn fun c =>
    { c with
      state := .clearing
      clearingSpace := true
      clearingTimer := some 1000
      stableMark := none
      answerTimer := none
      callTimer := none
      sustainedSpace := none
      lineIdle := none }

/-- A clear request (R152). -/
def clearRequest (s : State) : State :=
  match s.conn.lineType, s.conn.state with
  | .switched, .answering => s.enterClearing
  | .switched, .calling => s.enterClearing
  | .switched, .connected => s.enterClearing
  | _, _ => s

/-- The stable mark timer on entry to a state where it runs (R146). -/
def markTimer (c : ConnBlock) : Option Nat := if c.lineCond = .mark then some 1000 else none

/-- The line type and state in which the stable mark timer runs (R146). -/
def timesMark (c : ConnBlock) : Bool :=
  match c.lineType, c.state with
  | .switched, .answering => true
  | .switched, .calling => true
  | .permanent, .idle => true
  | .permanent, .lost => true
  | _, _ => false

/-- Entry to CONNECTED (R149, R19, R142). -/
def enterConnected (s : State) : State :=
  let s := s.onConn fun c =>
    { c with
      state := .connected
      stableMark := none
      answerTimer := none
      callTimer := none
      sustainedSpace := none
      callAnswerable := false
      selected := c.selected || s.working.selectOnConnect }
  let s := s.noticeTraffic
  let s := if s.working.answerbackOnConnect then s.answerbackRequest else s
  (s.onRx fun b => { b with state := .hunting, plane := .letters }).onTx fun b => { b with shift := .unknown }

/-- Entry to LOST on a permanent line (R154). -/
def enterLost (s : State) : State :=
  (s.leaveConnected .lost).onConn fun c => { c with stableMark := markTimer c }

/-- Answer the incoming call: LOOP asserted, ANSWERING (R147). -/
def enterAnswering (s : State) : State :=
  s.onConn fun c =>
    { c with
      state := .answering, loop := true, callAnswerable := false, answerTimer := some 10000, stableMark := markTimer c }

/-- An ANSWER request (R147). -/
def answerRequest (s : State) : State :=
  if s.conn.state = .idle ∧ s.conn.lineType = .switched ∧ s.conn.callAnswerable then s.enterAnswering else s

/-- A SEIZE request (R148). -/
def seizeRequest (s : State) : State :=
  if s.conn.state = .idle ∧ s.conn.lineType = .switched then
    s.onConn fun c =>
      { c with
        state := .calling, loop := true, callAnswerable := false, callTimer := some 60000, stableMark := markTimer c }
  else s

/-- The CALL input as it now stands, and a call's arrival (R147). -/
def callChange (s : State) (present : Bool) : State :=
  let arrives := present && !s.conn.callInput && s.conn.state == .idle && s.conn.lineType == .switched
  let s := s.onConn fun c =>
    { c with callInput := present, callAnswerable := if present then c.callAnswerable || arrives else false }
  if arrives && s.working.autoAnswer then s.enterAnswering else s

/-- A change of the line condition at the Connection Controller (R146, R150, R153). -/
def conditionChange (s : State) (cond : LineCond) : State :=
  s.onConn fun c =>
    let c' := { c with lineCond := cond }
    if timesMark c then { c' with stableMark := markTimer c' }
    else if c.state = .connected then
      { c' with sustainedSpace := if cond = .space then some s.working.clearThresholdMs else none }
    else c'

/-- The end of CLEARING (R153). -/
def endClearing (s : State) : State :=
  s.onConn fun c => { c with state := .idle, clearingSpace := false, clearingTimer := none, loop := false }

/-! ### Adoptions -/

/-- The line type parameter 07 asks for. -/
def wantedType (s : State) : LineType := .ofParam s.working.lineTypeParam

/-- The adoption of a changed line type, where the connection is IDLE or LOST (R145); `none` where none is due. -/
def adoptLineType (s : State) : Option State :=
  if (s.conn.state = .idle ∨ s.conn.state = .lost) ∧ s.wantedType ≠ s.conn.lineType then
    some (s.onConn fun c =>
      { c with
        state := .idle
        lineType := s.wantedType
        callAnswerable := false
        stableMark := if s.wantedType = .permanent then markTimer c else none })
  else none

/-- A changed modulation rate awaits adoption (R18, R132). -/
def rateWaits (s : State) : Bool := s.working.rateIndex != s.rx.rate

/-- The adoption of a changed modulation rate: outside SAMPLING and CANDIDATE, with nothing in flight on the send side (R18); `none`
where none is due. -/
def adoptRate (s : State) : Option State :=
  if s.rateWaits ∧ s.rx.state ≠ .sampling ∧ s.rx.state ≠ .candidate ∧ s.tx.inFlight = none then
    some (s.onRx fun b => { b with rate := s.working.rateIndex, be := 0 })
  else none

/-- The deferred actions of entries that have left the queue, each kind once: a clear and then a station reset (R167). -/
def makeDeferred (s : State) (clear reset : Bool) : State :=
  let s := if clear then s.clearRequest else s
  if reset then s.stationResetEffect else s

/-- The reply queue emptied by a received break, with its deferred actions made (R141, R167). -/
def emptyQueue (s : State) : State := (s.setQueue []).makeDeferred (s.queueCarries .clear) (s.queueCarries .reset)

/-- The head entry of the reply queue leaves it, with its deferred action (R137, R167, R176). -/
def removeHead (s : State) : State :=
  match s.dir.queue with
  | [] => s
  | h :: rest => (s.setQueue rest).makeDeferred (h.deferred == .clear) (h.deferred == .reset)

end State
end Sys2Proof.Machine
end

