-- ==== Sys2Proof/Machine/SendOps.lean ====
section
/-! DEFINITION. The send arbiter (R134) and its items (R133 to R140): units, listings, retrieval and keyboard text; and the
completions of characters and breaks. -/

namespace Sys2Proof.Machine

/-! ### Listing lines (R172, R195) -/

/-- The origin letter of a listing line (R195). -/
def Origin.letter : Origin → Code
  | .line => chr 'L'
  | .keyboard => chr 'K'
  | .station => chr 'S'

/-- The state letter of a listing line (R195); an EMPTY entry has none and is listed as GONE. -/
def RecState.letter : RecState → Code
  | .receiving => chr 'R'
  | .suspended => chr 'S'
  | .composing => chr 'W'
  | .complete => chr 'C'
  | .cut => chr 'X'
  | .empty => 0o055#7

/-- A flag of a listing line: its letter when set, a hyphen when clear (R195). -/
def letterFlag (c : Code) (b : Bool) : Code := if b then c else 0o055#7

/-- The nine fields of a record's listing line (R195). -/
def listingFields (e : Nat) (r : Record) : List (List Code) :=
  [twoDigits e, serialOrHyphens r.serial, [digit r.precedence], [r.origin.letter], number r.length, [r.state.letter],
   number r.doubtful, number r.mutilated,
   [letterFlag (chr 'I') r.implicit, letterFlag (chr 'R') r.retained, letterFlag (chr 'P') r.deletePending,
    letterFlag (chr 'D') r.duplicate, letterFlag (chr 'O') r.overflowed]]

/-- A line of fields separated by single spaces, with CR, LF (R194). -/
def fieldLine (fields : List (List Code)) : List Code :=
  List.append (List.intercalate [0o040#7] fields) crlf

/-- The listing line of a record. -/
def listingLine (e : Nat) (r : Record) : List Code := fieldLine (listingFields e r)

/-- A gone entry's line (R172, R194). -/
def goneLine (e : Nat) : List Code := fieldLine [twoDigits e, [chr 'G', chr 'O', chr 'N', chr 'E']]

namespace State

/-- The line of a captured entry as it stands (R172). -/
def capturedLine (s : State) (c : Captured) : List Code :=
  if c.gone then goneLine c.entry else listingLine c.entry (s.record c.entry)

/-! ### Units -/

/-- A code that cannot be sent is counted (R133). -/
def countSendSkip (s : State) : State := s.onTx fun b => { b with skipCount := sat16 b.skipCount }

/-- The send cursor of entry `e` one cell on (R138, R139). -/
def advanceSend (s : State) (e : Nat) : State :=
  s.updRecord e fun r => { r with send := { r.send with cursor := r.send.cursor + 1 } }

/-- The reply line in progress has been sent (R137): a listing composes its next line, if it has one; otherwise the entry is removed
from the head of the queue. -/
def replySent (s : State) : State :=
  let s := s.onTx fun b => { b with reply := none }
  match s.dir.queue with
  | [] => s
  | h :: rest =>
    match h.captured[h.sent]? with
    | some c => s.setQueue ({ h with text := s.capturedLine c, sent := h.sent + 1 } :: rest)
    | none => s.removeHead

/-- A code of an item has been sent or skipped: what its item does (R136 to R139). -/
def codeDone (s : State) : TxItem → State
  | .orphan => s
  | .retrievalText => s
  | .answerback =>
    match s.tx.answerback with
    | .sending [] => s.onTx fun b => { b with answerback := .none }
    | _ => s
  | .reply =>
    match s.tx.reply with
    | some [] => s.replySent
    | _ => s
  | .retrievalCell e => s.advanceSend e
  | .keyboardCell e => s.advanceSend e

/-- Take a code for an item: its unit is in flight, or it is skipped and counted (R133). -/
def sendCode (s : State) (item : TxItem) (c : Code) : State :=
  match s.working.convert s.tx.shift c with
  | some (r :: rest, sh) => s.onTx fun b => { b with inFlight := some (.character r rest sh item) }
  | _ => s.countSendSkip.codeDone item

/-- The code a stored cell is sent as: the default substitute for a MUTILATED one (R133). -/
def sentAs (s : State) (c : Cell) : Code := if c.quality = .mutilated then s.working.defaultSubstitute else c.code

/-- Take the cell at the send cursor of entry `e`. -/
def sendCell (s : State) (item : TxItem) (e : Nat) : State := s.sendCode item (s.sentAs (s.cellOf e (s.record e).send.cursor))

/-! ### Answerback and replies -/

/-- The answerback's next code, or its end when none is left (R136). -/
def sendAnswerback (s : State) : List Code → State
  | [] => s.onTx fun b => { b with answerback := .none }
  | c :: rest => (s.onTx fun b => { b with answerback := .sending rest }).sendCode .answerback c

/-- The reply line's next code, or its end when none is left (R137). -/
def sendReply (s : State) : List Code → State
  | [] => s.replySent
  | c :: rest => (s.onTx fun b => { b with reply := some rest }).sendCode .reply c

/-! ### Retrieval (R139, R140) -/

/-- The codes of a part as it begins, with the call code then in force (R8, R139). The item still refers to its record when its
heading begins. -/
def partCodes (s : State) (t : Retrieval) : RetrievalPart → List Code
  | .crlf => crlf
  | .heading =>
    let r := s.record (t.entry.getD 0)
    headingRows s.working (r.serial.getD 0) r.precedence
  | .cells => []
  | .endRows => endRows s.working

/-- The retrieval item set. -/
def setRetrieval (s : State) (t : Retrieval) : State := s.onTx fun b => { b with retrieval := some t }

/-- Entry `e` has no cell left to send. -/
def allSent (s : State) (e : Nat) : Bool := decide ((s.record e).length ≤ (s.record e).send.cursor)

/-- The item has nothing more to send: its last part is at its end (R139, R140). -/
def retrievalDone (s : State) (t : Retrieval) : Bool :=
  let cellsOut := match t.entry with
    | some e => s.allSent e
    | none => true
  t.codes.isEmpty && match t.part, t.todo with
    | .cells, [] => cellsOut
    | _, [.cells] => cellsOut
    | _, [] => true
    | _, _ => false

/-- The item ends: DONE if its send is still owed, and the mark cleared (R139, R140). -/
def endRetrieval (s : State) (t : Retrieval) : State :=
  let s := s.onTx fun b => { b with retrieval := none }
  match t.entry with
  | none => s
  | some e =>
    s.updRecord e fun r => { r with send := { status := if r.send.owed then .done else r.send.status, cursor := r.send.cursor, mark := false } }

/-- An abandoned record met at a send boundary: the item lets it go and has its closing part to send (R140). At a boundary between
two parts, the part whose last unit was sent is the part in progress still (log entry 39). -/
def abandonRetrieval (s : State) (t : Retrieval) (e : Nat) : State :=
  let ends : List RetrievalPart := if t.hasSerial then [.endRows] else []
  let t' : Retrieval := match t.part with
    | .crlf => { t with entry := none, todo := .crlf :: ends }
    | .heading => { t with entry := none, todo := .crlf :: ends }
    | .cells => { t with entry := none, part := .crlf, codes := crlf, todo := ends }
    | .endRows => { t with entry := none, todo := [] }
  (s.setRetrieval t').letGoSend e false

/-- The retrieval's next unit, or its next part where the one in progress is at its end (R139). -/
def sendRetrieval (s : State) (t : Retrieval) : State :=
  match t.codes with
  | c :: rest => (s.setRetrieval { t with codes := rest }).sendCode .retrievalText c
  | [] =>
    let cell : Option Nat := if t.part = .cells then t.entry.filter fun e => !s.allSent e else none
    match cell with
    | some e => s.sendCell (.retrievalCell e) e
    | none =>
      match t.todo with
      | [] => s.endRetrieval t
      | part :: rest => s.setRetrieval { t with part := part, codes := s.partCodes t part, todo := rest }

/-! ### Keyboard text (R138) -/

/-- The next keyboard record to send: the earliest whose send is owed and that no item refers to (log entry 18). -/
def nextKeyboardText (s : State) : Option Nat :=
  s.store.arrival.find? fun e =>
    (s.record e).origin == .keyboard && (s.record e).send.owed && !(s.record e).send.mark

/-- The keyboard-text item takes entry `e`. -/
def takeKeyboardText (s : State) (e : Nat) : State :=
  (s.updRecord e fun r => { r with send := { r.send with mark := true } }).onTx fun b => { b with keyboardText := some e }

/-- The keyboard-text item's record is closed and all its cells are sent (R138). -/
def keyboardTextSent (s : State) (e : Nat) : Bool :=
  (s.record e).send.owed && (s.record e).state.isClosed && s.allSent e

/-- The keyboard-text item is done with entry `e`. -/
def endKeyboardText (s : State) (e : Nat) : State :=
  (s.onTx fun b => { b with keyboardText := none }).updRecord e fun r =>
    { r with send := { status := .done, cursor := r.send.cursor, mark := false } }

/-- The keyboard-text item lets an abandoned record go (R138). -/
def dropKeyboardText (s : State) (e : Nat) : State :=
  (s.onTx fun b => { b with keyboardText := none }).letGoSend e false

/-! ### The arbiter (R134) -/

/-- A break starts: (B + 4) UI of space (R135). -/
def startBreak (s : State) : State :=
  s.onTx fun b => { b with breakPending := false, inFlight := some (.brk (s.working.breakThreshold + 4)) }

/-- The head of the reply queue, where it is ready to be begun (R134, R167). -/
def readyReply (s : State) : Option (List Code) :=
  match s.dir.queue with
  | [] => none
  | h :: _ => if h.kind = .reserved then none else some h.text

/-- The ready item of highest rank below a reply sends its next unit (R134 step 3). -/
def sendText (s : State) : Option State :=
  match s.tx.retrieval with
  | some t => some (s.sendRetrieval t)
  | none =>
    match s.tx.keyboardText with
    | some e => if s.allSent e then none else some (s.sendCell (.keyboardCell e) e)
    | none => none

/-- The arbiter's decision at a send boundary (R134); `none` where the line rests. -/
def arbitrate (s : State) : Option State :=
  if s.tx.breakPending then some s.startBreak
  else match s.tx.answerback, s.tx.reply with
    | .sending rest, _ => some (s.sendAnswerback rest)
    | _, some rest => some (s.sendReply rest)
    | .pending, none => some (s.onTx fun b => { b with answerback := .sending s.working.answerback })
    | .none, none =>
      match s.readyReply with
      | some text => some (s.onTx fun b => { b with reply := some text })
      | none => s.sendText

/-- What the items do at a send boundary before the arbiter decides: an abandoned retrieval or keyboard record is let go, the
retrieval's first (log entry 8), a finished retrieval ends, and the keyboard-text item takes a record (R138, R139, R140). -/
def settleItems (s : State) : Option State :=
  let owes (e : Nat) : Bool := (s.record e).send.status == .abandoned
  match s.tx.retrieval.filter (fun t => t.entry.any owes) with
  | some t => t.entry.map (s.abandonRetrieval t)
  | none =>
    match s.tx.retrieval.filter s.retrievalDone with
    | some t => some (s.endRetrieval t)
    | none =>
      match s.tx.keyboardText with
      | some e => if owes e then some (s.dropKeyboardText e) else none
      | none => s.nextKeyboardText.map s.takeKeyboardText

/-- The next thing the Line Transmitter does of itself, if any. A closed keyboard record whose cells are all sent is DONE at once
(R138); the rest waits for a send boundary (R133), and nothing starts while a rate awaits adoption (R132) or outside CONNECTED. -/
def sendStep (s : State) : Option State :=
  if !s.isConnected then none
  else match s.tx.keyboardText.filter s.keyboardTextSent with
    | some e => some (s.endKeyboardText e)
    | none =>
      if s.tx.inFlight.isSome then none
      else match s.settleItems with
        | some s' => some s'
        | none => if s.rateWaits then none else s.arbitrate

/-! ### Completions -/

/-- A character in flight completes (R132, R133): the next of its unit follows without a gap, or the unit is complete. -/
def characterComplete (s : State) : State :=
  match s.tx.inFlight with
  | some (.character _ (c :: rest) after item) =>
    (s.onTx fun b => { b with inFlight := some (.character c rest after item) }).noticeTraffic
  | some (.character _ [] after item) =>
    ((s.onTx fun b => { b with inFlight := none, shift := after }).noticeTraffic).codeDone item
  | _ => s

/-- A break in flight completes (R135). -/
def breakComplete (s : State) : State :=
  match s.tx.inFlight with
  | some (.brk _) => (s.onTx fun b => { b with inFlight := none, shift := .unknown }).noticeTraffic
  | _ => s

/-- A break event from the Line Receiver (R141), with its notice to the keyboard (R121, R126): the sends are discarded, the
retrieval's record first, then the keyboard record is closed, and then the reply queue is emptied with its deferred actions (log
entry 31). -/
def breakEvent (s : State) : State :=
  let s := s.discardSends
  let s := (s.onKb fun b => { b with breakTimer := some 1000 }).closeComposing
  s.emptyQueue

end State
end Sys2Proof.Machine
end

