-- ==== Sys2Proof/Machine/Settle.lean ====
section
/-! DEFINITION. What the blocks do of themselves at each event, "at once" or "at the first moment": one step at a time until none
has anything more to do (log entry 6). -/

namespace Sys2Proof.Machine
namespace State

/-- Nothing is in flight at either controller and neither has an operation ready to issue (R188). -/
def motorQuiet (s : State) : Bool := s.print.inFlight.isNone && s.punch.inFlight.isNone && !s.demand

/-- Motor Control (R187, R188): demand starts a stopped motor; in RUNNING the idle timer starts at the first moment of quiet and
stops when it ends. An operation that meets HELD or TAPE OUT in RUNNING as it becomes ready leaves the timer running (log entry
38). -/
def motorStep (s : State) : Option State :=
  match s.motor.state with
  | .stopped =>
    if s.demand then some (s.onMotor fun m => { m with state := .starting, runUp := some s.working.runUpMs }) else none
  | .starting => none
  | .running =>
    if s.motorQuiet = s.motor.quiet then none
    else
      some (s.onMotor fun m =>
        { m with quiet := s.motorQuiet, idle := if s.motorQuiet then secondsTimer s.working.motorIdleS else none })

/-- The first alternative that has something to do. -/
def firstOf : List (State → Option State) → State → Option State
  | [], _ => none
  | f :: fs, s => match f s with
    | some s' => some s'
    | none => firstOf fs s

/-- One step of what the blocks do of themselves: adopt a line type (R145) or a rate (R18), send (R134), print (R88), punch (R100), run
the motor (R187). -/
def settleStep (s : State) : Option State :=
  firstOf [adoptLineType, adoptRate, sendStep, printStep, punchStep, motorStep] s

/-- `f` repeated while it has something to do, at most `n` times. -/
def repeatStep (f : State → Option State) : Nat → State → State
  | 0, s => s
  | n + 1, s => match f s with
    | some s' => repeatStep f n s'
    | none => s

/-- More than the steps one event can bring: the store's 16,384 cells skipped by three consumers, every code of a full reply queue,
and the records, contexts, pieces and listing lines between them. -/
def settleBound : Nat := 131072

/-- What follows an event at once. -/
def settle (s : State) : State := repeatStep settleStep settleBound s

end State

/-- One command as an event: taken whole at the block that owns it (section 0.5), with what follows at once. A part without power
takes no event. -/
def event (s : State) (f : State → State) : Host.Outcome State Fault Refusal :=
  .next (if s.powered then (f s).settle else s)

end Sys2Proof.Machine
end

