-- ==== Sys2Proof/Machine/Connection.lean ====
section
/-! DEFINITION. The commands of the connection: the CALL input, the connection timers and the adoption of a line type. -/

namespace Sys2Proof.Machine

namespace State

/-- The sustained space timer expires (R150): CLEARING on a switched line, LOST on a permanent one. -/
def loseLine (s : State) : State :=
  match s.conn.lineType with
  | .switched => s.enterClearing
  | .permanent => s.enterLost

/-- What a timer's expiry does, where the timer is running; a stopped timer does not expire (log entry 11). -/
def atExpiry (s : State) (timer : Option Nat) (f : State → State) : State := if timer.isSome then f s else s

end State

/-- CALL_INPUT_CHANGE (R147, R158). Without power only the input is as it stands. -/
def execCallInputChange (present : Bool) (s : State) : Host.Outcome State Fault Refusal :=
  if s.powered then event s fun s => s.callChange present
  else .next (s.onConn fun b => { b with callInput := present })

/-- STABLE_MARK_TIMER_EXPIRY (R146, R149). -/
def execStableMarkTimerExpiry (s : State) : Host.Outcome State Fault Refusal :=
  event s fun s => s.atExpiry s.conn.stableMark State.enterConnected

/-- ANSWER_TIMER_EXPIRY (R148). -/
def execAnswerTimerExpiry (s : State) : Host.Outcome State Fault Refusal :=
  event s fun s => s.atExpiry s.conn.answerTimer State.enterClearing

/-- CALL_TIMER_EXPIRY (R148). -/
def execCallTimerExpiry (s : State) : Host.Outcome State Fault Refusal :=
  event s fun s => s.atExpiry s.conn.callTimer State.enterClearing

/-- SUSTAINED_SPACE_TIMER_EXPIRY (R150). -/
def execSustainedSpaceTimerExpiry (s : State) : Host.Outcome State Fault Refusal :=
  event s fun s => s.atExpiry s.conn.sustainedSpace State.loseLine

/-- LINE_IDLE_TIMER_EXPIRY (R151). -/
def execLineIdleTimerExpiry (s : State) : Host.Outcome State Fault Refusal :=
  event s fun s => s.atExpiry s.conn.lineIdle State.enterClearing

/-- CLEARING_TIMER_EXPIRY (R153). -/
def execClearingTimerExpiry (s : State) : Host.Outcome State Fault Refusal :=
  event s fun s => s.atExpiry s.conn.clearingTimer State.endClearing

/-- LINE_TYPE_ADOPTION (R145): where one is due; otherwise nothing (log entry 11). -/
def execLineTypeAdoption (s : State) : Host.Outcome State Fault Refusal := event s fun s => s.adoptLineType.getD s

end Sys2Proof.Machine
end

