-- ==== Sys2Proof/Machine/AccessOps.lean ====
section
/-! DEFINITION. Access Control (Chapter 10): the open check, and the O, C, K and F directives. -/

namespace Sys2Proof.Machine

/-- A directive's source is the line. -/
def fromLine : DirSource → Bool
  | .line _ _ => true
  | .keyboard => false

namespace State

/-- The open state of a directive's source (R179). -/
def openState (s : State) (src : DirSource) : OpenState := if fromLine src then s.access.lineOpen else s.access.localOpen

/-- The open state of a directive's source set (R179). -/
def setOpen (s : State) (src : DirSource) (o : OpenState) : State :=
  s.onAccess fun a => if fromLine src then { a with lineOpen := o } else { a with localOpen := o }

/-- The open check's table (R180): whether a directive passes, given whether it is a W. -/
def passesOpen (s : State) (src : DirSource) (isW : Bool) : Bool :=
  if !s.working.secured then true
  else match s.openState src with
    | .closed => false
    | .operator => !(s.working.strict && isW)
    | .supervisor => !s.working.strict || isW

/-- The open check (R180): `none` passes, else the refusal. -/
def openCheck (s : State) (src : DirSource) (isW : Bool) : Option Reason :=
  if !s.passesOpen src isW then some .n01 else if isW && s.access.frozen then some .n02 else none

/-- The access number named by w (R178). -/
def accessNumber (s : State) (w : Nat) : Option (List Code) :=
  if w = 1 then s.working.operatorNumber else s.working.supervisorNumber

/-- The access number named by w set or cleared in the working copy (R178). -/
def setAccessNumber (s : State) (w : Nat) (n : Option (List Code)) : State :=
  s.onWorking fun p => if w = 1 then { p with operatorNumber := n } else { p with supervisorNumber := n }

/-- A wrong number: the attempts counter up by 1, and EXPIRED at the fifth (R181 step 5). -/
def wrongNumber (s : State) : State :=
  s.onAccess fun a => { a with attempts := a.attempts + 1, expired := a.expired || 5 ≤ a.attempts + 1 }

/-- A right number: the counter to 0 and the source open at the level of w (R181 step 6). -/
def rightNumber (s : State) (src : DirSource) (w : Nat) : State :=
  (s.onAccess fun a => { a with attempts := 0 }).setOpen src (if w = 1 then .operator else .supervisor)

/-- The O directive after its field check (R181). -/
def tryNumber (s : State) (src : DirSource) (w : Nat) (n : List Code) : State × Reason :=
  if s.access.expired then (s, .n03)
  else if s.access.frozen then (s, .n02)
  else match s.accessNumber w with
    | none => (s, .n04)
    | some held => if held = n then (s.rightNumber src w, .a00) else (s.wrongNumber, .n04)

/-- The w of an O or K: 1 or 2. -/
def wOf (f : List Code) : Option Nat := if fieldValue f = 1 then some 1 else if fieldValue f = 2 then some 2 else none

/-- The O directive (R181). -/
def directiveO (s : State) (src : DirSource) (fields : List (List Code)) : State × Reason :=
  match fields with
  | [w, n] =>
    match wOf w with
    | some w => s.tryNumber src w n
    | none => (s, .n06)
  | _ => (s, .n06)

/-- The K directive after its field check: set the number named by w to `n`, or clear it (R183). -/
def changeNumber (s : State) (src : DirSource) (w : Nat) (n : Option (List Code)) : State × Reason :=
  if s.access.frozen then (s, .n02)
  else if w = 1 ∧ n.isSome ∧ s.working.secured = false then ((s.setAccessNumber w n).setOpen src .operator, .a00)
  else if s.passesOpen src false then (s.setAccessNumber w n, .a00)
  else (s, .n01)

/-- The K directive (R183). -/
def directiveK (s : State) (src : DirSource) (fields : List (List Code)) : State × Reason :=
  match fields with
  | [w] =>
    match wOf w with
    | some w => s.changeNumber src w none
    | none => (s, .n06)
  | [w, n] =>
    match wOf w with
    | some w => s.changeNumber src w (some n)
    | none => (s, .n06)
  | _ => (s, .n06)

/-- The F directive's effect (R184). -/
def setFrozen (s : State) : State := s.onAccess fun a => { a with frozen := true }

/-- Step 4 of the erase (R185): under STRICT, a W from a source open as supervisor clears the operator number, security being
enabled. -/
def eraseAccess (s : State) (src : DirSource) : State :=
  if s.working.secured && s.working.strict && s.openState src == .supervisor then s.setAccessNumber 1 none else s

end State
end Sys2Proof.Machine
end

