-- ==== Sys2Proof/WellFormed.lean ====
section
/-! DEFINITION. The commands a sender can form: what an assembler can hold as a directive's body, and the ticks a
character can reach. -/

namespace Sys2Proof

/-- A character an assembler holds in BODY: not LEAD, not CR, not NUL (R160). -/
def bodyCodeOk (c : Code) : Bool := c != 0#7 && c != 13#7 && c != 27#7

/-- The most body characters an assembler holds: 48 less the call code and the letter (R163). -/
def bodyLimit : DirSource → Nat
  | .line _ _ => 45
  | .keyboard => 47

/-- A directive command that an assembler can have assembled: neither call-code character is LEAD, CR or NUL (R160), and the
body is one it can hold (R163). -/
def DirSource.ok : DirSource → Bool
  | .line c1 c2 => bodyCodeOk c1 && bodyCodeOk c2
  | .keyboard => true

def directiveOk (src : DirSource) (body : List Code) : Bool :=
  src.ok && body.all bodyCodeOk && decide (body.length ≤ bodyLimit src)

/-- The well-formed commands. A tick lies within the longest character: 64 × 48 (R27). -/
def Instr.wf : Instr → Bool
  | .lineConditionChange _ t => decide (t ≤ 3072)
  | .select src b => directiveOk src b
  | .deselect src b => directiveOk src b
  | .messageHeading src b => directiveOk src b
  | .endOfMessage src b => directiveOk src b
  | .punchClaim src b => directiveOk src b
  | .linePrintSwitch src b => directiveOk src b
  | .identify src b => directiveOk src b
  | .statusSnapshot src b => directiveOk src b
  | .openSource src b => directiveOk src b
  | .closeSource src b => directiveOk src b
  | .freeze src b => directiveOk src b
  | .accessNumber src b => directiveOk src b
  | .listDirectory src b => directiveOk src b
  | .retrieveEntry src b => directiveOk src b
  | .deleteEntry src b => directiveOk src b
  | .eraseStore src b => directiveOk src b
  | .setParameter src b => directiveOk src b
  | .loadTableEntry src b => directiveOk src b
  | .commitProfile src b => directiveOk src b
  | .stationReset src b => directiveOk src b
  | .hangUp src b => directiveOk src b
  | .clearStatistics src b => directiveOk src b
  | .copyEntryToTape src b => directiveOk src b
  | .powerOn => true
  | .hardReset => true
  | .falseStart => true
  | .stopSample => true
  | .breakDeclared => true
  | .rateAdoption => true
  | .characterSent => true
  | .breakSent => true
  | .deferredReset => true
  | .deferredClear => true
  | .scan _ => true
  | .characterKeyDown _ => true
  | .lead _ => true
  | .hereIs _ => true
  | .breakKey _ => true
  | .lineLocal _ => true
  | .tape _ => true
  | .feed _ => true
  | .newTape _ => true
  | .endKey _ => true
  | .attend _ => true
  | .unattend _ => true
  | .answer _ => true
  | .seize _ => true
  | .clearLine _ => true
  | .clearFault _ => true
  | .repeatKey _ => true
  | .shiftKey _ => true
  | .repetition => true
  | .breakLockTimerExpiry => true
  | .closeTimerExpiry => true
  | .printerDone => true
  | .printerFaultTimerExpiry => true
  | .paperOutChange _ _ => true
  | .punchDone => true
  | .punchFaultTimerExpiry => true
  | .runUpTimerExpiry => true
  | .idleTimerExpiry => true
  | .commitCompletion _ => true
  | .callInputChange _ => true
  | .stableMarkTimerExpiry => true
  | .answerTimerExpiry => true
  | .callTimerExpiry => true
  | .sustainedSpaceTimerExpiry => true
  | .lineIdleTimerExpiry => true
  | .clearingTimerExpiry => true
  | .lineTypeAdoption => true
  | .dataElementSample => true
  | .powerRemoval => true

end Sys2Proof
end

