-- ==== Sys2Proof/Machine/DirectiveOps.lean ====
section
/-! DEFINITION. Directives (Chapter 9): the letters and their checks (R164 to R166), every directive's effect and answer, the two
assemblers (R160 to R163), and the completion of a commit (R192). -/

namespace Sys2Proof.Machine

/-! ### The letters (R164) -/

/-- The directives, one for each letter of R164. -/
inductive DirKind where
  | select | deselect | heading | endMsg | punch | printSwitch | identify | status | openSrc | closeSrc | freeze | number
  | list | retrieve | delete | erase | setPar | load | commit | reset | hangUp | clearStats | copy
  deriving DecidableEq, Repr

/-- A directive's letter (R164). -/
def DirKind.letter : DirKind → Code
  | .select => chr 'S' | .deselect => chr 'D' | .heading => chr 'M' | .endMsg => chr 'E' | .punch => chr 'P'
  | .printSwitch => chr 'Q' | .identify => chr 'I' | .status => chr 'T' | .openSrc => chr 'O' | .closeSrc => chr 'C'
  | .freeze => chr 'F' | .number => chr 'K' | .list => chr 'L' | .retrieve => chr 'R' | .delete => chr 'X'
  | .erase => chr 'W' | .setPar => chr 'A' | .load => chr 'B' | .commit => chr 'V' | .reset => chr 'Y'
  | .hangUp => chr 'H' | .clearStats => chr 'Z' | .copy => chr 'G'

/-- All the directives. -/
def dirKinds : List DirKind :=
  [.select, .deselect, .heading, .endMsg, .punch, .printSwitch, .identify, .status, .openSrc, .closeSrc, .freeze, .number,
   .list, .retrieve, .delete, .erase, .setPar, .load, .commit, .reset, .hangUp, .clearStats, .copy]

/-- The directive a letter names, if any (R165 step 5). -/
def DirKind.ofLetter (c : Code) : Option DirKind := dirKinds.find? fun k => k.letter == c

/-- Allowed from the line (R164). -/
def DirKind.onLine : DirKind → Bool
  | .copy => false
  | _ => true

/-- Allowed from the keyboard (R164). -/
def DirKind.onKeyboard (k : DirKind) : Bool := !([.select, .deselect, .heading, .endMsg, .punch, .retrieve].contains k)

/-- Needs open, checked at step 7 (R164); O and K are checked by Access Control itself. -/
def DirKind.needsOpen (k : DirKind) : Bool :=
  [.freeze, .list, .retrieve, .delete, .erase, .setPar, .load, .commit, .reset, .clearStats, .copy].contains k

/-- Answered on the line when OWN: every letter but S, D, M and E (R165 step 4). -/
def DirKind.answered (k : DirKind) : Bool := !([.select, .deselect, .heading, .endMsg].contains k)

/-- Carried out when BROADCAST (R165 step 2). -/
def DirKind.broadcast (k : DirKind) : Bool := [.select, .deselect, .heading, .endMsg, .punch, .printSwitch].contains k

/-- The fields a directive takes, as decimal values (R164, R166). O, K and B are checked under R181, R183 and R17. -/
def DirKind.fieldsOk (k : DirKind) (vs : List Nat) : Bool :=
  match k, vs with
  | .heading, [p, n] => decide (p ≤ 3 ∧ n ≤ 9999)
  | .punch, [v] => decide (v ≤ 1)
  | .printSwitch, [v] => decide (v ≤ 1)
  | .status, [] => true
  | .status, [g] => decide (1 ≤ g ∧ g ≤ 5)
  | .retrieve, [e] => decide (1 ≤ e ∧ e ≤ 32)
  | .delete, [e] => decide (1 ≤ e ∧ e ≤ 32)
  | .copy, [e] => decide (1 ≤ e ∧ e ≤ 32)
  | .setPar, [p, _] => decide (1 ≤ p ∧ p ≤ 34)
  | .openSrc, _ => true
  | .number, _ => true
  | .load, _ => true
  | .heading, _ => false
  | .punch, _ => false
  | .printSwitch, _ => false
  | .status, _ => false
  | .retrieve, _ => false
  | .delete, _ => false
  | .copy, _ => false
  | .setPar, _ => false
  | _, vs => vs.isEmpty

/-- A directive being executed: its source, match result, letter and body. -/
structure DirCall where
  src : DirSource
  result : MatchResult
  letter : Code
  body : List Code
  deriving DecidableEq, Repr

/-- An assembler with one more character held (R163), in a given state. -/
def Assembler.holding (a : Assembler) (st : AsmState) (c : Code) : Assembler :=
  { a with state := st, buffer := List.append a.buffer [c] }

/-! ### Table loads (R17, R196) -/

/-- A receive map entry from its fields. -/
def rxFromFields : List Nat → Option RxEntry
  | [k] => if k = 0 then some .ignore else if k = 2 then some .shiftLetters else if k = 3 then some .shiftFigures else none
  | [k, c] => if k = 1 ∧ c ≤ 127 then some (.character (BitVec.ofNat 7 c)) else none
  | _ => none

/-- A code table record from its fields. -/
def codeFromFields : List Nat → Option CodeRec
  | [pl, lc, tp] =>
    if pl ≤ 3 ∧ lc ≤ 31 ∧ tp ≤ 64 ∧ (pl = 0 → lc = 0) then
      let row := BitVec.ofNat 5 lc
      let as : SendAs := if pl = 0 then .none else if pl = 1 then .letters row else if pl = 2 then .figures row else .both row
      some ⟨as, if tp = 64 then none else some tp⟩
    else none
  | _ => none

/-- A key table entry from its fields. -/
def keyFromFields : List Nat → Option KeyEntry
  | [k, v] =>
    if k = 0 ∧ v = 0 then some .none
    else if k = 1 ∧ v ≤ 127 ∧ v ≠ 27 then some (.character (BitVec.ofNat 7 v))
    else if k = 2 ∧ 1 ≤ v ∧ v ≤ 16 then some (.function (KeyFn.ofNumber v))
    else none
  | _ => none

/-- A call code from its fields. -/
def callFromFields : List Nat → Option (Option (Code × Code))
  | [] => some none
  | [a, b] =>
    if 65 ≤ a ∧ a ≤ 90 ∧ 65 ≤ b ∧ b ≤ 90 ∧ ¬(a = 90 ∧ b = 90) then some (some (BitVec.ofNat 7 a, BitVec.ofNat 7 b)) else none
  | _ => none

/-- The profile with an answerback position loaded (R7, R17). -/
def Profile.loadAnswerback (p : Profile) (i : Nat) : List Nat → Option Profile
  | [v] =>
    if i = 0 ∧ v ≤ 20 then some { p with answerbackLen := v }
    else if 1 ≤ i ∧ i ≤ 20 ∧ v ≤ 127 ∧ v ≠ 5 ∧ v ≠ 27 then
      some { p with answerbackCodes := p.answerbackCodes.set (i - 1) (BitVec.ofNat 7 v) }
    else none
  | _ => none

/-- The profile after a table load, checked whole; `none` where any check fails (R17). -/
def Profile.load (p : Profile) : List Nat → Option Profile
  | t :: i :: vs =>
    if t = 1 then
      if i ≤ 63 then (rxFromFields vs).map fun e => { p with rxMap := p.rxMap.set i e } else none
    else if t = 2 then
      if i ≤ 127 then (codeFromFields vs).map fun r => { p with codeTable := p.codeTable.set i r } else none
    else if t = 3 then
      if i ≤ 127 then (keyFromFields vs).map fun e => { p with keyTable := p.keyTable.set i e } else none
    else if t = 4 then p.loadAnswerback i vs
    else if t = 5 ∧ i = 0 then (callFromFields vs).map fun c => { p with callCode := c }
    else none
  | _ => none

/-- The profile after an A directive and the value set; `none` where the active range would be inverted (R14, R175). -/
def Profile.setParameter (p : Profile) (n v : Nat) : Option (Profile × Nat) :=
  let p' := p.setPar n (clampPar n v)
  if (n = 31 ∨ n = 32) ∧ p'.activeHigh < p'.activeLow then none else some (p', clampPar n v)

/-! ### The status fields (R38, R195) -/

/-- Mean distortion in percent (R38). -/
def LineStats.meanPercent (t : LineStats) : Nat :=
  if t.characters = 0 then 0 else (100 * t.peakSum + 32 * t.characters) / (64 * t.characters)

/-- Peak distortion in percent (R38). -/
def LineStats.peakPercent (t : LineStats) : Nat := (100 * t.peakMax + 32) / 64

/-- Bias in percent (R38). -/
def biasPercent (be : Int) : Int := be.sign * ((100 * (be.natAbs : Int) + 512) / 1024)

/-- The letter of a printer service state (R195). -/
def PrinterService.letter : PrinterService → Code
  | .idle => chr 'I' | .ready => chr 'R' | .busy => chr 'B' | .held => chr 'H' | .fault => chr 'F'

/-- The letter of a punch service state (R195). -/
def PunchService.letter : PunchService → Code
  | .idle => chr 'I' | .ready => chr 'R' | .busy => chr 'B' | .tapeOut => chr 'T' | .fault => chr 'F'

/-- The letter of a claim state (R195). -/
def ClaimState.letter : ClaimState → Code
  | .idle => chr 'I' | .waiting => chr 'W' | .holding => chr 'H' | .draining => chr 'D'

/-- The letter of a motor state (R195). -/
def MotorState.letter : MotorState → Code
  | .stopped => chr 'S' | .starting => chr 'U' | .running => chr 'R'

/-- The letter of a connection state (R195). -/
def ConnState.letter : ConnState → Code
  | .idle => chr 'I' | .answering => chr 'A' | .calling => chr 'C' | .connected => chr 'K' | .clearing => chr 'X'
  | .lost => chr 'L'

/-- The letter of an open state (R195). -/
def OpenState.letter : OpenState → Code
  | .closed => chr 'C' | .operator => chr 'O' | .supervisor => chr 'S'

namespace State

/-- Group 1, Line. -/
def statusLine (s : State) : List (List Code) :=
  let t := s.rx.stats
  [number t.characters, number t.doubtful, number t.mutilated, number t.falseStarts, number t.breaks, number t.peakMax,
   number t.peakSum, flag t.full, number t.meanPercent, number t.peakPercent, signedNumber (biasPercent s.rx.be),
   number s.rx.rate]

/-- Group 2, Store. -/
def statusStore (s : State) : List (List Code) :=
  let b := s.store
  [number b.free.length, number s.emptyEntries, number b.overflowCount, number b.lostMessageCount, number b.lostNoticeCount,
   number b.strayEndCount, flag b.linePrint, number b.openStack.length]

/-- Group 3, Mechanisms. -/
def statusMechanisms (s : State) : List (List Code) :=
  let b := s.punch
  [[s.print.service.letter], flag s.print.paperLow, [b.service.letter], [b.lineClaim.state.letter], number b.lineClaim.count,
   [b.keyboardClaim.state.letter], number b.keyboardClaim.count, [b.copyClaim.state.letter], number b.copyClaim.count,
   number b.tapeSupply, number b.skipCount, [s.motor.state.letter], flag s.profile.fault]

/-- Group 4, Station. -/
def statusStation (s : State) : List (List Code) :=
  [[s.conn.state.letter], flag (s.conn.lineType == .permanent), flag s.conn.selected, flag s.conn.attended,
   flag (s.kb.mode == .loc), number s.kb.blockedCount, number s.kb.noRoomCount, number s.tx.skipCount,
   number s.tx.suppressionCount, number s.dir.overlongCount, number s.dir.malformedCount, number s.dir.overrunCount]

/-- Group 5, Access. -/
def statusAccess (s : State) : List (List Code) :=
  [flag s.working.secured, flag s.working.strict, flag s.working.operatorNumber.isSome,
   flag s.working.supervisorNumber.isSome, number s.access.attempts, flag s.access.expired, flag s.access.frozen,
   [s.access.lineOpen.letter], [s.access.localOpen.letter]]

/-- The data fields of a status group (R171, R195). -/
def statusFields (s : State) (g : Nat) : List (List Code) :=
  if g = 1 then s.statusLine else if g = 2 then s.statusStore else if g = 3 then s.statusMechanisms
  else if g = 4 then s.statusStation else s.statusAccess

/-! ### Answers (R167, R168, R194) -/

/-- The echo of a local directive (R194): an O's or K's number is hidden (R183). -/
def echo (c : DirCall) : List Code :=
  c.letter :: (if c.letter = chr 'O' ∨ c.letter = chr 'K' then maskNumber c.body else c.body)

/-- The text of a local notice: the echo line, the reply line, and listing lines where there are any (R194). -/
def noticeText (echo : List Code) (r : Reply) (lines : List (List Code)) : List Code :=
  List.flatten [echo, crlf, r.text, crlf, lines.flatten]

/-- A plain reply entry. -/
def replyEntry (s : State) (r : Reply) (d : Deferred) : ReplyEntry := ⟨.lineReply, r.lineText s.working, d, [], 0⟩

/-- Answer a directive (R165): an OWN line directive in the reply queue, with a deferred action; a local one in a station notice; a
BROADCAST one nowhere. -/
def answerWith (s : State) (c : DirCall) (r : Reply) (d : Deferred) : State :=
  match c.src with
  | .keyboard => s.notice (noticeText (echo c) r [])
  | .line _ _ => if c.result = .own then s.enqueue (s.replyEntry r d) else s

/-- Answer a directive with no deferred action. -/
def answer (s : State) (c : DirCall) (r : Reply) : State := s.answerWith c r .none

/-- Answer with a reason alone what an effect came to. -/
def answered (x : State × Reason) (c : DirCall) : State := x.1.answer c x.2.alone

/-! ### The effects, letter by letter -/

/-- The addressed code is the own call code or ZZ, as they stand (R8, R156). -/
def addressed (s : State) : DirSource → Bool
  | .keyboard => false
  | .line c1 c2 => s.working.callCode == some (c1, c2) || (c1, c2) == (0o132#7, 0o132#7)

/-- S (R156, R169). -/
def doSelect (s : State) (c : DirCall) : State :=
  if s.addressed c.src then s.onConn fun b => { b with selected := true } else s.deselect

/-- D (R156, R169). -/
def doDeselect (s : State) (c : DirCall) : State := if s.addressed c.src then s.deselect else s

/-- M p n (R48, R169). -/
def doHeading (s : State) : List Nat → State
  | [p, n] => s.heading p n
  | _ => s

/-- P (R170). -/
def doPunch (s : State) (c : DirCall) (vs : List Nat) : State :=
  answered (if vs = [1] then s.claimRequest .line else s.releaseRequest .line) c

/-- Q (R48, R170). -/
def doPrintSwitch (s : State) (c : DirCall) (vs : List Nat) : State :=
  (s.onStore fun b => { b with linePrint := vs == [1] }).answer c Reason.a00.alone

/-- I (R171). -/
def doIdentify (s : State) (c : DirCall) : State :=
  s.answer c ⟨.a00, [number 7720, number 1, number 256, number 32, number 4]⟩

/-- T (R171). -/
def doStatus (s : State) (c : DirCall) (vs : List Nat) : State := s.answer c ⟨.a00, s.statusFields (vs.headD 1)⟩

/-- C (R179). -/
def doClose (s : State) (c : DirCall) : State := (s.setOpen c.src .closed).answer c Reason.a00.alone

/-- A listing of the whole directory, a line an entry (R172). -/
def listingLines (s : State) : List (List Code) := s.store.arrival.map fun e => listingLine e (s.record e)

/-- The head line of a listing (R172, R195). -/
def listingHead (s : State) : Reply := ⟨.a00, [number s.store.arrival.length]⟩

/-- L (R172). -/
def doList (s : State) (c : DirCall) : State :=
  match c.src with
  | .keyboard =>
    let whole := noticeText (echo c) s.listingHead s.listingLines
    if s.noticeFits whole then s.notice whole else s.answer c Reason.n12.alone
  | .line _ _ =>
    if s.dir.queue.any (·.kind == .listing) then s.answer c Reason.n08.alone
    else
      s.enqueue ⟨.listing, s.listingHead.lineText s.working, .none, s.store.arrival.map fun e => ⟨e, false⟩, 0⟩

/-- R e (R173). -/
def doRetrieve (s : State) (c : DirCall) (vs : List Nat) : State := answered (s.requestRetrieval (vs.headD 0)) c

/-- X e (R173). -/
def doDelete (s : State) (c : DirCall) (vs : List Nat) : State := answered (s.requestDelete (vs.headD 0)) c

/-- G e (R173). -/
def doCopy (s : State) (c : DirCall) (vs : List Nat) : State := answered (s.requestCopy (vs.headD 0)) c

/-- W (R61, R174, R185). -/
def doErase (s : State) (c : DirCall) : State := (s.erase.eraseAccess c.src).answer c Reason.a00.alone

/-- A p v (R175): A00 with the value given, A09 with the value set, N06 where the active range would be inverted. -/
def doSetPar (s : State) (c : DirCall) : List Nat → State
  | [n, v] =>
    match s.working.setParameter n v with
    | none => s.answer c Reason.n06.alone
    | some (p, set) =>
      (s.changeWorking p).answer c (if set = v then Reason.a00.alone else ⟨.a09, [number set]⟩)
  | _ => s

/-- B (R17, R175). -/
def doLoad (s : State) (c : DirCall) (vs : List Nat) : State :=
  match s.working.load vs with
  | none => s.answer c Reason.n06.alone
  | some p => (s.onWorking fun _ => p).answer c Reason.a00.alone

/-- V (R175, R192): a line V reserves its place in the reply queue. -/
def doCommit (s : State) (c : DirCall) : State :=
  if s.profile.commit.isSome then s.answer c Reason.n08.alone
  else
    let s := s.onProfile fun b => { b with commit := some ⟨.written b.working, fromLine c.src⟩ }
    if fromLine c.src then s.enqueue ⟨.reserved, [], .none, [], 0⟩ else s

/-- Y (R176): a line Y defers the reset behind its reply; a local Y is answered and then resets. -/
def doReset (s : State) (c : DirCall) : State :=
  match c.src with
  | .line _ _ => s.answerWith c Reason.a00.alone .reset
  | .keyboard => (s.answer c Reason.a00.alone).stationResetEffect

/-- H (R176): a line H defers the clear behind its reply; a local H makes it at once. -/
def doHangUp (s : State) (c : DirCall) : State :=
  match c.src with
  | .line _ _ => s.answerWith c Reason.a00.alone .clear
  | .keyboard => s.clearRequest.answer c Reason.a00.alone

/-- Z (R37, R174). -/
def doClearStats (s : State) (c : DirCall) : State :=
  (s.onRx fun b => { b with stats := .zero }).answer c Reason.a00.alone

/-- Step 9 of R165: the directive carried out under its own rule, with its fields as written and as values. -/
def effect (s : State) (k : DirKind) (c : DirCall) (fs : List (List Code)) : State :=
  let vs := fs.map fieldValue
  match k with
  | .select => s.doSelect c
  | .deselect => s.doDeselect c
  | .heading => s.doHeading vs
  | .endMsg => s.endMessage
  | .punch => s.doPunch c vs
  | .printSwitch => s.doPrintSwitch c vs
  | .identify => s.doIdentify c
  | .status => s.doStatus c vs
  | .openSrc => answered (s.directiveO c.src fs) c
  | .closeSrc => s.doClose c
  | .freeze => s.setFrozen.answer c Reason.a00.alone
  | .number => answered (s.directiveK c.src fs) c
  | .list => s.doList c
  | .retrieve => s.doRetrieve c vs
  | .delete => s.doDelete c vs
  | .erase => s.doErase c
  | .setPar => s.doSetPar c vs
  | .load => s.doLoad c vs
  | .commit => s.doCommit c
  | .reset => s.doReset c
  | .hangUp => s.doHangUp c
  | .clearStats => s.doClearStats c
  | .copy => s.doCopy c vs

/-! ### Execution (R165) -/

/-- A body that fails step 8 (R165): refused with N06, but a line S, D, M or E is dropped and counted, and a BROADCAST one is
ignored. -/
def badFields (s : State) (k : DirKind) (c : DirCall) : State :=
  if fromLine c.src && !k.answered then s.onDir fun d => { d with malformedCount := sat16 d.malformedCount }
  else s.answer c Reason.n06.alone

/-- Steps 7 to 9 of R165. -/
def carryOut (s : State) (k : DirKind) (c : DirCall) : State :=
  match (if k.needsOpen then s.openCheck c.src (k == .erase) else none) with
  | some r => s.answer c r.alone
  | none =>
    match readFields c.body with
    | none => s.badFields k c
    | some fs => if k.fieldsOk (fs.map fieldValue) then s.effect k c fs else s.badFields k c

/-- Steps 5 to 9 of R165. -/
def checkLetter (s : State) (c : DirCall) : State :=
  match DirKind.ofLetter c.letter with
  | none => s.answer c Reason.n05.alone
  | some k =>
    if (if fromLine c.src then k.onLine else k.onKeyboard) then s.carryOut k c else s.answer c Reason.n13.alone

/-- A directive needs a place in the reply queue and finds none (R165 step 4). -/
def overrun (s : State) (c : DirCall) : Bool :=
  fromLine c.src && c.result == .own && (DirKind.ofLetter c.letter).all DirKind.answered && decide (4 ≤ s.dir.queue.length)

/-- The execution of a directive at the CR that ends its BODY (R165). -/
def execute (s : State) (c : DirCall) : State :=
  let k := DirKind.ofLetter c.letter
  if fromLine c.src && c.result == .foreign then
    if k == some .select && c.body.isEmpty then s.doSelect c else s
  else if fromLine c.src && c.result == .broadcast && !k.any DirKind.broadcast then s
  else if fromLine c.src && (k == some .heading || k == some .endMsg) && !s.conn.selected then s
  else if s.overrun c then s.onDir fun d => { d with overrunCount := sat16 d.overrunCount }
  else s.checkLetter c

/-! ### The assemblers -/

/-- The match of two call-code characters (R161). -/
def matchCall (s : State) (c1 c2 : Code) : MatchResult :=
  if s.working.callCode = some (c1, c2) then .own else if (c1, c2) = (0o132#7, 0o132#7) then .broadcast else .foreign

/-- The line assembler set. -/
def setLineAsm (s : State) (a : Assembler) : State := s.onDir fun d => { d with lineAsm := a }

/-- The local assembler set. -/
def setLocalAsm (s : State) (a : Assembler) : State := s.onDir fun d => { d with localAsm := a }

/-- A directive found malformed is counted (R160). -/
def countMalformed (s : State) : State := s.onDir fun d => { d with malformedCount := sat16 d.malformedCount }

/-- A directive grown past 48 characters is counted (R163). -/
def countOverlong (s : State) : State := s.onDir fun d => { d with overlongCount := sat16 d.overlongCount }

/-- A character other than LEAD and CR held by the line assembler in CALL, LETTER or BODY (R160, R161, R163). -/
def lineHold (s : State) (a : Assembler) (c : Code) : State :=
  match a.state, a.buffer with
  | .call, c1 :: _ => s.setLineAsm { a.holding .letter c with result := s.matchCall c1 c }
  | .call, [] => s.setLineAsm (a.holding .call c)
  | .letter, _ =>
    s.setLineAsm (a.holding (if a.result = .foreign ∧ c ≠ chr 'S' then .discard else .body) c)
  | _, buf =>
    if 48 ≤ buf.length then s.countOverlong.setLineAsm { a with state := .discard } else s.setLineAsm (a.holding .body c)

/-- CR at the line assembler (R160): a BODY is executed, anything shorter is malformed unless FOREIGN. The assembler is left IDLE with
its buffer empty and its match result NONE (log entry 40). -/
def lineEnd (s : State) (a : Assembler) : State :=
  let s := s.setLineAsm .start
  match a.state, a.buffer with
  | .body, c1 :: c2 :: letter :: body => s.execute ⟨.line c1 c2, a.result, letter, body⟩
  | .call, _ => if a.result = .foreign then s else s.countMalformed
  | .letter, _ => if a.result = .foreign then s else s.countMalformed
  | _, _ => s

/-- A character handed to the line assembler (R160). A MUTILATED one in BODY with 48 characters held counts as malformed only (log
entry 37). A CR in DISCARD leaves the buffer empty and the match result NONE (log entry 40). -/
def handLine (s : State) (c : Code) (q : Quality) : State :=
  let a := s.dir.lineAsm
  if c = 0o033#7 ∧ q ≠ .mutilated then s.setLineAsm ⟨.call, .none, []⟩
  else match a.state with
    | .idle => s
    | .discard => if c = 0o015#7 ∧ q ≠ .mutilated then s.setLineAsm .start else s
    | .call | .letter | .body =>
      if q = .mutilated then s.countMalformed.setLineAsm { a with state := .discard }
      else if c = 0o000#7 then s
      else if c = 0o015#7 then s.lineEnd a
      else s.lineHold a c

/-- A character other than LEAD and CR held by the local assembler in LETTER or BODY (R162, R163). -/
def localHold (s : State) (a : Assembler) (c : Code) : State :=
  if 48 ≤ a.buffer.length then s.countOverlong.setLocalAsm { a with state := .discard }
  else s.setLocalAsm (a.holding .body c)

/-- CR at the local assembler (R162). Its buffer is left empty (log entry 40). -/
def localEnd (s : State) (a : Assembler) : State :=
  let s := s.setLocalAsm .start
  match a.state, a.buffer with
  | .body, letter :: body => s.execute ⟨.keyboard, .none, letter, body⟩
  | .letter, _ => s.countMalformed
  | _, _ => s

/-- A character handed to the local assembler (R162). -/
def handLocal (s : State) (c : Code) : State :=
  let a := s.dir.localAsm
  if c = 0o033#7 then s.setLocalAsm ⟨.letter, .none, []⟩
  else match a.state with
    | .idle | .call => s
    | .discard => if c = 0o015#7 then s.setLocalAsm .start else s
    | .letter | .body =>
      if c = 0o000#7 then s else if c = 0o015#7 then s.localEnd a else s.localHold a c

/-! ### Directive commands -/

/-- A directive's source can bring directives now: the line while CONNECTED (R156), the keyboard while attended (R179). A lock reason
other than UNATTENDED refuses the key-down of the CR (R129), not the directive's own command (log entry 7). -/
def sourceLive (s : State) : DirSource → Bool
  | .line _ _ => s.isConnected
  | .keyboard => s.conn.attended

/-- The match result a directive command has, its call code compared as it stands (R161). -/
def matchOf (s : State) : DirSource → MatchResult
  | .line c1 c2 => s.matchCall c1 c2
  | .keyboard => .none

/-- A directive of kind `k` reaches its execution with this body. It does not where no source can bring it, where no assembler can
hold it, or where it is FOREIGN and not an S, which goes to DISCARD at its letter (R161) (log entry 7). -/
def directive (s : State) (k : DirKind) (src : DirSource) (body : List Code) : State :=
  let result := s.matchOf src
  if s.sourceLive src && directiveOk src body && (result != .foreign || k == .select) then
    s.execute ⟨src, result, k.letter, body⟩
  else s

/-! ### The completion of a commit (R192) -/

/-- The RESERVED entry of the reply queue given its reply, if it is still there (R175). -/
def fillReserved (s : State) (r : Reply) : State :=
  s.setQueue (s.dir.queue.map fun q => if q.kind = .reserved then s.replyEntry r .none else q)

/-- The completion of a commit: the image read back (R192), and the V answered (R175). -/
def commitDone (s : State) (same : Bool) : State :=
  match s.profile.commit with
  | none => s
  | some c =>
    let s := s.onProfile fun b => { b with commit := none, fault := !same }
    let s := if same then s.onProfile fun b => { b with image := c.written } else s.spoilImage
    let r := if same then Reason.a00.alone else Reason.n14.alone
    if c.fromLine then s.fillReserved r else s.notice (noticeText [chr 'V'] r [])

end State
end Sys2Proof.Machine
end

