-- ==== Sys2Proof/Machine/Directives.lean ====
section
/-! DEFINITION. The commands that are directives, each executed at the CR that ends it (R165), from the line or the keyboard. -/

namespace Sys2Proof.Machine

/-- SELECT (R156, R169). -/
def execSelect (src : DirSource) (body : List Code) (s : State) : Host.Outcome State Fault Refusal :=
  event s fun s => s.directive .select src body

/-- DESELECT (R156, R169). -/
def execDeselect (src : DirSource) (body : List Code) (s : State) : Host.Outcome State Fault Refusal :=
  event s fun s => s.directive .deselect src body

/-- MESSAGE_HEADING (R48, R169). -/
def execMessageHeading (src : DirSource) (body : List Code) (s : State) : Host.Outcome State Fault Refusal :=
  event s fun s => s.directive .heading src body

/-- END_OF_MESSAGE (R50, R169). -/
def execEndOfMessage (src : DirSource) (body : List Code) (s : State) : Host.Outcome State Fault Refusal :=
  event s fun s => s.directive .endMsg src body

/-- PUNCH_CLAIM (R170). -/
def execPunchClaim (src : DirSource) (body : List Code) (s : State) : Host.Outcome State Fault Refusal :=
  event s fun s => s.directive .punch src body

/-- LINE_PRINT_SWITCH (R170). -/
def execLinePrintSwitch (src : DirSource) (body : List Code) (s : State) : Host.Outcome State Fault Refusal :=
  event s fun s => s.directive .printSwitch src body

/-- IDENTIFY (R171). -/
def execIdentify (src : DirSource) (body : List Code) (s : State) : Host.Outcome State Fault Refusal :=
  event s fun s => s.directive .identify src body

/-- STATUS_SNAPSHOT (R171). -/
def execStatusSnapshot (src : DirSource) (body : List Code) (s : State) : Host.Outcome State Fault Refusal :=
  event s fun s => s.directive .status src body

/-- OPEN (R181). -/
def execOpenSource (src : DirSource) (body : List Code) (s : State) : Host.Outcome State Fault Refusal :=
  event s fun s => s.directive .openSrc src body

/-- CLOSE (R179). -/
def execCloseSource (src : DirSource) (body : List Code) (s : State) : Host.Outcome State Fault Refusal :=
  event s fun s => s.directive .closeSrc src body

/-- FREEZE (R184). -/
def execFreeze (src : DirSource) (body : List Code) (s : State) : Host.Outcome State Fault Refusal :=
  event s fun s => s.directive .freeze src body

/-- ACCESS_NUMBER (R183). -/
def execAccessNumber (src : DirSource) (body : List Code) (s : State) : Host.Outcome State Fault Refusal :=
  event s fun s => s.directive .number src body

/-- LIST_DIRECTORY (R172). -/
def execListDirectory (src : DirSource) (body : List Code) (s : State) : Host.Outcome State Fault Refusal :=
  event s fun s => s.directive .list src body

/-- RETRIEVE_ENTRY (R173). -/
def execRetrieveEntry (src : DirSource) (body : List Code) (s : State) : Host.Outcome State Fault Refusal :=
  event s fun s => s.directive .retrieve src body

/-- DELETE_ENTRY (R58, R173). -/
def execDeleteEntry (src : DirSource) (body : List Code) (s : State) : Host.Outcome State Fault Refusal :=
  event s fun s => s.directive .delete src body

/-- ERASE_STORE (R61, R174, R185). -/
def execEraseStore (src : DirSource) (body : List Code) (s : State) : Host.Outcome State Fault Refusal :=
  event s fun s => s.directive .erase src body

/-- SET_PARAMETER (R175). -/
def execSetParameter (src : DirSource) (body : List Code) (s : State) : Host.Outcome State Fault Refusal :=
  event s fun s => s.directive .setPar src body

/-- LOAD_TABLE_ENTRY (R17, R175). -/
def execLoadTableEntry (src : DirSource) (body : List Code) (s : State) : Host.Outcome State Fault Refusal :=
  event s fun s => s.directive .load src body

/-- COMMIT_PROFILE (R175, R192). -/
def execCommitProfile (src : DirSource) (body : List Code) (s : State) : Host.Outcome State Fault Refusal :=
  event s fun s => s.directive .commit src body

/-- STATION_RESET (R176). -/
def execStationReset (src : DirSource) (body : List Code) (s : State) : Host.Outcome State Fault Refusal :=
  event s fun s => s.directive .reset src body

/-- HANG_UP (R176). -/
def execHangUp (src : DirSource) (body : List Code) (s : State) : Host.Outcome State Fault Refusal :=
  event s fun s => s.directive .hangUp src body

/-- CLEAR_STATISTICS (R37, R174). -/
def execClearStatistics (src : DirSource) (body : List Code) (s : State) : Host.Outcome State Fault Refusal :=
  event s fun s => s.directive .clearStats src body

/-- COPY_ENTRY_TO_TAPE (R107, R173). -/
def execCopyEntryToTape (src : DirSource) (body : List Code) (s : State) : Host.Outcome State Fault Refusal :=
  event s fun s => s.directive .copy src body

end Sys2Proof.Machine
end

