-- ==== Sys2Proof/Machine/KeyOps.lean ====
section
/-! DEFINITION. The Keyboard Scanner (Chapter 6): key-downs and their roles, lookup, locks and refusals, the keyboard record's
keys, functions, repetition, key-ups and the scan. -/

namespace Sys2Proof.Machine

/-- What became of a character key-down or repetition (R120): refused with the bell, dropped by the store-input conversion and
so accepted without restarting a timer (R2, R125), or taken. -/
inductive CharResult where
  | refused
  | dropped
  | taken
  deriving DecidableEq, Repr

namespace State

/-! ### The matrix (R116, R117) -/

/-- The cell of a key position. -/
def keyCell (s : State) (k : KeyPos) : KeyCell := s.kb.keys.getD k.toNat ⟨.up, .none⟩

/-- A key position's debounce state and role set. -/
def setKey (s : State) (k : KeyPos) (c : KeyCell) : State := s.onKb fun b => { b with keys := b.keys.set k.toNat c }

/-- A key position's role set (R117). -/
def setRole (s : State) (k : KeyPos) (r : KeyRole) : State := s.setKey k { s.keyCell k with role := r }

/-- The entry a key position has at the shift level in force (R6, R118). -/
def entryNow (s : State) (k : KeyPos) : KeyEntry := s.working.keyEntry s.shiftLevel k

/-! ### Accepted and refused keys -/

/-- An accepted key-down restarts the close timer while a record is COMPOSING (R125). -/
def restartClose (s : State) : State := if s.composing.isSome then s.startCloseTimer else s

/-- A refusal for room: the bell, and the no-room count (R122). -/
def noRoom (s : State) : State := s.bell.onKb fun b => { b with noRoomCount := sat16 b.noRoomCount }

/-- A code offered to the store for the keyboard record (R123, R124); `none` where the store cannot take it. -/
def offerKey (s : State) (c : Code) : Option State :=
  match s.composing with
  | none => s.createKeyboard c
  | some e => s.append e ⟨c, .good⟩

/-- A code handed to the local assembler during directive entry; CR clears the entry flag first (R129). -/
def enterKey (s : State) (c : Code) : State :=
  (if c = 0o015#7 then s.onKb fun b => { b with entryFlag := false } else s).handLocal c

/-- A character key-down or repetition (R120 to R124, R129), with what became of it. During directive entry the close timer is
restarted before the code is handed on, so that a directive it executes changes parameter 23 from the next key-down (R125). -/
def charKey (s : State) (c : Code) : State × CharResult :=
  if s.locked then (s.bell, .refused)
  else if s.kb.entryFlag then (s.restartClose.enterKey c, .taken)
  else match s.working.storeCode c with
    | none => (s, .dropped)
    | some c => match s.offerKey c with
      | none => (s.noRoom, .refused)
      | some s => (s.restartClose, .taken)

/-! ### Functions (R127 to R129) -/

/-- A HERE-IS request (R128): an answerback request while CONNECTED, and a notice of the answerback with CR, LF when it is not empty
(R64, R136). -/
def hereIsRequest (s : State) : State :=
  let s := if s.isConnected then s.answerbackRequest else s
  if s.working.answerback.isEmpty then s else s.notice (List.append s.working.answerback crlf)

/-- The mode toggled (R127). -/
def toggleMode (s : State) : State :=
  s.onKb fun b => { b with mode := match b.mode with | .line => .loc | .loc => .line }

/-- The attended flag set or cleared (R157). -/
def setAttended (s : State) (a : Bool) : State := s.onConn fun c => { c with attended := a }

/-- The effect of UNATTEND (R127): the flag cleared, the record closed, directive entry ended, the local open state closed. -/
def unattendEffect (s : State) : State :=
  (((s.setAttended false).closeComposing.onKb fun b => { b with entryFlag := false }).abortLocalAsm).onAccess fun a =>
    { a with localOpen := .closed }

/-- An accepted LEAD (R129). -/
def leadEffect (s : State) : State := (s.onKb fun b => { b with entryFlag := true }).handLocal 0o033#7

/-- CLEAR FAULT at both mechanisms (R70, R97). -/
def clearFaults (s : State) : State := s.clearPrintFault.clearPunchFault

/-- The effect of a function, 1 to 14 (R127, R128, R129); `none` where its owner refuses it. -/
def functionEffect (s : State) : KeyFn → Option State
  | .lead => some s.leadEffect
  | .hereIs => some s.hereIsRequest
  | .brk => some s.breakRequest
  | .lineLocal => some s.toggleMode.closeComposing
  | .tape => some s.tapeKey
  | .feed => s.feedRequest
  | .newTape => s.newTapeRequest
  | .endFn => some s.closeComposing
  | .attend => some (s.setAttended true)
  | .unattend => some s.unattendEffect
  | .answer => some s.answerRequest
  | .seize => some s.seizeRequest
  | .clearLine => some s.clearRequest
  | .clearFault => some s.clearFaults
  | .repeatFn => some s
  | .shiftFn => some s

end State

/-- A function accepted under every lock reason (R121). -/
def KeyFn.exempt : KeyFn → Bool
  | .attend | .clearFault | .newTape => true
  | .lead | .hereIs | .brk | .lineLocal | .tape | .feed | .endFn | .unattend | .answer | .seize | .clearLine | .repeatFn
  | .shiftFn => false

namespace State

/-- A function key-down of a pair member (R120, R121): refused with the bell under a lock reason or by its owner, else carried out;
an accepted one restarts the close timer. -/
def functionKey (s : State) (f : KeyFn) : State :=
  if s.locked && !f.exempt then s.bell
  else match s.functionEffect f with
    | none => s.bell
    | some s => s.restartClose

/-! ### Repetition (R119) -/

/-- A key is the repeated key from now on, with the timer at 500 ms. -/
def beginRepeat (s : State) (k : KeyPos) : State :=
  s.onKb fun b => { b with repeatKey := some k, repeatTimer := some 500 }

/-- The repeat state becomes idle. -/
def endRepeat (s : State) : State := s.onKb fun b => { b with repeatKey := none, repeatTimer := none }

/-- Whether a pair member's latest key-down or repetition was dispatched as a CHARACTER entry and accepted. -/
def setLive (s : State) (k : KeyPos) (live : Bool) : State :=
  s.onKb fun b => { b with pair := b.pair.map fun m => if m.key = k then { m with live := live } else m }

/-- The most recent pair member that may be repeated. -/
def lastLive (s : State) : Option KeyPos := ((s.kb.pair.filter (·.live)).getLast?).map (·.key)

/-- An accepted REPEAT key-down: repetition of the most recent such member begins, unless a key is being repeated. This holds for a
second REPEAT key with the first still held (log entry 29). -/
def startRepeat (s : State) : State :=
  match s.kb.repeatKey, s.lastLive with
  | none, some k => s.beginRepeat k
  | _, _ => s

/-- An accepted character key-down of a pair member: it may be repeated, and a REPEAT held passes repetition to it. -/
def acceptedChar (s : State) (k : KeyPos) : State :=
  let s := s.setLive k true
  if s.repeatHeld then s.beginRepeat k else s

/-- A repetition that ends repetition of its key. -/
def stopRepeating (s : State) (k : KeyPos) : State := (s.setLive k false).endRepeat

/-- A repetition, at the expiry of the repeat timer. -/
def repetitionEvent (s : State) : State :=
  match s.kb.repeatKey with
  | none => s
  | some k =>
    match s.entryNow k with
    | .character c =>
      match s.charKey c with
      | (s, .refused) => s.stopRepeating k
      | (s, .dropped) => s.onKb fun b => { b with repeatTimer := some 100 }
      | (s, .taken) => s.onKb fun b => { b with repeatTimer := some 100 }
    | .none => s.stopRepeating k
    | .function _ => s.stopRepeating k

/-! ### Key-downs and key-ups -/

/-- A SHIFT modifier's key-down (R118). -/
def shiftDown (s : State) (k : KeyPos) : State :=
  if s.locked then (s.setRole k (.shiftModifier false)).bell else (s.setRole k (.shiftModifier true)).restartClose

/-- A REPEAT modifier's key-down (R119). -/
def repeatDown (s : State) (k : KeyPos) : State :=
  if s.locked then (s.setRole k (.repeatModifier false)).bell
  else ((s.setRole k (.repeatModifier true)).restartClose).startRepeat

/-- A character key-down of a pair member. -/
def charDown (s : State) (k : KeyPos) (c : Code) : State :=
  match s.charKey c with
  | (s, .refused) => s
  | (s, .dropped) => s.acceptedChar k
  | (s, .taken) => s.acceptedChar k

/-- A key joins the pair, or is blocked while it holds two (R117); the key-down of a member is dispatched (R120). -/
def memberDown (s : State) (k : KeyPos) (dispatch : State → State) : State :=
  if s.kb.pair.length < 2 then
    dispatch ((s.setRole k .pairMember).onKb fun b => { b with pair := List.append b.pair [⟨k, false⟩] })
  else (s.setRole k .blocked).onKb fun b => { b with blockedCount := sat16 b.blockedCount }

/-- A recognised key-down (R117, R120). -/
def keyDown (s : State) (k : KeyPos) : State :=
  match s.entryNow k with
  | .none => s.memberDown k id
  | .character c => s.memberDown k (·.charDown k c)
  | .function .shiftFn => s.shiftDown k
  | .function .repeatFn => s.repeatDown k
  | .function f => s.memberDown k (·.functionKey f)

/-- A recognised key-up (R117 to R119): the key has no role, leaves the pair, and ends repetition where it was the repeated key or
the last accepted REPEAT held. -/
def keyUp (s : State) (k : KeyPos) : State :=
  let s := (s.setRole k .none).onKb fun b => { b with pair := b.pair.filter (·.key ≠ k) }
  if s.kb.repeatKey = some k ∨ (s.kb.repeatKey.isSome ∧ s.repeatHeld = false) then s.endRepeat else s

end State

/-! ### The scan (R116) -/

/-- The debounce state of a key after a scan that sees it closed or open. -/
def Debounce.next : Debounce → Bool → Debounce
  | .up, true => .pressing
  | .pressing, true => .down
  | .down, true => .down
  | .releasing, true => .down
  | .up, false => .up
  | .pressing, false => .up
  | .down, false => .releasing
  | .releasing, false => .up

namespace State

/-- A key position's debounce state set. -/
def setDebounce (s : State) (k : KeyPos) (d : Debounce) : State := s.setKey k { s.keyCell k with debounce := d }

/-- One key position examined: its debounce state changes, and a key-down or key-up recognised is taken whole, with what follows it
at once, before the next (R116). -/
def scanKey (closed : BitVec 64) (s : State) (k : Nat) : State :=
  let p : KeyPos := BitVec.ofNat 6 k
  let d := (s.keyCell p).debounce
  let d' := d.next (closed.getLsbD k)
  let s := s.setDebounce p d'
  if d = .pressing ∧ d' = .down then (s.keyDown p).settle
  else if d = .releasing ∧ d' = .up then (s.keyUp p).settle
  else s

/-- A scan: the key positions in ascending order; bit `k` of `closed` is key `k` (R116). -/
def scanEvent (s : State) (closed : BitVec 64) : State := (List.range 64).foldl (scanKey closed) s

/-! ### A recognised key-down as a command of its own -/

/-- A key-down of key `k` can be the next recognised: the key is not held (log entry 10). -/
def keyFree (s : State) (k : KeyPos) : Bool :=
  ((s.keyCell k).debounce == .up || (s.keyCell k).debounce == .pressing) && (s.keyCell k).role == .none

/-- The key-down of a key whose entry at the level in force is a function: recognised, its key is DOWN, and it acts as in a scan. A
key that is held, or whose entry is another, gives no such event (log entry 10). -/
def functionDown (s : State) (k : KeyPos) (f : KeyFn) : State :=
  if s.keyFree k ∧ s.entryNow k = .function f then (s.setDebounce k .down).keyDown k else s

/-- The key-down of a key whose entry at the level in force is a CHARACTER. -/
def characterDown (s : State) (k : KeyPos) : State :=
  match s.entryNow k with
  | .character _ => if s.keyFree k then (s.setDebounce k .down).keyDown k else s
  | .none => s
  | .function _ => s

/-! ### Timers -/

/-- The break lock timer expires (R121). -/
def breakLockExpiry (s : State) : State := s.onKb fun b => { b with breakTimer := none }

/-- The close timer expires (R125). -/
def closeExpiry (s : State) : State := if s.kb.closeTimer.isSome then s.closeComposing else s

end State
end Sys2Proof.Machine
end

