-- ==== Sys2Proof/Machine/Keys.lean ====
section
/-! DEFINITION. The commands of the keyboard: the scan, the key-downs by what their keys are, the repetition, and the keyboard timers. -/

namespace Sys2Proof.Machine

/-- SCAN (R116). -/
def execScan (closed : BitVec 64) (s : State) : Host.Outcome State Fault Refusal := event s fun s => s.scanEvent closed

/-- CHARACTER_KEY_DOWN (R120). -/
def execCharacterKeyDown (k : KeyPos) (s : State) : Host.Outcome State Fault Refusal := event s fun s => s.characterDown k

/-- LEAD (R129). -/
def execLead (k : KeyPos) (s : State) : Host.Outcome State Fault Refusal := event s fun s => s.functionDown k .lead

/-- HERE_IS (R128). -/
def execHereIs (k : KeyPos) (s : State) : Host.Outcome State Fault Refusal := event s fun s => s.functionDown k .hereIs

/-- BREAK (R128, R135). -/
def execBreakKey (k : KeyPos) (s : State) : Host.Outcome State Fault Refusal := event s fun s => s.functionDown k .brk

/-- LINE_LOCAL (R127). -/
def execLineLocal (k : KeyPos) (s : State) : Host.Outcome State Fault Refusal := event s fun s => s.functionDown k .lineLocal

/-- TAPE (R103, R128). -/
def execTape (k : KeyPos) (s : State) : Host.Outcome State Fault Refusal := event s fun s => s.functionDown k .tape

/-- FEED (R114, R128). -/
def execFeed (k : KeyPos) (s : State) : Host.Outcome State Fault Refusal := event s fun s => s.functionDown k .feed

/-- NEW_TAPE (R113, R128). -/
def execNewTape (k : KeyPos) (s : State) : Host.Outcome State Fault Refusal := event s fun s => s.functionDown k .newTape

/-- END (R126, R127). -/
def execEndKey (k : KeyPos) (s : State) : Host.Outcome State Fault Refusal := event s fun s => s.functionDown k .endFn

/-- ATTEND (R127, R157). -/
def execAttend (k : KeyPos) (s : State) : Host.Outcome State Fault Refusal := event s fun s => s.functionDown k .attend

/-- UNATTEND (R127). -/
def execUnattend (k : KeyPos) (s : State) : Host.Outcome State Fault Refusal := event s fun s => s.functionDown k .unattend

/-- ANSWER (R128, R147). -/
def execAnswer (k : KeyPos) (s : State) : Host.Outcome State Fault Refusal := event s fun s => s.functionDown k .answer

/-- SEIZE (R128, R148). -/
def execSeize (k : KeyPos) (s : State) : Host.Outcome State Fault Refusal := event s fun s => s.functionDown k .seize

/-- CLEAR_LINE (R128, R152). -/
def execClearLine (k : KeyPos) (s : State) : Host.Outcome State Fault Refusal := event s fun s => s.functionDown k .clearLine

/-- CLEAR_FAULT (R70, R97, R127). -/
def execClearFault (k : KeyPos) (s : State) : Host.Outcome State Fault Refusal := event s fun s => s.functionDown k .clearFault

/-- REPEAT (R117, R119). -/
def execRepeatKey (k : KeyPos) (s : State) : Host.Outcome State Fault Refusal := event s fun s => s.functionDown k .repeatFn

/-- SHIFT (R117, R118). -/
def execShiftKey (k : KeyPos) (s : State) : Host.Outcome State Fault Refusal := event s fun s => s.functionDown k .shiftFn

/-- REPETITION (R119). -/
def execRepetition (s : State) : Host.Outcome State Fault Refusal := event s State.repetitionEvent

/-- BREAK_LOCK_TIMER_EXPIRY (R121). -/
def execBreakLockTimerExpiry (s : State) : Host.Outcome State Fault Refusal := event s State.breakLockExpiry

/-- CLOSE_TIMER_EXPIRY (R125). -/
def execCloseTimerExpiry (s : State) : Host.Outcome State Fault Refusal := event s State.closeExpiry

end Sys2Proof.Machine
end

