-- ==== Sys2Proof/Machine/RxOps.lean ====
section
/-! DEFINITION. The Line Receiver (Chapter 2): the sample point and the bias estimate, transitions, samples, the false start, the
classification at the stop sample, decode and delivery, break candidates and breaks. -/

namespace Sys2Proof.Machine

/-! ### Arithmetic of the line (R22 to R24) -/

/-- `x / d` rounded to the nearest integer, halves away from zero (R23, R24). -/
def roundAway (x : Int) (d : Nat) : Int := x.sign * (((2 * x.natAbs + d) / (2 * d) : Nat) : Int)

/-- A value held within a range. -/
def clampInt (lo hi x : Int) : Int := max lo (min hi x)

/-- The sample point of a character that starts now (R24). -/
def samplePoint (compensation : Bool) (be : Int) : Nat :=
  if compensation then (32 + clampInt (-12) 12 (roundAway be 32)).toNat else 32

/-- The measurement of a transition at tick `t` (R22). -/
def measure (t : Nat) (spaceGoing : Bool) : Transition :=
  let k := (t + 32) / 64
  let d : Int := (t : Int) - 64 * (k : Int)
  ⟨k, d, spaceGoing, if spaceGoing then d else -d⟩

/-- One transition applied to the bias estimate (R23). -/
def applyBias (be : Int) (e : Int) : Int := clampInt (-512) 511 (be + roundAway (16 * e - be) 8)

/-- The bias estimate after a character's transitions, in order of occurrence (R23). -/
def updateBias (be : Int) (ts : List Transition) : Int := ts.foldl (fun b t => applyBias b t.biasError) be

/-- The peak distortion of a character (R22). -/
def peakDistortion (ts : List Transition) : Nat := ts.foldl (fun p t => max p t.displacement.natAbs) 0

/-- The line code of five data samples: mark at element `k` adds 2 to the power `k - 1` (R1). -/
def lineCode (samples : List LineCond) : Row :=
  BitVec.ofNat 5 (samples.foldr (fun c n => 2 * n + if c = .mark then 1 else 0) 0)

/-- A character's class by its peak distortion when its stop element was mark (R25). -/
def classOf (p margin : Nat) : Quality := if p ≤ margin then .good else .doubtful

/-! ### Line statistics (R36) -/

/-- A counted character of a class, with its peak distortion (R36). -/
def LineStats.count (t : LineStats) (q : Quality) (p : Nat) : LineStats :=
  if t.full then t
  else
    { t with
      characters := t.characters + 1
      doubtful := if q = .doubtful then t.doubtful + 1 else t.doubtful
      mutilated := if q = .mutilated then t.mutilated + 1 else t.mutilated
      peakMax := max t.peakMax p
      peakSum := t.peakSum + p }

/-- A false start counted (R36). -/
def LineStats.countFalseStart (t : LineStats) : LineStats := if t.full then t else { t with falseStarts := sat16 t.falseStarts }

/-- A declared break counted (R36). -/
def LineStats.countBreak (t : LineStats) : LineStats := if t.full then t else { t with breaks := sat16 t.breaks }

/-! ### Which events can occur -/

/-- A false start is due at tick S: the line is at mark there (R20). A transition at tick S is taken first (R21). -/
def RxBlock.falseStartDue (b : RxBlock) (line : LineCond) : Bool :=
  b.samples.isEmpty && decide (b.tick ≤ b.sample) && line == .mark

/-- The tick of the next sample of the character in SAMPLING: S itself where a false start is due there, else 64k + S for the
next element, k = 6 being the stop element (R20, R21). -/
def RxBlock.nextSample (b : RxBlock) (line : LineCond) : Nat :=
  if b.falseStartDue line then b.sample else 64 * (b.samples.length + 1) + b.sample

/-- A change of the line condition at tick `t` can be the next event: in SAMPLING it lies after the latest event and not beyond the
next sample, in CANDIDATE not beyond the limit (log entry 9). In other states no tick is counted. -/
def RxBlock.admits (b : RxBlock) (line : LineCond) (t : Nat) : Bool :=
  match b.state with
  | .sampling => decide (b.tick < t ∧ t ≤ b.nextSample line)
  | .candidate => decide (b.tick < t ∧ t ≤ b.limit)
  | .watching | .hunting | .spacing => true

namespace State

/-! ### Delivery (R29 to R33) -/

/-- A character delivered by one of the three routes (R31 to R33). -/
def deliver (s : State) (c : Code) (q : Quality) : State :=
  if c = 0o005#7 ∧ q ≠ .mutilated then s.answerbackRequest
  else if (c = 0o033#7 ∧ q ≠ .mutilated) ∨ s.dir.lineAsm.state ≠ .idle then s.handLine c q
  else if s.conn.selected then s.offerText c q
  else s

/-- The receive shift state set. -/
def setPlane (s : State) (p : Plane) : State := s.onRx fun b => { b with plane := p }

/-- The decode of a good or doubtful character, with unshift on space after its delivery (R29, R30). Parameter 06 is read at the
decode. -/
def decode (s : State) (c : Row) (q : Quality) : State :=
  match s.working.rxEntry s.rx.plane c with
  | .shiftLetters => s.setPlane .letters
  | .shiftFigures => s.setPlane .figures
  | .ignore => s
  | .character code =>
    if s.working.unshiftOnSpace ∧ code = 0o040#7 then (s.deliver code q).setPlane .letters else s.deliver code q

/-- The receiver back in HUNTING, with no character in progress. -/
def hunt (s : State) : State := s.onRx fun b => { b with state := .hunting, transitions := [], samples := [] }

/-- A received character counted and its notice given (R25, R34, R36). -/
def countReceived (s : State) (q : Quality) (p : Nat) : State :=
  (s.onRx fun b => { b with stats := b.stats.count q p }).noticeTraffic

/-- A mutilated character: counted, and the default substitute delivered in its place (R26, R27). -/
def receiveMutilated (s : State) (p : Nat) : State :=
  let s := (s.hunt).countReceived .mutilated p
  s.deliver s.working.defaultSubstitute .mutilated

/-- A good or doubtful character: counted and decoded (R25). -/
def receiveCharacter (s : State) (c : Row) (p : Nat) : State :=
  let q := classOf p s.working.doubtfulMargin
  ((s.hunt).countReceived q p).decode c q

/-- A break candidate held: its P, and its limit from parameter 04 (R27). -/
def holdCandidate (s : State) (p : Nat) : State :=
  s.onRx fun b =>
    { b with
      state := .candidate
      tick := 384 + b.sample
      peak := p
      limit := 64 * s.working.breakThreshold
      transitions := []
      samples := [] }

/-! ### The receiver's events -/

/-- The start transition of a character (R20). -/
def startCharacter (s : State) : State :=
  s.onRx fun b =>
    { b with
      state := .sampling
      tick := 0
      sample := samplePoint s.working.compensation b.be
      transitions := []
      samples := [] }

/-- A transition measured in SAMPLING (R22). -/
def measured (s : State) (c : LineCond) (t : Nat) : State :=
  s.onRx fun b => { b with tick := t, transitions := List.append b.transitions [measure t (c == .space)] }

/-- A change of the line condition at the receiver, in its state (R20, R22, R27, R28). -/
def receiverChange (s : State) (c : LineCond) (t : Nat) : State :=
  match s.rx.state, c with
  | .watching, _ => s
  | .hunting, .space => s.startCharacter
  | .hunting, .mark => s
  | .sampling, c => s.measured c t
  | .candidate, .mark => s.receiveMutilated s.rx.peak
  | .candidate, .space => s
  | .spacing, .mark => s.hunt
  | .spacing, .space => s

/-- A change of the line condition (R34): reported to the Connection Controller, and acted on by the receiver. A condition that is
no change, or a tick that cannot be the next, is no event (log entry 9). -/
def lineChange (s : State) (c : LineCond) (t : Nat) : State :=
  if c ≠ s.conn.lineCond ∧ s.rx.admits s.conn.lineCond t then (s.conditionChange c).receiverChange c t else s

/-- A false start at tick S (R20). -/
def falseStartEvent (s : State) : State :=
  if s.rx.state = .sampling ∧ s.rx.falseStartDue s.conn.lineCond then
    (s.onRx fun b => { b with stats := b.stats.countFalseStart }).hunt
  else s

/-- A data element sampled at tick 64k + S (R21). -/
def sampleElement (s : State) : State :=
  if s.rx.state = .sampling ∧ s.rx.samples.length < 5 ∧ s.rx.falseStartDue s.conn.lineCond = false then
    s.onRx fun b =>
      { b with
        tick := 64 * (b.samples.length + 1) + b.sample
        samples := List.append b.samples [s.conn.lineCond] }
  else s

/-- The class and the outcome of a character whose transitions have been applied (R25). -/
def classify (s : State) (samples : List LineCond) (p : Nat) : State :=
  if s.conn.lineCond = .mark then s.receiveCharacter (lineCode samples) p
  else if samples.all (· == .space) then s.holdCandidate p
  else s.receiveMutilated p

/-- The stop sample at tick 384 + S (R21, R23, R25). -/
def stopEvent (s : State) : State :=
  if s.rx.state = .sampling ∧ s.rx.samples.length = 5 then
    (s.onRx fun b => { b with be := updateBias b.be b.transitions }).classify s.rx.samples (peakDistortion s.rx.transitions)
  else s

/-- A break declared at tick 64 × B (R28). -/
def declareBreak (s : State) : State :=
  if s.rx.state = .candidate ∧ s.conn.lineCond = .space then
    (s.onRx fun b => { b with state := .spacing, plane := .letters, stats := b.stats.countBreak }).breakEvent
  else s

end State
end Sys2Proof.Machine
end

