-- ==== Sys2Proof/Machine/LineRx.lean ====
section
/-! DEFINITION. The commands of the line receiver: the line condition, samples, the false start, the break and the adoption of a rate. -/

namespace Sys2Proof.Machine

/-- LINE_CONDITION_CHANGE (R34, with R20, R22, R27, R28). Without power only the input is as it stands. -/
def execLineConditionChange (c : LineCond) (t : Nat) (s : State) : Host.Outcome State Fault Refusal :=
  if s.powered then event s fun s => s.lineChange c t else .next (s.onConn fun b => { b with lineCond := c })

/-- FALSE_START (R20). -/
def execFalseStart (s : State) : Host.Outcome State Fault Refusal := event s State.falseStartEvent

/-- DATA_ELEMENT_SAMPLE (R21). -/
def execDataElementSample (s : State) : Host.Outcome State Fault Refusal := event s State.sampleElement

/-- STOP_SAMPLE (R25). -/
def execStopSample (s : State) : Host.Outcome State Fault Refusal := event s State.stopEvent

/-- BREAK_DECLARED (R28). -/
def execBreakDeclared (s : State) : Host.Outcome State Fault Refusal := event s State.declareBreak

/-- RATE_ADOPTION (R18): where one is due; otherwise nothing (log entry 11). -/
def execRateAdoption (s : State) : Host.Outcome State Fault Refusal := event s fun s => s.adoptRate.getD s

end Sys2Proof.Machine
end

