-- ==== Sys2Proof/Machine/LineTx.lean ====
section
/-! DEFINITION. The commands of the line transmitter and the reply queue: the completion of a character and of a break, and the deferred actions. -/

namespace Sys2Proof.Machine

namespace State

/-- The unit in flight completes without its item where it belongs to the reply in progress. -/
def releaseReply : TxFlight → TxFlight
  | .character c rest after .reply => .character c rest after .orphan
  | f => f

/-- The head entry of the reply queue, where it carries the deferred action `a`, leaves the queue, and its action is made (R167, R176)
(log entry 13). -/
def deferredEvent (s : State) (a : Deferred) : State :=
  match s.dir.queue with
  | [] => s
  | h :: _ =>
    if h.deferred = a then
      (s.onTx fun b => { b with reply := none, inFlight := b.inFlight.map releaseReply }).removeHead
    else s

end State

/-- CHARACTER_SENT (R132, R133). -/
def execCharacterSent (s : State) : Host.Outcome State Fault Refusal := event s State.characterComplete

/-- BREAK_SENT (R135). -/
def execBreakSent (s : State) : Host.Outcome State Fault Refusal := event s State.breakComplete

/-- DEFERRED_RESET (R176). -/
def execDeferredReset (s : State) : Host.Outcome State Fault Refusal := event s (State.deferredEvent · .reset)

/-- DEFERRED_CLEAR (R176). -/
def execDeferredClear (s : State) : Host.Outcome State Fault Refusal := event s (State.deferredEvent · .clear)

end Sys2Proof.Machine
end

