-- ==== Sys2Proof/Machine/Mechanisms.lean ====
section
/-! DEFINITION. The commands of the printer, the punch, the motor and the profile memory. -/

namespace Sys2Proof.Machine

namespace State

/-- The run-up timer expires (R187): the motor is RUNNING, and what is ready is issued at once. -/
def runUpExpiry (s : State) : State :=
  if s.motor.runUp.isSome then s.onMotor fun m => { m with state := .running, runUp := none, quiet := false } else s

/-- The idle timer expires (R188): the motor is STOPPED. -/
def idleExpiry (s : State) : State :=
  if s.motor.idle.isSome then s.onMotor fun m => { m with state := .stopped, idle := none, quiet := false } else s

end State

/-- PRINTER_DONE (R68). -/
def execPrinterDone (s : State) : Host.Outcome State Fault Refusal := event s State.operationDone

/-- PRINTER_FAULT_TIMER_EXPIRY (R69). -/
def execPrinterFaultTimerExpiry (s : State) : Host.Outcome State Fault Refusal := event s State.operationFault

/-- PAPER_OUT_CHANGE (R79): the sensors as they now stand (log entry 14). Without power they are only the inputs. -/
def execPaperOutChange (out low : Bool) (s : State) : Host.Outcome State Fault Refusal :=
  if s.powered then event s fun s => s.paperSensors out low
  else .next (s.onPrint fun b => { b with paperOut := out, paperLow := low })

/-- PUNCH_DONE (R96, R111). -/
def execPunchDone (s : State) : Host.Outcome State Fault Refusal := event s State.rowDone

/-- PUNCH_FAULT_TIMER_EXPIRY (R97). -/
def execPunchFaultTimerExpiry (s : State) : Host.Outcome State Fault Refusal := event s State.rowFault

/-- RUN_UP_TIMER_EXPIRY (R187). -/
def execRunUpTimerExpiry (s : State) : Host.Outcome State Fault Refusal := event s State.runUpExpiry

/-- IDLE_TIMER_EXPIRY (R188). -/
def execIdleTimerExpiry (s : State) : Host.Outcome State Fault Refusal := event s State.idleExpiry

/-- COMMIT_COMPLETION (R192, R175). -/
def execCommitCompletion (readBackEqual : Bool) (s : State) : Host.Outcome State Fault Refusal :=
  event s fun s => s.commitDone readBackEqual

end Sys2Proof.Machine
end

