-- ==== Sys2Proof/Machine/Power.lean ====
section
/-! DEFINITION. The commands of power and the RESET input: POWER_ON, HARD_RESET, POWER_REMOVAL. -/

namespace Sys2Proof.Machine

namespace State

/-- The loss of power: a commit that is writing ends with the image partly written (R192), and no block acts from then on. -/
def losePower (s : State) : State := { s.cutCommit with powered := false }

end State

/-- POWER_ON (R191, section 0.7): all state takes its initial value, from the image or the factory defaults. -/
def execPowerOn (s : State) : Host.Outcome State Fault Refusal := .next s.startUp

/-- HARD_RESET (R144, section 0.7): the RESET input acts as power-on. Without power there is nothing to reset. -/
def execHardReset (s : State) : Host.Outcome State Fault Refusal := .next (if s.powered then s.startUp else s)

/-- POWER_REMOVAL (R192). -/
def execPowerRemoval (s : State) : Host.Outcome State Fault Refusal := .next (if s.powered then s.losePower else s)

end Sys2Proof.Machine
end

