-- ==== Sys2Proof/Machine/Dispatch.lean ====
section
/-! DEFINITION. One arm for each command: its meaning. -/

namespace Sys2Proof.Machine

def exec (i : Instr) (s : State) : Host.Outcome State Fault Refusal :=
  match i with
  | .powerOn => Sys2Proof.Machine.execPowerOn s
  | .hardReset => Sys2Proof.Machine.execHardReset s
  | .lineConditionChange c t => Sys2Proof.Machine.execLineConditionChange c t s
  | .falseStart => Sys2Proof.Machine.execFalseStart s
  | .stopSample => Sys2Proof.Machine.execStopSample s
  | .breakDeclared => Sys2Proof.Machine.execBreakDeclared s
  | .rateAdoption => Sys2Proof.Machine.execRateAdoption s
  | .characterSent => Sys2Proof.Machine.execCharacterSent s
  | .breakSent => Sys2Proof.Machine.execBreakSent s
  | .deferredReset => Sys2Proof.Machine.execDeferredReset s
  | .deferredClear => Sys2Proof.Machine.execDeferredClear s
  | .scan closed => Sys2Proof.Machine.execScan closed s
  | .characterKeyDown k => Sys2Proof.Machine.execCharacterKeyDown k s
  | .lead k => Sys2Proof.Machine.execLead k s
  | .hereIs k => Sys2Proof.Machine.execHereIs k s
  | .breakKey k => Sys2Proof.Machine.execBreakKey k s
  | .lineLocal k => Sys2Proof.Machine.execLineLocal k s
  | .tape k => Sys2Proof.Machine.execTape k s
  | .feed k => Sys2Proof.Machine.execFeed k s
  | .newTape k => Sys2Proof.Machine.execNewTape k s
  | .endKey k => Sys2Proof.Machine.execEndKey k s
  | .attend k => Sys2Proof.Machine.execAttend k s
  | .unattend k => Sys2Proof.Machine.execUnattend k s
  | .answer k => Sys2Proof.Machine.execAnswer k s
  | .seize k => Sys2Proof.Machine.execSeize k s
  | .clearLine k => Sys2Proof.Machine.execClearLine k s
  | .clearFault k => Sys2Proof.Machine.execClearFault k s
  | .repeatKey k => Sys2Proof.Machine.execRepeatKey k s
  | .shiftKey k => Sys2Proof.Machine.execShiftKey k s
  | .repetition => Sys2Proof.Machine.execRepetition s
  | .breakLockTimerExpiry => Sys2Proof.Machine.execBreakLockTimerExpiry s
  | .closeTimerExpiry => Sys2Proof.Machine.execCloseTimerExpiry s
  | .select src body => Sys2Proof.Machine.execSelect src body s
  | .deselect src body => Sys2Proof.Machine.execDeselect src body s
  | .messageHeading src body => Sys2Proof.Machine.execMessageHeading src body s
  | .endOfMessage src body => Sys2Proof.Machine.execEndOfMessage src body s
  | .punchClaim src body => Sys2Proof.Machine.execPunchClaim src body s
  | .linePrintSwitch src body => Sys2Proof.Machine.execLinePrintSwitch src body s
  | .identify src body => Sys2Proof.Machine.execIdentify src body s
  | .statusSnapshot src body => Sys2Proof.Machine.execStatusSnapshot src body s
  | .openSource src body => Sys2Proof.Machine.execOpenSource src body s
  | .closeSource src body => Sys2Proof.Machine.execCloseSource src body s
  | .freeze src body => Sys2Proof.Machine.execFreeze src body s
  | .accessNumber src body => Sys2Proof.Machine.execAccessNumber src body s
  | .listDirectory src body => Sys2Proof.Machine.execListDirectory src body s
  | .retrieveEntry src body => Sys2Proof.Machine.execRetrieveEntry src body s
  | .deleteEntry src body => Sys2Proof.Machine.execDeleteEntry src body s
  | .eraseStore src body => Sys2Proof.Machine.execEraseStore src body s
  | .setParameter src body => Sys2Proof.Machine.execSetParameter src body s
  | .loadTableEntry src body => Sys2Proof.Machine.execLoadTableEntry src body s
  | .commitProfile src body => Sys2Proof.Machine.execCommitProfile src body s
  | .stationReset src body => Sys2Proof.Machine.execStationReset src body s
  | .hangUp src body => Sys2Proof.Machine.execHangUp src body s
  | .clearStatistics src body => Sys2Proof.Machine.execClearStatistics src body s
  | .copyEntryToTape src body => Sys2Proof.Machine.execCopyEntryToTape src body s
  | .printerDone => Sys2Proof.Machine.execPrinterDone s
  | .printerFaultTimerExpiry => Sys2Proof.Machine.execPrinterFaultTimerExpiry s
  | .paperOutChange out low => Sys2Proof.Machine.execPaperOutChange out low s
  | .punchDone => Sys2Proof.Machine.execPunchDone s
  | .punchFaultTimerExpiry => Sys2Proof.Machine.execPunchFaultTimerExpiry s
  | .runUpTimerExpiry => Sys2Proof.Machine.execRunUpTimerExpiry s
  | .idleTimerExpiry => Sys2Proof.Machine.execIdleTimerExpiry s
  | .commitCompletion readBackEqual => Sys2Proof.Machine.execCommitCompletion readBackEqual s
  | .callInputChange present => Sys2Proof.Machine.execCallInputChange present s
  | .stableMarkTimerExpiry => Sys2Proof.Machine.execStableMarkTimerExpiry s
  | .answerTimerExpiry => Sys2Proof.Machine.execAnswerTimerExpiry s
  | .callTimerExpiry => Sys2Proof.Machine.execCallTimerExpiry s
  | .sustainedSpaceTimerExpiry => Sys2Proof.Machine.execSustainedSpaceTimerExpiry s
  | .lineIdleTimerExpiry => Sys2Proof.Machine.execLineIdleTimerExpiry s
  | .clearingTimerExpiry => Sys2Proof.Machine.execClearingTimerExpiry s
  | .lineTypeAdoption => Sys2Proof.Machine.execLineTypeAdoption s
  | .dataElementSample => Sys2Proof.Machine.execDataElementSample s
  | .powerRemoval => Sys2Proof.Machine.execPowerRemoval s

end Sys2Proof.Machine
end

