-- ==== Sys2Proof/Safety.lean ====
section
/-! DEFINITION. The terms claims are made in: what a command does before what follows it at once, when a key or a directive can
come, the properties every step keeps, and what a break, a leaving of CONNECTED and a deletion make of the records. -/

namespace Sys2Proof.Machine

/-- Command `c` in state `s` does `t`, and then what follows it at once. -/
def Does (c : Instr) (s t : State) : Prop := exec c s = .next t.settle

/-- Every step from a state with the property answers, if it answers a next state, one that has it. -/
def KeptByStep (P : State → Prop) : Prop := ∀ s t : State, P s → step s = .next t → P t

/-! ### Keys -/

/-- The command that is a function's key-down. -/
def KeyFn.command (k : KeyPos) : KeyFn → Instr
  | .lead => .lead k | .hereIs => .hereIs k | .brk => .breakKey k | .lineLocal => .lineLocal k | .tape => .tape k
  | .feed => .feed k | .newTape => .newTape k | .endFn => .endKey k | .attend => .attend k | .unattend => .unattend k
  | .answer => .answer k | .seize => .seize k | .clearLine => .clearLine k | .clearFault => .clearFault k
  | .repeatFn => .repeatKey k | .shiftFn => .shiftKey k

/-- SHIFT and REPEAT, the functions of modifier keys (R117). -/
def KeyFn.isModifier : KeyFn → Bool
  | .repeatFn | .shiftFn => true
  | .lead | .hereIs | .brk | .lineLocal | .tape | .feed | .newTape | .endFn | .attend | .unattend | .answer | .seize
  | .clearLine | .clearFault => false

/-- Key `k` can go down with the entry `e` at the level in force. -/
abbrev State.Presents (s : State) (k : KeyPos) (e : KeyEntry) : Prop :=
  s.powered = true ∧ s.keyFree k = true ∧ s.entryNow k = e

/-- Key `k` can go down with the entry `e`, and the rollover pair has a place for it. -/
abbrev State.Offers (s : State) (k : KeyPos) (e : KeyEntry) : Prop := s.Presents k e ∧ s.kb.pair.length < 2

/-- Key `k` down with a role. -/
def State.heldAs (s : State) (k : KeyPos) (r : KeyRole) : State :=
  { s with kb := { s.kb with keys := s.kb.keys.set k.toNat ⟨.down, r⟩ } }

/-- Key `k` down as the newest member of the rollover pair. -/
def State.joined (s : State) (k : KeyPos) : State :=
  { s with kb := { s.kb with keys := s.kb.keys.set k.toNat ⟨.down, .pairMember⟩, pair := s.kb.pair ++ [⟨k, false⟩] } }

/-- The keys from position `lo` up to `hi`, `hi` left out, with their debounce states moved by a scan that sees `closed` (R116). -/
def State.keysMoved (s : State) (closed : BitVec 64) (lo hi : Nat) : List KeyCell :=
  s.kb.keys.mapIdx fun j c => if lo ≤ j ∧ j < hi then { c with debounce := c.debounce.next (closed.getLsbD j) } else c

/-- A scan that sees `closed` recognises a key-down or a key-up of the key at position `k` (R116). -/
def State.recognises (s : State) (closed : BitVec 64) (k : Nat) : Bool :=
  match (s.kb.keys.getD k ⟨.up, .none⟩).debounce, closed.getLsbD k with
  | .pressing, true => true
  | .releasing, false => true
  | _, _ => false

/-! ### The punch -/

/-- The punch with a new reel fitted (R113): the counter at the reel length, TAPE OUT left, the rows not issued discarded, and the leader
begun. A record that is owed, and not merely waiting behind a leader, a trailer or FEED rows, is to be punched again from the
start; an abandoned one has no heading to close. During an earlier new reel's leader, what that one owed stays owed (log entry 41). -/
def State.reelFitted (s : State) : PunchBlock :=
  let status : OutStatus := match s.punch.current with
    | none => .none
    | some e => (s.record e).punch.status
  { s.punch with
    tapeSupply := s.working.reelLength
    tapeOut := false
    codes := []
    shiftAfter := none
    newTapeDue := false
    headingDone := s.punch.headingDone && status != .abandoned
    restart :=
      match s.punch.piece with
      | .none | .heading | .cell | .endRows => status == .pending
      | .leader | .reelLeader | .trailer | .feed => s.punch.restart
    piece := .reelLeader
    rows := List.replicate s.working.leaderRows 0#5 }

/-! ### The line -/

/-- A change of the line condition as the Connection Controller takes it while CONNECTED (R150). -/
def State.heard (s : State) (c : LineCond) : State :=
  { s with
    conn :=
      { s.conn with
        lineCond := c, sustainedSpace := if c = .space then some s.working.clearThresholdMs else none } }

/-- The receiver back in HUNTING after a counted character of a class and peak distortion, with the statistics and the bias estimate
as they then stand. -/
def State.received (s : State) (q : Quality) (p : Nat) (be : Int) : State :=
  { s with rx := { s.rx with state := .hunting, transitions := [], samples := [], be := be, stats := s.rx.stats.count q p } }

/-- The connection in CLEARING (R153), given what of it stands from before. -/
def ConnBlock.cleared (c : ConnBlock) : ConnBlock :=
  { c with
    state := .clearing, clearingSpace := true, clearingTimer := some 1000, stableMark := none, answerTimer := none,
    callTimer := none, sustainedSpace := none, lineIdle := none }

/-! ### Directives -/

/-- The command that is a directive. -/
def DirKind.command (src : DirSource) (body : List Code) : DirKind → Instr
  | .select => .select src body | .deselect => .deselect src body | .heading => .messageHeading src body
  | .endMsg => .endOfMessage src body | .punch => .punchClaim src body | .printSwitch => .linePrintSwitch src body
  | .identify => .identify src body | .status => .statusSnapshot src body | .openSrc => .openSource src body
  | .closeSrc => .closeSource src body | .freeze => .freeze src body | .number => .accessNumber src body
  | .list => .listDirectory src body | .retrieve => .retrieveEntry src body | .delete => .deleteEntry src body
  | .erase => .eraseStore src body | .setPar => .setParameter src body | .load => .loadTableEntry src body
  | .commit => .commitProfile src body | .reset => .stationReset src body | .hangUp => .hangUp src body
  | .clearStats => .clearStatistics src body | .copy => .copyEntryToTape src body

/-- A line directive with these call-code characters and this body can come, whoever it is for. -/
abbrev State.LineBrings (s : State) (c1 c2 : Code) (body : List Code) : Prop :=
  s.powered = true ∧ s.isConnected = true ∧ directiveOk (.line c1 c2) body = true

/-- A directive with this body can come from its source: OWN, with a place for its answer in the reply queue, or local. No lock reason but
UNATTENDED stands in its way (log entry 7). -/
abbrev State.Brings (s : State) (src : DirSource) (body : List Code) : Prop :=
  s.powered = true ∧ s.sourceLive src = true ∧ directiveOk src body = true ∧
    (fromLine src = true → s.matchOf src = .own ∧ s.dir.queue.length < 4)

/-- The directive as it is executed. -/
def State.call (s : State) (k : DirKind) (src : DirSource) (body : List Code) : DirCall := ⟨src, s.matchOf src, k.letter, body⟩

/-- The fields of a body have these decimal values (R166). -/
def FieldsAre (body : List Code) (vs : List Nat) : Prop := (readFields body).map (·.map fieldValue) = some vs

/-! ### What every step keeps -/

/-- The store's cells keep their canonical form. -/
def State.CellsCanonical (s : State) : Prop := s.store.cells.wf = true

/-- The open-message stack: precedences 0 to 3, rising strictly toward the top (R47). -/
def State.StackRises (s : State) : Prop :=
  s.store.openStack.Pairwise (fun upper lower => lower.precedence < upper.precedence) ∧
    ∀ t ∈ s.store.openStack, t.precedence ≤ 3

/-- Attempts 0 to 5, and EXPIRED exactly at 5 (R181, R182). -/
def State.AttemptsBounded (s : State) : Prop :=
  s.access.attempts ≤ 5 ∧ (s.access.expired = true ↔ s.access.attempts = 5)

/-- The working copy, the image and a commit's snapshot hold only what their rules allow (R14, R17, R175, R178, R190), and the snapshot
is written so that it passes its check (R189, R192). -/
def State.ProfilesWellFormed (s : State) : Prop :=
  s.profile.working.wf = true ∧ s.profile.image.parts.wf = true ∧
    ∀ c, s.profile.commit = some c → c.written.parts.wf = true ∧ c.written.passes = true

/-- The line statistics (R36), the bias estimate and the sample point (R24), and the measurements they come from (R22). -/
def State.ReceiverBounded (s : State) : Prop :=
  s.rx.stats.doubtful + s.rx.stats.mutilated ≤ s.rx.stats.characters ∧ s.rx.stats.characters ≤ 65535 ∧
    s.rx.stats.peakSum ≤ 32 * s.rx.stats.characters ∧ s.rx.stats.peakMax ≤ 32 ∧
    s.rx.stats.falseStarts ≤ 65535 ∧ s.rx.stats.breaks ≤ 65535 ∧
    -512 ≤ s.rx.be ∧ s.rx.be ≤ 511 ∧ 20 ≤ s.rx.sample ∧ s.rx.sample ≤ 44 ∧ s.rx.peak ≤ 32 ∧
    (∀ t ∈ s.rx.transitions, -32 ≤ t.displacement ∧ t.displacement ≤ 31) ∧ s.rx.samples.length ≤ 5

/-- The carriage column and the page line lie on the form (R71). -/
def State.CarriageOnForm (s : State) : Prop :=
  1 ≤ s.print.column ∧ s.print.column ≤ s.working.lineLength + 1 ∧ 1 ≤ s.print.pageLine ∧
    (0 < s.working.formLength → s.print.pageLine ≤ s.working.formLength) ∧
    (s.working.formLength = 0 → s.print.pageLine = 1)

/-- The connection's timers, LOOP, the clearing space, selection, the receiver and the open states agree with the connection state
(R19, R144 to R155, R179). -/
def State.ConnectionCoherent (s : State) : Prop :=
  (s.conn.clearingSpace = true ↔ s.conn.state = .clearing) ∧
  (s.conn.clearingTimer.isSome = true ↔ s.conn.state = .clearing) ∧
  (s.conn.answerTimer.isSome = true ↔ s.conn.state = .answering) ∧
  (s.conn.callTimer.isSome = true ↔ s.conn.state = .calling) ∧
  (s.conn.state = .answering ∨ s.conn.state = .calling ∨ s.conn.state = .clearing → s.conn.lineType = .switched) ∧
  (s.conn.state = .lost → s.conn.lineType = .permanent) ∧
  (s.conn.loop = true ↔ s.conn.lineType = .switched ∧ s.conn.state ≠ .idle) ∧
  (s.conn.selected = true → s.conn.state = .connected) ∧
  (s.conn.sustainedSpace.isSome = true → s.conn.state = .connected) ∧
  (s.conn.lineIdle.isSome = true → s.conn.state = .connected ∧ s.conn.lineType = .switched) ∧
  (s.conn.stableMark.isSome = true → State.timesMark s.conn = true) ∧
  (s.conn.callAnswerable = true → s.conn.state = .idle ∧ s.conn.lineType = .switched) ∧
  (s.rx.state = .watching ↔ s.conn.state ≠ .connected) ∧
  (s.access.lineOpen ≠ .closed → s.conn.state = .connected) ∧
  (s.access.localOpen ≠ .closed → s.conn.attended = true)

/-! ### The store and those who read it -/

/-- Entry `e` holds a record (R41). -/
def State.InUse (s : State) (e : Nat) : Prop := 1 ≤ e ∧ e ≤ 32 ∧ (s.record e).state ≠ .empty

/-- The directory, the arrival list and the blocks: the arrival list names each in-use entry once (R43), each of the 256 blocks is on
the free-block list or in one block list (R40), a length agrees with its block list and an EMPTY entry has none (R41, R45),
precedences are 0 to 3, and at most one record is COMPOSING (R63). -/
def State.StoreSound (s : State) : Prop :=
  s.store.dir.length = 32 ∧ s.store.arrival.Nodup ∧ (∀ e, e ∈ s.store.arrival ↔ s.InUse e) ∧
  (s.store.free ++ (s.store.dir.map (·.blocks)).flatten).Perm (List.range 256) ∧
  (∀ e, 1 ≤ e → e ≤ 32 →
    (s.record e).blocks.length = ((s.record e).length + 63) / 64 ∧ (s.record e).length ≤ 16383 ∧
    (s.record e).precedence ≤ 3 ∧ ((s.record e).state = .empty → (s.record e).length = 0)) ∧
  (∀ d e, s.InUse d → s.InUse e → (s.record d).state = .composing → (s.record e).state = .composing → d = e)

/-- The open-message stack names distinct records, the one on top RECEIVING and those beneath SUSPENDED, and every record in one of
these states (R47). -/
def State.StackSound (s : State) : Prop :=
  (s.store.openStack.filterMap (·.entry)).Nodup ∧
  (∀ t ∈ s.store.openStack.head?, ∀ e, t.entry = some e → s.InUse e ∧ (s.record e).state = .receiving) ∧
  (∀ t ∈ s.store.openStack.tail, ∀ e, t.entry = some e → s.InUse e ∧ (s.record e).state = .suspended) ∧
  ∀ e, s.InUse e → (s.record e).state = .receiving ∨ (s.record e).state = .suspended →
    e ∈ s.store.openStack.filterMap (·.entry)

/-- The print context stack: at most four contexts, their records in use, marked, and strictly increasing in precedence toward the top,
so that they are distinct (R54, R81); each line-start cursor and each print cursor within its record's length (R45, R81), the
top's below it while a cell of it is printed. -/
def State.ContextsRise (s : State) : Prop :=
  s.print.contexts.length ≤ 4 ∧
  s.print.contexts.Pairwise (fun upper lower => (s.record lower.entry).precedence < (s.record upper.entry).precedence) ∧
  (∀ c ∈ s.print.contexts,
    s.InUse c.entry ∧ (s.record c.entry).print.mark = true ∧ c.lineStart ≤ (s.record c.entry).length) ∧
  (∀ e, 1 ≤ e → e ≤ 32 → (s.record e).print.cursor ≤ (s.record e).length) ∧
  (s.print.kind = .cell → ∀ c ∈ s.print.contexts.head?, (s.record c.entry).print.cursor < (s.record c.entry).length)

/-- What the punch and the send items refer to are entry numbers (R41). -/
def State.ReferencesNumbered (s : State) : Prop :=
  (∀ e ∈ s.punch.current, 1 ≤ e ∧ e ≤ 32) ∧ (∀ e ∈ s.punch.copyList, 1 ≤ e ∧ e ≤ 32) ∧
  (∀ t ∈ s.tx.retrieval, ∀ e ∈ t.entry, 1 ≤ e ∧ e ≤ 32) ∧ (∀ e ∈ s.tx.keyboardText, 1 ≤ e ∧ e ≤ 32) ∧
  ∀ c rest after e,
    s.tx.inFlight = some (.character c rest after (.retrievalCell e)) ∨
      s.tx.inFlight = some (.character c rest after (.keyboardCell e)) → 1 ≤ e ∧ e ≤ 32

/-- The store with its stack and the print contexts. -/
def State.StoreAndPrinterSound (s : State) : Prop :=
  s.ProfilesWellFormed ∧ s.StackRises ∧ s.StoreSound ∧ s.StackSound ∧ s.ContextsRise ∧ s.ReferencesNumbered

/-- The claim table and the copy list: at most one holder, counts 0 to 15, and 0 exactly when IDLE or DRAINING (R101); the COPY count
is the length of the copy list, whose members are distinct, at most 8, marked, and owed to COPY (R105); a trailer in progress has
a DRAINING holder (R104). -/
def State.ClaimsSound (s : State) : Prop :=
  (∀ x y, (s.punch.claim x).holds = true → (s.punch.claim y).holds = true → x = y) ∧
  (∀ x, (s.punch.claim x).count ≤ 15 ∧
    ((s.punch.claim x).count = 0 ↔ (s.punch.claim x).state = .idle ∨ (s.punch.claim x).state = .draining)) ∧
  s.punch.copyList.Nodup ∧ s.punch.copyList.length ≤ 8 ∧ s.punch.copyClaim.count = s.punch.copyList.length ∧
  (∀ e ∈ s.punch.copyList,
    s.InUse e ∧ (s.record e).punch.status = .pending ∧ (s.record e).punchSource = .copy ∧ (s.record e).punch.mark = true) ∧
  (s.punch.piece = .trailer → ∃ x, (s.punch.claim x).state = .draining)

/-- The punch and send cursors within their records' lengths (R45), below them while a cell is punched or sent; the records that the
punch and the send items refer to in use and marked (R54), no record referred to by both send items; at most 64 cells unsent of a
COMPOSING record whose send is PENDING (R124). -/
def State.ReadersSound (s : State) : Prop :=
  (∀ e, 1 ≤ e → e ≤ 32 →
    (s.record e).punch.cursor ≤ (s.record e).length ∧ (s.record e).send.cursor ≤ (s.record e).length) ∧
  (∀ e ∈ s.punch.current, s.InUse e ∧ (s.record e).punch.mark = true ∧
    (s.punch.piece = .cell → (s.record e).punch.cursor < (s.record e).length)) ∧
  (∀ t ∈ s.tx.retrieval, ∀ e ∈ t.entry,
    s.InUse e ∧ (s.record e).send.mark = true ∧ s.tx.keyboardText ≠ some e) ∧
  (∀ e ∈ s.tx.keyboardText, s.InUse e ∧ (s.record e).send.mark = true ∧
    ((s.record e).send.status = .pending ∨ (s.record e).deletePending = true)) ∧
  (∀ c rest after e, s.tx.inFlight = some (.character c rest after (.retrievalCell e)) →
    (∃ t, s.tx.retrieval = some t ∧ t.entry = some e) ∧ (s.record e).send.cursor < (s.record e).length) ∧
  (∀ c rest after e, s.tx.inFlight = some (.character c rest after (.keyboardCell e)) →
    s.tx.keyboardText = some e ∧ (s.record e).send.cursor < (s.record e).length) ∧
  ∀ e, 1 ≤ e → e ≤ 32 → (s.record e).state = .composing → (s.record e).send.status = .pending →
    (s.record e).length ≤ (s.record e).send.cursor + 64

/-! ### Records under a break, a leaving of CONNECTED, and a deletion -/

/-- A record once the store has examined it (R83, R57): DONE where nothing is left to print and it is in no context, and freed where
it is closed, owed to nobody, not retained and not marked. -/
def Record.examined (r : Record) : Record :=
  let printed : Prop :=
    r.state.isClosed = true ∧ r.print.status = .pending ∧ r.print.mark = false ∧ r.print.cursor = r.length
  let r' : Record := if printed then { r with print := { r.print with status := .done } } else r
  if r'.state.isClosed = true ∧ r'.print.status ≠ .pending ∧ r'.punch.status ≠ .pending ∧ r'.send.status ≠ .pending ∧
      r'.retained = false ∧ r'.print.mark = false ∧ r'.punch.mark = false ∧ r'.send.mark = false then .empty
  else r'

/-- A closed record of entry `e` as its deletion leaves it before the store examines it (R58): delete pending, not retained, each
PENDING output ABANDONED; a context beneath the top is removed and a copy-list entry leaves its list at once, and its mark is cleared
unless it is the punch's current record (R93, R107). -/
def State.deletedAs (s : State) (e : Nat) (r : Record) : Record :=
  let abandoned (st : OutStatus) : OutStatus := if st = .pending then .abandoned else st
  let beneath : Prop := e ∈ (s.print.contexts.drop 1).map (·.entry)
  let listed : Prop := e ∈ s.punch.copyList ∧ s.punch.current ≠ some e
  { r with
    deletePending := true, retained := false
    print := ⟨abandoned r.print.status, r.print.cursor, r.print.mark && !decide beneath⟩
    punch := ⟨abandoned r.punch.status, r.punch.cursor, r.punch.mark && !decide listed⟩
    send := ⟨abandoned r.send.status, r.send.cursor, r.send.mark⟩ }

/-- The retrieval or the keyboard-text item refers to entry `e`. -/
def State.isSent (s : State) (e : Nat) : Bool := s.tx.retrieval.bind (·.entry) == some e || s.tx.keyboardText == some e

/-- The send output of entry `e` when its items are discarded (R141, R142): a retrieval's or a keyboard record's PENDING one is
ABANDONED, and the items' marks are cleared. -/
def State.sendDropped (s : State) (e : Nat) : Output :=
  let r := s.record e
  ⟨if r.send.status = .pending ∧ (s.isSent e = true ∨ r.origin = .keyboard) then .abandoned else r.send.status,
    r.send.cursor, r.send.mark && !s.isSent e⟩

/-- The transmitter when its items are discarded (R141): what is in flight completes, belonging to no item. -/
def TxBlock.itemsDropped (b : TxBlock) : TxBlock :=
  { b with
    inFlight := b.inFlight.map fun f => match f with
      | .character c rest after _ => .character c rest after .orphan
      | .brk n => .brk n
    answerback := .none, reply := none, retrieval := none, keyboardText := none }

/-- From `s` to `v` nothing of the store changes but the stack, the directory, the arrival list and the free-block list; and in a
sound store each in-use record becomes what `after` gives, examined where it changed or was a send item's, with the freed ones gone
from the arrival list. -/
def State.RecordsBecome (s v : State) (stack : List StackEntry) (after : Nat → Record) : Prop :=
  v.store = { s.store with free := v.store.free, dir := v.store.dir, arrival := v.store.arrival, openStack := stack } ∧
  (s.StoreAndPrinterSound →
    (∀ e, s.InUse e →
      v.record e = if after e = s.record e ∧ s.isSent e = false then s.record e else (after e).examined) ∧
    (∀ e, 1 ≤ e → e ≤ 32 → (s.record e).state = .empty → (v.record e).state = .empty) ∧
    v.store.arrival = s.store.arrival.filter fun e => (v.record e).state != .empty)

/-- A declared break as every block takes it (R28, R121, R126, R141), before the actions that were deferred behind the replies. -/
def State.BreakTaken (s v : State) : Prop :=
  v =
    { s with
      rx := { s.rx with state := .spacing, plane := .letters, stats := s.rx.stats.countBreak }
      kb := { s.kb with breakTimer := some 1000, closeTimer := none }
      tx := s.tx.itemsDropped
      dir := { s.dir with queue := [] }
      store := v.store } ∧
  s.RecordsBecome v s.store.openStack fun e =>
    { s.record e with
      state := if (s.record e).state = .composing then .complete else (s.record e).state
      send := s.sendDropped e }

/-- A leaving of CONNECTED for `target` as every block takes it (R155): the receiver, the stack with its records CUT, or COMPLETE where
implicit, the line assembler and the reply queue, the line open state, the sends, the COMPOSING record and the LINE claim, before a
station reset that was deferred behind a reply. -/
def State.LineLeft (s : State) (target : ConnState) (v : State) : Prop :=
  v =
    { s with
      conn := { s.conn with state := target, selected := false, sustainedSpace := none, lineIdle := none }
      rx := { s.rx with state := .watching, transitions := [], samples := [] }
      kb := { s.kb with closeTimer := none }
      tx := { s.tx.itemsDropped with breakPending := false }
      dir := { s.dir with lineAsm := ⟨.idle, .none, []⟩, queue := [] }
      access := { s.access with lineOpen := .closed }
      punch :=
        { s.punch with
          lineClaim := match s.punch.lineClaim.state with
            | .holding => ⟨.draining, 0⟩
            | .waiting => ⟨.idle, 0⟩
            | .idle => s.punch.lineClaim
            | .draining => s.punch.lineClaim }
      store := v.store } ∧
  s.RecordsBecome v [] fun e =>
    let r := s.record e
    let abandoned : Prop := s.punch.lineClaim.state = .waiting ∧ r.punch.status = .pending ∧ r.punchSource = .line
    { r with
      state :=
        if r.state.isOpen = true then (if r.state = .composing ∨ r.implicit = true then .complete else .cut) else r.state
      punch := if abandoned then { r.punch with status := .abandoned } else r.punch
      send := s.sendDropped e }

/-- Some entry of the reply queue carries a deferred action (R167). -/
def State.defers (s : State) (a : Deferred) : Bool := s.dir.queue.any fun q => q.deferred == a

end Sys2Proof.Machine
end

