-- ==== Sys2Proof/Certificates/Slice0/Obligations.lean ====
section
/-! DEFINITION. The statements for the provers. `Does c s t` says that command `c` in state `s` answers the next state `t`
followed by what the blocks do at once (`State.settle`); where `t` is written out, everything it does not name is unchanged by the
command itself, and `WhatFollowsLeavesAlone` says what the rest leaves alone. -/

open Sys2Proof Sys2Proof.Machine

/-! ### The whole machine -/

/-- The command at the front of the queue is executed on the state with the queue's rest; an empty queue idles (section 0.5; the
idling is the model's, log entry 1). -/
def Obligations.StepRunsTheFrontCommand : Prop :=
  (∀ (c : Instr) (s : State) (rest : List Instr), s.pending = c :: rest → step s = exec c { s with pending := rest }) ∧
    ∀ s : State, s.pending = [] → step s = .next s

/-- No command stops the part, and none changes the queue of waiting commands (section 0.5; the queue is the model's). -/
def Obligations.EveryCommandAnswersAndKeepsTheQueue : Prop :=
  ∀ (c : Instr) (s : State), ∃ t, exec c s = .next t ∧ t.pending = s.pending

/-- What the blocks do of themselves after an event leaves these alone, whatever else they do. -/
def Obligations.WhatFollowsLeavesAlone : Prop :=
  ∀ s : State,
    s.settle.powered = s.powered ∧ s.settle.pending = s.pending ∧ s.settle.spoilt = s.spoilt ∧
    s.settle.conn.lineCond = s.conn.lineCond ∧ s.settle.conn.callInput = s.conn.callInput ∧
    s.settle.conn.attended = s.conn.attended ∧
    s.settle.rx.plane = s.rx.plane ∧ s.settle.rx.stats = s.rx.stats ∧ s.settle.rx.tick = s.rx.tick ∧
    s.settle.rx.sample = s.rx.sample ∧
    s.settle.kb.keys = s.kb.keys ∧ s.settle.kb.pair = s.kb.pair ∧ s.settle.kb.mode = s.kb.mode ∧
    s.settle.kb.repeatKey = s.kb.repeatKey ∧ s.settle.kb.repeatTimer = s.kb.repeatTimer ∧
    s.settle.kb.breakTimer = s.kb.breakTimer ∧ s.settle.kb.blockedCount = s.kb.blockedCount ∧
    s.settle.kb.noRoomCount = s.kb.noRoomCount ∧ s.settle.kb.bellPulses = s.kb.bellPulses ∧
    s.settle.access.attempts = s.access.attempts ∧ s.settle.access.expired = s.access.expired ∧
    s.settle.access.frozen = s.access.frozen ∧
    s.settle.profile.image = s.profile.image ∧ s.settle.profile.commit = s.profile.commit ∧
    s.settle.dir.overlongCount = s.dir.overlongCount ∧ s.settle.dir.malformedCount = s.dir.malformedCount ∧
    s.settle.dir.overrunCount = s.dir.overrunCount ∧
    s.settle.print.paperOut = s.print.paperOut ∧ s.settle.print.paperLow = s.print.paperLow

/-- Without power every command but POWER_ON changes nothing but the input it carries (the power flag is the model's, log entry 4). -/
def Obligations.WithoutPowerOnlyInputsMove : Prop :=
  ∀ s : State, s.powered = false →
    (∀ c t, exec (.lineConditionChange c t) s = .next { s with conn := { s.conn with lineCond := c } }) ∧
    (∀ p, exec (.callInputChange p) s = .next { s with conn := { s.conn with callInput := p } }) ∧
    (∀ o l, exec (.paperOutChange o l) s = .next { s with print := { s.print with paperOut := o, paperLow := l } }) ∧
    ∀ c : Instr, c ≠ .powerOn → (∀ d t, c ≠ .lineConditionChange d t) → (∀ p, c ≠ .callInputChange p) →
      (∀ o l, c ≠ .paperOutChange o l) → exec c s = .next s

/-- POWER_ON always, and HARD_RESET with power, give every block its initial value, from the image or from the factory defaults, and
keep the inputs and the waiting commands (sections 0.7, 2.14, 3.7, 4.9, 5.7, 6.7, 7.9, 8.11, 9.11, 10.8, 11.4). That POWER_ON does so on a
part with power, and HARD_RESET only with power, is the model's (log entries 16 and 4). -/
def Obligations.StartUpGivesInitialValues : Prop :=
  ∀ (c : Instr) (s : State), (c = .powerOn ∨ (c = .hardReset ∧ s.powered = true)) → ∃ t, exec c s = .next t ∧
    t.powered = true ∧ t.pending = s.pending ∧
    (s.profile.commit = none → t.profile.image = s.profile.image) ∧
    (t.profile.image.passes = true → t.working = t.profile.image.parts ∧ t.profile.fault = false) ∧
    (t.profile.image.passes = false → t.working = .factory ∧ t.profile.fault = true) ∧ t.profile.commit = none ∧
    t.rx.state = .watching ∧ t.rx.rate = t.working.rateIndex ∧ t.rx.be = 0 ∧ t.rx.plane = .letters ∧ t.rx.stats = .zero ∧
    t.store.cells = [] ∧ t.store.free = List.range 256 ∧ t.store.dir = List.replicate 32 .empty ∧ t.store.arrival = [] ∧
    t.store.openStack = [] ∧ t.store.linePrint = true ∧ t.store.localSerial = 1 ∧
    t.store.overflowCount = 0 ∧ t.store.lostMessageCount = 0 ∧ t.store.lostNoticeCount = 0 ∧ t.store.strayEndCount = 0 ∧
    t.print.column = 1 ∧ t.print.pageLine = 1 ∧ t.print.bellFlag = false ∧ t.print.contexts = [] ∧
    t.print.service = .idle ∧ t.print.inFlight = none ∧ t.print.failedOp = none ∧ t.print.faultTimer = none ∧
    t.print.paperOut = s.print.paperOut ∧ t.print.paperLow = s.print.paperLow ∧
    t.punch.lineClaim = ⟨.idle, 0⟩ ∧ t.punch.keyboardClaim = ⟨.idle, 0⟩ ∧ t.punch.copyClaim = ⟨.idle, 0⟩ ∧
    t.punch.copyList = [] ∧ t.punch.service = .idle ∧ t.punch.inFlight = none ∧ t.punch.piece = .none ∧
    t.punch.current = none ∧ t.punch.leaderOwed = false ∧ t.punch.failedRow = none ∧ t.punch.faultTimer = none ∧
    t.punch.shift = .unknown ∧
    t.punch.tapeSupply = t.working.reelLength ∧ t.punch.feedRows = 0 ∧ t.punch.skipCount = 0 ∧
    t.kb.keys = List.replicate 64 ⟨.up, .none⟩ ∧ t.kb.pair = [] ∧ t.shiftLevel = 0 ∧ t.kb.repeatKey = none ∧
    t.kb.repeatTimer = none ∧ t.kb.mode = .line ∧ t.unattendedLock = true ∧ t.sendLagLock = false ∧ t.breakLock = false ∧
    t.kb.entryFlag = false ∧ t.kb.closeTimer = none ∧ t.kb.blockedCount = 0 ∧ t.kb.noRoomCount = 0 ∧
    t.tx = ⟨.unknown, none, false, .none, none, none, none, 0, 0⟩ ∧
    t.conn.state = .idle ∧ t.conn.lineType = (if t.working.lineTypeParam = 1 then .permanent else .switched) ∧
    t.conn.loop = false ∧ t.conn.clearingSpace = false ∧ t.conn.selected = false ∧ t.conn.attended = false ∧
    t.conn.lineCond = s.conn.lineCond ∧ t.conn.callInput = s.conn.callInput ∧
    t.conn.stableMark = (if t.conn.lineType = .permanent ∧ t.conn.lineCond = .mark then some 1000 else none) ∧
    t.conn.answerTimer = none ∧ t.conn.callTimer = none ∧ t.conn.sustainedSpace = none ∧ t.conn.lineIdle = none ∧
    t.conn.clearingTimer = none ∧ t.conn.callAnswerable = false ∧
    t.dir = ⟨⟨.idle, .none, []⟩, ⟨.idle, .none, []⟩, [], 0, 0, 0⟩ ∧
    t.access = ⟨0, false, false, .closed, .closed⟩ ∧
    t.motor.state = .stopped ∧ t.motor.runUp = none ∧ t.motor.idle = none

/-- POWER_REMOVAL: with no commit writing, only the power goes; a commit that is writing ends with an image of which nothing is said
(R192; the image is a free value, log entry 5), and nothing else changes. That all the
other state of a part without power stands is the model's choice (log entry 4). -/
def Obligations.PowerRemovalCutsTheCommit : Prop :=
  ∀ s : State, s.powered = true →
    (s.profile.commit = none → exec .powerRemoval s = .next { s with powered := false }) ∧
    ∀ c, s.profile.commit = some c → ∃ image spoilt,
      exec .powerRemoval s =
        .next { s with powered := false, spoilt := spoilt, profile := { s.profile with image := image, commit := none } }

/-- EXPIRED and FROZEN, once set, are cleared only by a start-up (section 10.4); the attended flag changes only at its key-downs or a
start-up (section 8.9); the image changes only at the end of a commit, the loss of power or a start-up (sections 11.4, 11.5). -/
def Obligations.WhatOnlyItsOwnCommandsChange : Prop :=
  ∀ (c : Instr) (s t : State), exec c s = .next t → c ≠ .powerOn → c ≠ .hardReset →
    (s.access.expired = true → t.access.expired = true) ∧ (s.access.frozen = true → t.access.frozen = true) ∧
    ((∀ k, c ≠ .attend k) → (∀ k, c ≠ .unattend k) → (∀ m, c ≠ .scan m) → t.conn.attended = s.conn.attended) ∧
    ((∀ b, c ≠ .commitCompletion b) → c ≠ .powerRemoval → t.profile.image = s.profile.image)

/-! ### What every step keeps -/

/-- Every step keeps the store's cells in their canonical form. -/
def Obligations.StepsKeepTheCellsCanonical : Prop := KeptByStep State.CellsCanonical

/-- Every step keeps the open-message stack rising (section 3.3). -/
def Obligations.StepsKeepTheStackRising : Prop := KeptByStep State.StackRises

/-- Every step keeps the attempts counter within 5, with EXPIRED set exactly at 5 (section 10.4). -/
def Obligations.StepsKeepTheAttemptsBounded : Prop := KeptByStep State.AttemptsBounded

/-- Every step keeps the working copy, the image and a commit's snapshot well formed, and the snapshot written so that it passes its check
(sections 1.5, 10.1, 11.2, 11.3, 11.5). For a spoilt image this is the model's choice (log entry 5). -/
def Obligations.StepsKeepTheProfilesWellFormed : Prop := KeptByStep State.ProfilesWellFormed

/-- Every step keeps the statistics, the bias estimate, the sample point and the measurements in their ranges (sections 2.4, 2.5,
2.12). -/
def Obligations.StepsKeepTheReceiverBounded : Prop := KeptByStep State.ReceiverBounded

/-- Every step keeps the carriage column and the page line on the form (section 4.2). -/
def Obligations.StepsKeepTheCarriageOnTheForm : Prop := KeptByStep State.CarriageOnForm

/-- Every step keeps the connection coherent (Chapter 8). -/
def Obligations.StepsKeepTheConnectionCoherent : Prop := KeptByStep State.ConnectionCoherent

/-- The state right after reset has every property that steps keep. Where the manual gives no value that state is the model's: the image
fails its check (log entry 2), the inputs (log entry 3), the sample point 32 (log entry 20). -/
def Obligations.ResetHasWhatStepsKeep : Prop :=
  State.reset.CellsCanonical ∧ State.reset.StackRises ∧ State.reset.AttemptsBounded ∧ State.reset.ProfilesWellFormed ∧
    State.reset.ReceiverBounded ∧ State.reset.CarriageOnForm ∧ State.reset.ConnectionCoherent ∧
    State.reset.StoreAndPrinterSound ∧ State.reset.ClaimsSound ∧ State.reset.ReadersSound

/-! ### The line receiver -/

/-- The sample point and the bias estimate (section 2.5): S is 32 without compensation, and with it 32 and half the bias in ticks,
rounded with halves away from zero and clipped to 12 either way; the estimate stays within −512 to +511 whatever is applied. -/
def Obligations.SamplePointAndBiasEstimate : Prop :=
  (∀ be : Int, samplePoint false be = 32) ∧
  (∀ n : Nat, samplePoint true n = 32 + min 12 ((n + 16) / 32)) ∧
  (∀ n : Nat, samplePoint true (-(n : Int)) = 32 - min 12 ((n + 16) / 32)) ∧
  (∀ be e : Int, -512 ≤ applyBias be e ∧ applyBias be e ≤ 511) ∧
  (∀ be e : Int, 0 ≤ 16 * e - be → applyBias be e = max (-512) (min 511 (be + (16 * e - be + 4) / 8))) ∧
  (∀ be e : Int, 16 * e - be < 0 → applyBias be e = max (-512) (min 511 (be - (be - 16 * e + 4) / 8)))

/-- A space-going transition in HUNTING starts a character at tick 0, with its sample point latched, and the sustained space timer; a
transition in SAMPLING, up to the next sample, is measured against the nearest boundary (sections 2.3, 2.4, 8.4). -/
def Obligations.TransitionsStartAndShapeCharacters : Prop :=
   (∀ (s : State) (t : Nat), s.powered = true → s.conn.state = .connected → s.conn.lineCond = .mark → s.rx.state = .hunting →
      Does (.lineConditionChange .space t) s
        { s.heard .space with
          rx :=
            { s.rx with
              state := .sampling, tick := 0, sample := samplePoint s.working.compensation s.rx.be, transitions := [],
              samples := [] } }) ∧
   (∀ (s : State) (c : LineCond) (t : Nat), s.powered = true → s.conn.state = .connected → s.rx.state = .sampling →
      c ≠ s.conn.lineCond → s.rx.tick < t → t ≤ s.rx.nextSample s.conn.lineCond →
      let d : Int := (t : Int) - 64 * (((t + 32) / 64 : Nat) : Int)
      (-32 ≤ d ∧ d ≤ 31) ∧
      Does (.lineConditionChange c t) s
        { s.heard c with
          rx :=
            { s.rx with
              tick := t
              transitions := s.rx.transitions ++ [⟨(t + 32) / 64, d, c == .space, if c = .space then d else -d⟩] } })

/-- At tick S mark is a false start, counted unless the statistics are full; past it each data element is sampled at 64k + S (section
2.3). -/
def Obligations.FalseStartsAndDataElements : Prop :=
  (∀ s : State, s.powered = true → s.rx.state = .sampling → s.rx.samples = [] → s.rx.tick ≤ s.rx.sample →
    s.conn.lineCond = .mark →
    Does .falseStart s
      { s with
        rx :=
          { s.rx with
            state := .hunting, transitions := [], samples := []
            stats :=
              if s.rx.stats.characters = 65535 then s.rx.stats
              else { s.rx.stats with falseStarts := sat16 s.rx.stats.falseStarts } } }) ∧
  (∀ s : State, s.powered = true → s.rx.state = .sampling → s.rx.samples.length < 5 →
    s.rx.falseStartDue s.conn.lineCond = false →
    Does .dataElementSample s
      { s with
        rx :=
          { s.rx with
            tick := 64 * (s.rx.samples.length + 1) + s.rx.sample, samples := s.rx.samples ++ [s.conn.lineCond] } }) ∧
  (∀ e1 e2 e3 e4 e5 : LineCond,
    (lineCode [e1, e2, e3, e4, e5]).toNat =
      (if e1 = .mark then 1 else 0) + (if e2 = .mark then 2 else 0) + (if e3 = .mark then 4 else 0) +
        (if e4 = .mark then 8 else 0) + (if e5 = .mark then 16 else 0))

/-- The stop sample applies the transitions to the bias estimate and classifies the character: good, doubtful, mutilated, or a break
candidate (sections 2.5, 2.7). The peak distortion is the greatest |d| of its transitions, 0 without any; the estimate takes the
transitions in order of occurrence (sections 2.4, 2.5). -/
def Obligations.StopSampleClassifies : Prop :=
  (∀ s : State, s.powered = true → s.rx.state = .sampling → s.rx.samples.length = 5 →
       let p := peakDistortion s.rx.transitions
       let be := updateBias s.rx.be s.rx.transitions
       (s.conn.lineCond = .mark → p ≤ s.working.doubtfulMargin →
         Does .stopSample s (((s.received .good p be).noticeTraffic).decode (lineCode s.rx.samples) .good)) ∧
       (s.conn.lineCond = .mark → s.working.doubtfulMargin < p →
         Does .stopSample s (((s.received .doubtful p be).noticeTraffic).decode (lineCode s.rx.samples) .doubtful)) ∧
       (s.conn.lineCond = .space → .mark ∈ s.rx.samples →
         Does .stopSample s (((s.received .mutilated p be).noticeTraffic).deliver s.working.defaultSubstitute .mutilated)) ∧
       (s.conn.lineCond = .space → .mark ∉ s.rx.samples →
         Does .stopSample s
           { s with
             rx :=
               { s.rx with
                 state := .candidate, tick := 384 + s.rx.sample, peak := p, limit := 64 * s.working.breakThreshold, be := be,
                 transitions := [], samples := [] } })) ∧
  (∀ ts : List Transition, (∀ t ∈ ts, t.displacement.natAbs ≤ peakDistortion ts) ∧
    (ts = [] → peakDistortion ts = 0) ∧ (ts ≠ [] → ∃ t ∈ ts, t.displacement.natAbs = peakDistortion ts)) ∧
  ∀ (be : Int) (ts : List Transition) (t : Transition),
    updateBias be [] = be ∧ updateBias be (ts ++ [t]) = applyBias (updateBias be ts) t.biasError

/-- The decode of a good or doubtful character by its receive map entry, with unshift on space after the delivery; and the routes of a
delivered character other than WRU: LEAD, and everything while a directive is being assembled, to the line assembler; the rest to the store
while selected, and nowhere while not. A mutilated one is never WRU or LEAD (section 2.8). -/
def Obligations.DecodeAndDelivery : Prop :=
   (∀ (s : State) (c : Row) (q : Quality),
      (s.working.rxEntry s.rx.plane c = .shiftLetters → s.decode c q = { s with rx := { s.rx with plane := .letters } }) ∧
      (s.working.rxEntry s.rx.plane c = .shiftFigures → s.decode c q = { s with rx := { s.rx with plane := .figures } }) ∧
      (s.working.rxEntry s.rx.plane c = .ignore → s.decode c q = s) ∧
      ∀ x, s.working.rxEntry s.rx.plane c = .character x →
        s.decode c q =
          if s.working.unshiftOnSpace = true ∧ x = 0o040#7 then
            { s.deliver x q with rx := { (s.deliver x q).rx with plane := .letters } }
          else s.deliver x q) ∧
   (∀ (s : State) (c : Code) (q : Quality), (c ≠ 0o005#7 ∨ q = .mutilated) →
      (c = 0o033#7 → q ≠ .mutilated → (s.deliver c q).dir.lineAsm = ⟨.call, .none, []⟩ ∧ (s.deliver c q).store = s.store) ∧
      (s.dir.lineAsm.state ≠ .idle → s.deliver c q = s.handLine c q) ∧
      ((c ≠ 0o033#7 ∨ q = .mutilated) → s.dir.lineAsm.state = .idle → s.conn.selected = true →
        s.deliver c q =
          if q = .mutilated then s.lineText ⟨c, q⟩
          else match s.working.storeCode c with
            | none => s
            | some d => s.lineText ⟨d, q⟩) ∧
      ((c ≠ 0o033#7 ∨ q = .mutilated) → s.dir.lineAsm.state = .idle → s.conn.selected = false → s.deliver c q = s))

/-- A delivered 005 that is not mutilated goes to the Line Transmitter as an answerback request, GOOD or DOUBTFUL, selected or not, assembling
or not; neither the line assembler nor the store has it (section 2.8). The request makes a NONE answerback PENDING while CONNECTED, is taken
without effect outside it, and is ignored and counted while one is PENDING or SENDING (section 7.4). -/
def Obligations.WruGoesToTheTransmitter : Prop :=
  ∀ (s : State) (q : Quality), q ≠ .mutilated →
    (s.deliver 0o005#7 q).dir.lineAsm = s.dir.lineAsm ∧ (s.deliver 0o005#7 q).store = s.store ∧
    (s.tx.answerback = .none → s.conn.state = .connected →
      s.deliver 0o005#7 q = { s with tx := { s.tx with answerback := .pending } }) ∧
    (s.tx.answerback = .none → s.conn.state ≠ .connected → s.deliver 0o005#7 q = s) ∧
    (s.tx.answerback ≠ .none →
      s.deliver 0o005#7 q = { s with tx := { s.tx with suppressionCount := sat16 s.tx.suppressionCount } })

/-- A break candidate: mark by its limit makes it a mutilated character; space to its limit declares a break, which starts the BREAK
lock, empties the reply queue and discards the send items, and is counted unless the statistics are full; mark then ends SPACING (sections 2.7, 2.12,
7.8). At a break the retrieval's record and
every keyboard record have a PENDING send ABANDONED, and the COMPOSING record is closed (sections 3.5, 4.5, 6.4, 7.8); then the actions that were
deferred behind the replies are made, a clear and then a station reset (section 9.3). That a unit in flight completes whole without its item is
the model's reading (log entry 27), and so is that the actions follow the rest (log entry 31). -/
def Obligations.CandidatesAndBreaks : Prop :=
  (∀ (s : State) (t : Nat), s.powered = true → s.conn.state = .connected → s.conn.lineCond = .space →
    s.rx.state = .candidate → s.rx.tick < t → t ≤ s.rx.limit →
    Does (.lineConditionChange .mark t) s
      ((((s.heard .mark).received .mutilated s.rx.peak s.rx.be).noticeTraffic).deliver s.working.defaultSubstitute .mutilated)) ∧
  (∀ s : State, s.powered = true → s.conn.lineCond = .space → s.rx.state = .candidate → ∃ u, Does .breakDeclared s u ∧
    u.kb.breakTimer = some 1000 ∧ u.kb.closeTimer = none ∧ u.dir.queue = [] ∧ u.tx.answerback = .none ∧ u.tx.reply = none ∧
    u.tx.retrieval = none ∧ u.tx.keyboardText = none ∧ u.rx.plane = .letters ∧ u.rx.be = s.rx.be ∧
    u.rx.stats = s.rx.stats.countBreak ∧
    (∃ v, s.BreakTaken v ∧
      let w := if s.defers .clear = true then v.clearRequest else v
      u = if s.defers .reset = true then w.stationResetEffect else w) ∧
    s.rx.stats.countBreak =
      (if s.rx.stats.characters = 65535 then s.rx.stats else { s.rx.stats with breaks := sat16 s.rx.stats.breaks }) ∧
    u.store.cells = s.store.cells ∧ u.kb.keys = s.kb.keys ∧ u.motor = s.motor ∧
    ((∀ q ∈ s.dir.queue, q.deferred = .none) →
      u.rx.state = .spacing ∧ u.print = s.print ∧ u.punch = s.punch ∧ u.conn = s.conn ∧ u.access = s.access ∧
        u.profile = s.profile)) ∧
  (∀ (s : State) (t : Nat), s.powered = true → s.conn.state = .connected → s.conn.lineCond = .space →
    s.rx.state = .spacing →
    Does (.lineConditionChange .mark t) s
      { s.heard .mark with rx := { s.rx with state := .hunting, transitions := [], samples := [] } })

/-- The adoptions (sections 2.1, 8.1): a changed rate outside a character with nothing in flight, and a changed line type in IDLE or
LOST. -/
def Obligations.AdoptionsOfRateAndLineType : Prop :=
  (∀ s : State, s.powered = true → s.working.rateIndex ≠ s.rx.rate → s.rx.state ≠ .sampling → s.rx.state ≠ .candidate →
    s.tx.inFlight = none →
    Does .rateAdoption s { s with rx := { s.rx with rate := s.working.rateIndex, be := 0 } }) ∧
  (∀ s : State, s.powered = true → (s.conn.state = .idle ∨ s.conn.state = .lost) → s.conn.lineType = .switched →
    s.working.lineTypeParam = 1 →
    Does .lineTypeAdoption s
      { s with
        conn :=
          { s.conn with
            state := .idle, lineType := .permanent, callAnswerable := false
            stableMark := if s.conn.lineCond = .mark then some 1000 else none } }) ∧
  (∀ s : State, s.powered = true → (s.conn.state = .idle ∨ s.conn.state = .lost) → s.conn.lineType = .permanent →
    s.working.lineTypeParam = 0 →
    Does .lineTypeAdoption s
      { s with
        conn := { s.conn with state := .idle, lineType := .switched, callAnswerable := false, stableMark := none } })

/-! ### The connection -/

/-- Where stable mark is timed, and the receiver watches, a change to mark starts 1 s and a change to space stops it; the answer and call
timers end in CLEARING without CONNECTED having been entered, and CLEARING ends in IDLE (sections 8.2, 8.3, 8.5). -/
def Obligations.StableMarkTimeoutsAndClearing : Prop :=
   (∀ (s : State) (c : LineCond) (t : Nat), s.powered = true → s.rx.state = .watching → c ≠ s.conn.lineCond →
      ((s.conn.lineType = .switched ∧ (s.conn.state = .answering ∨ s.conn.state = .calling)) ∨
        (s.conn.lineType = .permanent ∧ (s.conn.state = .idle ∨ s.conn.state = .lost))) →
      Does (.lineConditionChange c t) s
        { s with conn := { s.conn with lineCond := c, stableMark := if c = .mark then some 1000 else none } }) ∧
   ((∀ s : State, s.powered = true → s.conn.answerTimer.isSome = true → s.conn.state ≠ .connected →
      Does .answerTimerExpiry s { s with conn := s.conn.cleared }) ∧
    (∀ s : State, s.powered = true → s.conn.callTimer.isSome = true → s.conn.state ≠ .connected →
      Does .callTimerExpiry s { s with conn := s.conn.cleared }) ∧
    (∀ s : State, s.powered = true → s.conn.clearingTimer.isSome = true →
      Does .clearingTimerExpiry s
        { s with conn := { s.conn with state := .idle, clearingSpace := false, clearingTimer := none, loop := false } }))

/-- The CALL input (section 8.3): a call that arrives on a switched line in IDLE is answered at once under auto-answer and waits for
ANSWER without it; a call that goes clears the flag; elsewhere only the input changes. -/
def Obligations.CallsArriveAndGo : Prop :=
  (∀ s : State, s.powered = true → s.conn.callInput = false → s.conn.state = .idle → s.conn.lineType = .switched →
    s.working.autoAnswer = true →
    Does (.callInputChange true) s
      { s with
        conn :=
          { s.conn with
            callInput := true, state := .answering, loop := true, callAnswerable := false, answerTimer := some 10000
            stableMark := if s.conn.lineCond = .mark then some 1000 else none } }) ∧
  (∀ s : State, s.powered = true → s.conn.callInput = false → s.conn.state = .idle → s.conn.lineType = .switched →
    s.working.autoAnswer = false →
    Does (.callInputChange true) s { s with conn := { s.conn with callInput := true, callAnswerable := true } }) ∧
  (∀ s : State, s.powered = true → (s.conn.state ≠ .idle ∨ s.conn.lineType = .permanent) →
    Does (.callInputChange true) s { s with conn := { s.conn with callInput := true } }) ∧
  (∀ s : State, s.powered = true →
    Does (.callInputChange false) s { s with conn := { s.conn with callInput := false, callAnswerable := false } })

/-- Stable mark enters CONNECTED (section 8.4): selection and the answerback by their parameters, the answerback by the rule of its requests
(section 7.4), the idle timer on a switched line, the receiver HUNTING in LETTERS (section 2.2), the send shift state UNKNOWN (sections 7.1,
7.8). -/
def Obligations.StableMarkEntersConnected : Prop :=
  ∀ s : State, s.powered = true → s.conn.stableMark.isSome = true →
    Does .stableMarkTimerExpiry s
      { s with
        conn :=
          { s.conn with
            state := .connected, stableMark := none, answerTimer := none, callTimer := none, sustainedSpace := none
            callAnswerable := false, selected := s.conn.selected || s.working.selectOnConnect
            lineIdle :=
              if s.conn.lineType = .switched then
                (if s.working.lineIdleS = 0 then none else some (s.working.lineIdleS * 1000))
              else s.conn.lineIdle }
        rx := { s.rx with state := .hunting, plane := .letters }
        tx :=
          { s.tx with
            shift := .unknown
            answerback := if s.working.answerbackOnConnect = true ∧ s.tx.answerback = .none then .pending else s.tx.answerback
            suppressionCount :=
              if s.working.answerbackOnConnect = true ∧ s.tx.answerback ≠ .none then sat16 s.tx.suppressionCount
              else s.tx.suppressionCount } }

/-- Leaving CONNECTED (section 8.7): by sustained space for CLEARING on a switched line and LOST on a permanent one, by the line idle
timer for CLEARING; every block takes its notice: the stack's records are CUT, or COMPLETE where implicit, and the COMPOSING record COMPLETE; PENDING sends of the
retrieval and of keyboard records are ABANDONED with their items' marks cleared; the LINE claim goes from HOLDING to DRAINING and from WAITING
to IDLE, its records abandoned (sections 3.3, 3.5, 4.5, 5.3, 6.4, 7.8). A clear request leaves CONNECTED in the same way, ends ANSWERING and
CALLING, and is without effect elsewhere (section 8.5). That the line assembler's match result is then NONE is the model's choice (log entry
40); that a unit in flight completes whole without its item is its reading (log entry 27), and so is that a deferred station reset follows the rest
(log entry 31). -/
def Obligations.LeavingConnectedTellsEveryBlock : Prop :=
  (∀ s : State,
    (s.conn.lineType = .switched → s.conn.state = .connected → ∃ v, s.LineLeft .clearing v ∧
      let w := if s.defers .reset = true then v.stationResetEffect else v
      s.clearRequest = { w with conn := w.conn.cleared }) ∧
    (s.conn.lineType = .switched → (s.conn.state = .answering ∨ s.conn.state = .calling) →
      s.clearRequest = { s with conn := s.conn.cleared }) ∧
    ((s.conn.lineType = .permanent ∨ s.conn.state = .idle ∨ s.conn.state = .clearing ∨ s.conn.state = .lost) →
      s.clearRequest = s)) ∧
  ∀ (c : Instr) (s : State), s.powered = true → s.conn.state = .connected →
    ((c = .sustainedSpaceTimerExpiry ∧ s.conn.sustainedSpace.isSome = true) ∨
      (c = .lineIdleTimerExpiry ∧ s.conn.lineIdle.isSome = true ∧ s.conn.lineType = .switched)) →
    ∃ u, Does c s u ∧
      (∃ v, s.LineLeft (if s.conn.lineType = .switched then .clearing else .lost) v ∧
        let w := if s.defers .reset = true then v.stationResetEffect else v
        u =
          { w with
            conn :=
              if s.conn.lineType = .switched then w.conn.cleared
              else { w.conn with stableMark := if w.conn.lineCond = .mark then some 1000 else none } }) ∧
      (s.conn.lineType = .switched →
        u.conn.state = .clearing ∧ u.conn.clearingSpace = true ∧ u.conn.clearingTimer = some 1000 ∧ u.conn.stableMark = none) ∧
      (s.conn.lineType = .permanent →
        u.conn.state = .lost ∧ u.conn.stableMark = if s.conn.lineCond = .mark then some 1000 else none) ∧
      u.conn.selected = false ∧ u.conn.sustainedSpace = none ∧ u.conn.lineIdle = none ∧ u.conn.loop = s.conn.loop ∧
      u.rx.state = .watching ∧ u.rx.samples = [] ∧ u.rx.stats = s.rx.stats ∧ u.store.openStack = [] ∧
      u.dir.lineAsm = ⟨.idle, .none, []⟩ ∧ u.dir.queue = [] ∧ u.access.lineOpen = .closed ∧
      u.tx.answerback = .none ∧ u.tx.reply = none ∧ u.tx.retrieval = none ∧ u.tx.keyboardText = none ∧
      u.tx.breakPending = false ∧ u.kb.closeTimer = none ∧
      u.punch.lineClaim.state ≠ .holding ∧ u.punch.lineClaim.state ≠ .waiting ∧
      u.store.cells = s.store.cells ∧ u.kb.keys = s.kb.keys ∧ u.kb.mode = s.kb.mode ∧ u.motor = s.motor ∧
      u.conn.attended = s.conn.attended ∧ u.conn.lineCond = s.conn.lineCond ∧ u.access.attempts = s.access.attempts ∧
      ((∀ q ∈ s.dir.queue, q.deferred ≠ .reset) →
        u.print = s.print ∧ u.profile = s.profile ∧ u.access.localOpen = s.access.localOpen ∧
          u.punch.keyboardClaim = s.punch.keyboardClaim)

/-! ### The keyboard -/

/-- Under a lock reason every character key and every function but ATTEND, CLEAR FAULT and NEW TAPE only sounds the bell and takes its
place in the pair, and a modifier only sounds the bell; a third key while the pair holds two is blocked and counted, whatever it is but a
modifier (sections 6.1, 6.3). The three lock reasons: the attended flag clear, 64 cells unsent of a COMPOSING record whose send is PENDING, and
the break lock timer running; and which record is the COMPOSING one (sections 6.3, 6.4). -/
def Obligations.KeysLockedOrBlocked : Prop :=
   ((∀ s : State,
      (s.locked = true ↔ s.unattendedLock = true ∨ s.sendLagLock = true ∨ s.breakLock = true) ∧
      (s.unattendedLock = true ↔ s.conn.attended = false) ∧
      (s.sendLagLock = true ↔
        ∃ e, s.composing = some e ∧ (s.record e).send.status = .pending ∧
          (s.record e).length = (s.record e).send.cursor + 64) ∧
      (s.breakLock = true ↔ s.kb.breakTimer.isSome = true)) ∧
    (∀ (s : State) (e : Nat), s.StoreSound →
      (s.composing = some e ↔ s.InUse e ∧ (s.record e).state = .composing))) ∧
   ((∀ (s : State) (k : KeyPos) (c : Code), s.Offers k (.character c) → s.locked = true →
      Does (.characterKeyDown k) s (s.joined k).bell) ∧
    (∀ (s : State) (k : KeyPos) (f : KeyFn), s.Offers k (.function f) → f.isModifier = false → f.exempt = false →
      s.locked = true → Does (f.command k) s (s.joined k).bell) ∧
    (∀ (s : State) (k : KeyPos), s.Presents k (.function .shiftFn) → s.locked = true →
      Does (.shiftKey k) s (s.heldAs k (.shiftModifier false)).bell) ∧
    (∀ (s : State) (k : KeyPos), s.Presents k (.function .repeatFn) → s.locked = true →
      Does (.repeatKey k) s (s.heldAs k (.repeatModifier false)).bell)) ∧
   ((∀ (s : State) (k : KeyPos) (c : Code), s.Presents k (.character c) → 2 ≤ s.kb.pair.length →
      Does (.characterKeyDown k) s
        { s.heldAs k .blocked with kb := { (s.heldAs k .blocked).kb with blockedCount := sat16 s.kb.blockedCount } }) ∧
    (∀ (s : State) (k : KeyPos) (f : KeyFn), s.Presents k (.function f) → f.isModifier = false → 2 ≤ s.kb.pair.length →
      Does (f.command k) s
        { s.heldAs k .blocked with kb := { (s.heldAs k .blocked).kb with blockedCount := sat16 s.kb.blockedCount } }))

/-- ATTEND sets the attended flag under every lock reason; an accepted UNATTEND clears it, closes the COMPOSING record, ends directive
entry and closes the local open state (sections 6.5, 8.9). ANSWER, SEIZE and CLEAR LINE have their effect where the connection allows it and are
taken without effect elsewhere; CLEAR LINE in CONNECTED leaves CONNECTED for CLEARING, as every block takes it (sections 8.3, 8.5, 8.7). That the
match result is then NONE is the model's choice (log entry 40), and that a unit in flight completes whole without its item and that a deferred
station reset follows the rest are its readings (log entries 27 and 31). -/
def Obligations.ConnectionKeys : Prop :=
   ((∀ (s : State) (k : KeyPos), s.Offers k (.function .attend) →
      Does (.attend k) s (State.restartClose { s.joined k with conn := { s.conn with attended := true } })) ∧
    (∀ (s : State) (k : KeyPos), s.Offers k (.function .unattend) → s.locked = false →
      let v := State.closeComposing { s.joined k with conn := { s.conn with attended := false } }
      Does (.unattend k) s
        (State.restartClose
          { v with
            kb := { v.kb with entryFlag := false }
            dir := { v.dir with localAsm := ⟨.idle, .none, []⟩ }
            access := { v.access with localOpen := .closed } }))) ∧
   ((∀ (s : State) (k : KeyPos), s.Offers k (.function .answer) → s.locked = false →
      Does (.answer k) s
        (State.restartClose
          (if s.conn.state = .idle ∧ s.conn.lineType = .switched ∧ s.conn.callAnswerable = true then
            { s.joined k with
              conn :=
                { s.conn with
                  state := .answering, loop := true, callAnswerable := false, answerTimer := some 10000
                  stableMark := if s.conn.lineCond = .mark then some 1000 else none } }
          else s.joined k))) ∧
    (∀ (s : State) (k : KeyPos), s.Offers k (.function .seize) → s.locked = false →
      Does (.seize k) s
        (State.restartClose
          (if s.conn.state = .idle ∧ s.conn.lineType = .switched then
            { s.joined k with
              conn :=
                { s.conn with
                  state := .calling, loop := true, callAnswerable := false, callTimer := some 60000
                  stableMark := if s.conn.lineCond = .mark then some 1000 else none } }
          else s.joined k))) ∧
    (∀ (s : State) (k : KeyPos), s.Offers k (.function .clearLine) → s.locked = false → s.conn.lineType = .switched →
      (s.conn.state = .answering ∨ s.conn.state = .calling) →
      Does (.clearLine k) s (State.restartClose { s.joined k with conn := s.conn.cleared })) ∧
    (∀ (s : State) (k : KeyPos), s.Offers k (.function .clearLine) → s.locked = false → s.conn.lineType = .switched →
      s.conn.state = .connected → ∃ u, Does (.clearLine k) s u ∧
        (∃ v, (s.joined k).LineLeft .clearing v ∧
          let w := if s.defers .reset = true then v.stationResetEffect else v
          u = State.restartClose { w with conn := w.conn.cleared }) ∧
        u.conn.state = .clearing ∧ u.conn.clearingSpace = true ∧
        u.conn.selected = false ∧ u.rx.state = .watching ∧ u.store.openStack = [] ∧ u.dir.queue = [] ∧
      u.store.cells = s.store.cells ∧ u.motor = s.motor ∧ u.kb.mode = s.kb.mode ∧ u.conn.attended = s.conn.attended ∧
      ((∀ q ∈ s.dir.queue, q.deferred ≠ .reset) → u.print = s.print ∧ u.profile = s.profile)) ∧
    (∀ (s : State) (k : KeyPos), s.Offers k (.function .clearLine) → s.locked = false →
      (s.conn.lineType = .permanent ∨ s.conn.state = .idle ∨ s.conn.state = .clearing) →
      Does (.clearLine k) s (s.joined k).restartClose))

/-- LEAD, HERE-IS, BREAK, LINE/LOCAL and END, accepted (sections 6.5, 6.6, 7.3). -/
def Obligations.KeysOfTheKeyboardAndTheLine : Prop :=
  (∀ (s : State) (k : KeyPos), s.Offers k (.function .lead) → s.locked = false →
    Does (.lead k) s
      (State.restartClose
        { s.joined k with
          kb := { (s.joined k).kb with entryFlag := true }
          dir := { s.dir with localAsm := ⟨.letter, .none, []⟩ } })) ∧
  (∀ (s : State) (k : KeyPos), s.Offers k (.function .hereIs) → s.locked = false →
    let v := if s.conn.state = .connected then (s.joined k).answerbackRequest else s.joined k
    Does (.hereIs k) s
      (State.restartClose (if s.working.answerback = [] then v else v.notice (s.working.answerback ++ crlf)))) ∧
  (∀ (s : State) (k : KeyPos), s.Offers k (.function .brk) → s.locked = false → s.conn.state = .connected →
    s.tx.breakPending = false → (∀ n, s.tx.inFlight ≠ some (.brk n)) →
    Does (.breakKey k) s (State.restartClose { s.joined k with tx := { s.tx with breakPending := true } })) ∧
  (∀ (s : State) (k : KeyPos), s.Offers k (.function .brk) → s.locked = false →
    (s.conn.state ≠ .connected ∨ s.tx.breakPending = true ∨ ∃ n, s.tx.inFlight = some (.brk n)) →
    Does (.breakKey k) s (s.joined k).restartClose) ∧
  (∀ (s : State) (k : KeyPos), s.Offers k (.function .lineLocal) → s.locked = false →
    Does (.lineLocal k) s
      (State.restartClose
        (State.closeComposing
          { s.joined k with
            kb := { (s.joined k).kb with mode := match s.kb.mode with | .line => .loc | .loc => .line } }))) ∧
  (∀ (s : State) (k : KeyPos), s.Offers k (.function .endFn) → s.locked = false →
    Does (.endKey k) s (s.joined k).closeComposing.restartClose)

/-- TAPE, FEED, NEW TAPE and CLEAR FAULT (sections 4.1, 5.1, 5.3, 5.6, 6.5): FEED refused while another source holds or the punch is in
FAULT or TAPE OUT, NEW TAPE while it is in FAULT, each with the bell. NEW TAPE with no row in flight fits the reel at once, and its leader
begins; that this keeps what an earlier one owed whose leader is still in progress is the model's choice (log entry 41). -/
def Obligations.KeysOfTheMechanisms : Prop :=
  (∀ (s : State) (k : KeyPos), s.Offers k (.function .tape) → s.locked = false →
    Does (.tape k) s
      (match s.punch.keyboardClaim.state with
        | .idle => ((s.joined k).claimRequest .keyboard).1.restartClose
        | .draining => ((s.joined k).claimRequest .keyboard).1.restartClose
        | .holding => ((s.joined k).releaseAll .keyboard).restartClose
        | .waiting => ((s.joined k).releaseAll .keyboard).restartClose)) ∧
  (∀ (s : State) (k : KeyPos), s.Offers k (.function .feed) → s.locked = false →
    Does (.feed k) s
      (if s.punch.fault = true ∨ s.punch.tapeOut = true ∨ s.punch.holder = some .line ∨ s.punch.holder = some .copy then
        (s.joined k).bell
      else State.restartClose { s.joined k with punch := { s.punch with feedRows := s.punch.feedRows + 8 } })) ∧
  (∀ (s : State) (k : KeyPos), s.Offers k (.function .newTape) → s.punch.fault = true →
    Does (.newTape k) s (s.joined k).bell) ∧
  (∀ (s : State) (k : KeyPos), s.Offers k (.function .newTape) → s.punch.fault = false → s.punch.inFlight.isSome = true →
    Does (.newTape k) s (State.restartClose { s.joined k with punch := { s.punch with newTapeDue := true } })) ∧
  (∀ (s : State) (k : KeyPos), s.Offers k (.function .newTape) → s.punch.fault = false → s.punch.inFlight = none →
    Does (.newTape k) s (State.restartClose { s.joined k with punch := s.reelFitted })) ∧
  (∀ (s : State) (k : KeyPos), s.Offers k (.function .clearFault) →
    Does (.clearFault k) s
      (State.restartClose
        { s.joined k with
          print :=
            if s.print.fault = true then
              { s.print with fault := false, failedOp := none, ops := s.print.failedOp.toList ++ s.print.ops }
            else s.print
          punch :=
            if s.punch.fault = true then
              { s.punch with fault := false, failedRow := none, rows := s.punch.failedRow.toList ++ s.punch.rows }
            else s.punch }))

/-- SHIFT raises the level while it is held; REPEAT begins the repetition of the most recent live pair member at 500 ms, unless a key is
being repeated; that a second REPEAT begins it with one already held and repetition idle is the model's reading (log entry 29). A repetition is
looked up again; refused under a lock or for room it sounds the bell and ends repetition; an entry that is no CHARACTER ends it; handed on, to
the local assembler, to the COMPOSING record or as the first character of a new one, or dropped by the store-input conversion, the timer
restarts at 100 ms (sections 6.2, 6.3, 6.4, 6.6). A key-up takes the key's role and its place in the pair, and ends repetition
where it was the repeated key or the last accepted REPEAT held (sections 6.1, 6.2). -/
def Obligations.ModifiersAndRepetition : Prop :=
   ((∀ (s : State) (k : KeyPos), s.Presents k (.function .shiftFn) → s.locked = false → s.kb.keys.length = 64 →
      Does (.shiftKey k) s (s.heldAs k (.shiftModifier true)).restartClose ∧
        (s.heldAs k (.shiftModifier true)).restartClose.shiftLevel = 1) ∧
    (∀ (s : State) (k m : KeyPos), s.Presents k (.function .repeatFn) → s.locked = false → s.kb.repeatKey = none →
      s.lastLive = some m →
      Does (.repeatKey k) s
        { (s.heldAs k (.repeatModifier true)).restartClose with
          kb :=
            { (s.heldAs k (.repeatModifier true)).restartClose.kb with repeatKey := some m, repeatTimer := some 500 } }) ∧
    (∀ (s : State) (k : KeyPos), s.Presents k (.function .repeatFn) → s.locked = false →
      (s.kb.repeatKey.isSome = true ∨ s.lastLive = none) →
      Does (.repeatKey k) s (s.heldAs k (.repeatModifier true)).restartClose)) ∧
   (∀ (s : State) (k : KeyPos), s.powered = true → s.kb.repeatKey = some k →
      ((∀ c, s.entryNow k ≠ .character c) →
        Does .repetition s
          { s with
            kb :=
              { s.kb with
                pair := s.kb.pair.map fun m => if m.key = k then { m with live := false } else m
                repeatKey := none, repeatTimer := none } }) ∧
      (∀ c, s.entryNow k = .character c → s.locked = true →
        Does .repetition s
          { s with
            kb :=
              { s.kb with
                bellPulses := s.kb.bellPulses + 1
                pair := s.kb.pair.map fun m => if m.key = k then { m with live := false } else m
                repeatKey := none, repeatTimer := none } }) ∧
      (∀ c e d v, s.entryNow k = .character c → s.locked = false → s.kb.entryFlag = false →
        s.working.storeCode c = some d → s.composing = some e → s.append e ⟨d, .good⟩ = some v →
        Does .repetition s { v.restartClose with kb := { v.restartClose.kb with repeatTimer := some 100 } }) ∧
      (∀ c, s.entryNow k = .character c → s.locked = false → s.kb.entryFlag = true →
        let u := s.restartClose
        let v := (if c = 0o015#7 then { u with kb := { u.kb with entryFlag := false } } else u).handLocal c
        Does .repetition s { v with kb := { v.kb with repeatTimer := some 100 } }) ∧
      (∀ c, s.entryNow k = .character c → s.locked = false → s.kb.entryFlag = false → s.working.storeCode c = none →
        Does .repetition s { s with kb := { s.kb with repeatTimer := some 100 } }) ∧
      (∀ c d v, s.entryNow k = .character c → s.locked = false → s.kb.entryFlag = false →
        s.working.storeCode c = some d → s.composing = none → s.createKeyboard d = some v →
        Does .repetition s { v.restartClose with kb := { v.restartClose.kb with repeatTimer := some 100 } }) ∧
      (∀ c d, s.entryNow k = .character c → s.locked = false → s.kb.entryFlag = false →
        s.working.storeCode c = some d → s.offerKey d = none →
        Does .repetition s
          { s with
            kb :=
              { s.kb with
                bellPulses := s.kb.bellPulses + 1
                noRoomCount := sat16 s.kb.noRoomCount
                pair := s.kb.pair.map fun m => if m.key = k then { m with live := false } else m
                repeatKey := none, repeatTimer := none } })) ∧
   (∀ (s : State) (k : KeyPos),
      let keys := s.kb.keys.set k.toNat ⟨(s.kb.keys.getD k.toNat ⟨.up, .none⟩).debounce, .none⟩
      let b : KbBlock := { s.kb with keys := keys, pair := s.kb.pair.filter (·.key ≠ k) }
      ((s.kb.repeatKey = some k ∨ s.kb.repeatKey.isSome = true ∧ ∀ c ∈ keys, c.role ≠ .repeatModifier true) →
        s.keyUp k = { s with kb := { b with repeatKey := none, repeatTimer := none } }) ∧
      (s.kb.repeatKey ≠ some k → (s.kb.repeatKey = none ∨ ∃ c ∈ keys, c.role = .repeatModifier true) →
        s.keyUp k = { s with kb := b }))

/-- A character key that no lock refuses (sections 6.3, 6.4, 6.6): during directive entry to the local assembler, CR clearing the entry flag
first; else, unless the store-input conversion drops it, to the store, where it begins or continues the COMPOSING record or is refused
for room. An accepted key restarts the close timer with parameter 23 as it stands at the key-down, while a record is COMPOSING. That a
dropped character takes repetition (section 6.2) is the model's reading (log entry 29). -/
def Obligations.CharacterKeysAreTaken : Prop :=
  (∀ (s : State) (k : KeyPos) (c : Code), s.Offers k (.character c) → s.locked = false →
    (s.kb.entryFlag = true →
      let v := (s.joined k).restartClose
      Does (.characterKeyDown k) s
        (State.acceptedChar
          ((if c = 0o015#7 then { v with kb := { v.kb with entryFlag := false } } else v).handLocal c) k)) ∧
    (s.kb.entryFlag = false → s.working.storeCode c = none → Does (.characterKeyDown k) s ((s.joined k).acceptedChar k)) ∧
    (s.kb.entryFlag = false → ∀ d v, s.working.storeCode c = some d → s.composing = none →
      (s.joined k).createKeyboard d = some v → Does (.characterKeyDown k) s (v.restartClose.acceptedChar k)) ∧
    (s.kb.entryFlag = false → ∀ d e v, s.working.storeCode c = some d → s.composing = some e →
      (s.joined k).append e ⟨d, .good⟩ = some v → Does (.characterKeyDown k) s (v.restartClose.acceptedChar k)) ∧
    (s.kb.entryFlag = false → ∀ d, s.working.storeCode c = some d → (s.joined k).offerKey d = none →
      Does (.characterKeyDown k) s
        { (s.joined k).bell with kb := { (s.joined k).bell.kb with noRoomCount := sat16 s.kb.noRoomCount } })) ∧
  (∀ s : State,
    ((∃ e ∈ s.store.arrival, (s.record e).state = .composing) →
      s.restartClose = { s with kb := { s.kb with closeTimer := some (s.working.closeTimeS * 1000) } }) ∧
    ((∀ e ∈ s.store.arrival, (s.record e).state ≠ .composing) → s.restartClose = s)) ∧
  (∀ (s : State) (k : KeyPos),
    let v : State := { s with kb := { s.kb with pair := s.kb.pair.map fun m => if m.key = k then { m with live := true } else m } }
    ((∃ c ∈ s.kb.keys, c.role = .repeatModifier true) →
      s.acceptedChar k = { v with kb := { v.kb with repeatKey := some k, repeatTimer := some 500 } }) ∧
    ((∀ c ∈ s.kb.keys, c.role ≠ .repeatModifier true) → s.acceptedChar k = v))

/-- The keyboard record a first character makes (sections 3.6, 6.4): in the lowest EMPTY entry, COMPOSING, its serial from the local
counter, its outputs from the values then in force, its punch source KEYBOARD, not implicit, the character its one cell. None is made
exactly where no entry is EMPTY or no block is free; a character goes to the COMPOSING record where there is one, and makes a record where
there is none. -/
def Obligations.FirstCharacterMakesTheKeyboardRecord : Prop :=
  (∀ (s : State) (c : Code),
    (s.createKeyboard c = none ↔ (∀ e, 1 ≤ e → e ≤ 32 → (s.record e).state ≠ .empty) ∨ s.store.free = []) ∧
    (s.composing = none → s.offerKey c = s.createKeyboard c) ∧
    ∀ e, s.composing = some e → s.offerKey c = s.append e ⟨c, .good⟩) ∧
  ∀ (s v : State) (c : Code), s.store.dir.length = 32 → s.createKeyboard c = some v → ∃ e, s.lowestEmpty = some e ∧
    (s.store.cells.wf = true → v.cellOf e 0 = ⟨c, .good⟩) ∧
    v.record e =
      { state := .composing, origin := .keyboard, serial := some s.store.localSerial
        precedence := s.working.keyboardPrecedence, implicit := false, length := 1, blocks := s.store.free.take 1
        print := ⟨if s.working.homeCopy = true then .pending else .none, 0, false⟩, started := false
        punch :=
          ⟨if s.punch.keyboardClaim.state = .holding ∨ s.punch.keyboardClaim.state = .waiting then .pending else .none, 0, false⟩
        punchSource := .keyboard
        send := ⟨if s.kb.mode = .line ∧ s.conn.state = .connected then .pending else .none, 0, false⟩
        retained := !s.conn.attended && s.working.retainUnattended, deletePending := false, duplicate := false
        overflowed := false, doubtful := 0, mutilated := 0 } ∧
    v.store.free = s.store.free.drop 1 ∧
    v.store.arrival = s.store.arrival ++ [e] ∧
    v.store.localSerial = (if s.store.localSerial = 9999 then 0 else s.store.localSerial + 1) ∧
    (∀ x, 1 ≤ x → x ≤ 32 → x ≠ e → v.record x = s.record x)

/-- A scan moves each key's debounce state by the table; one that recognises no key-down and no key-up does nothing else. One that
recognises a single key-down or key-up takes it, with what follows it, when it comes to that key, and then goes on. Any scan, however many keys it
recognises, takes the positions in ascending order, each from the state that the one before it left. The key-down is that of the
key's command; a key whose entry is NONE only joins the pair or is blocked (sections 6.1, 6.2, 6.3). -/
def Obligations.ScansDebounceEveryKey : Prop :=
  (∀ (s : State) (closed : BitVec 64), s.powered = true → s.kb.keys.length = 64 →
    (∀ k, k < 64 → ¬((s.kb.keys.getD k ⟨.up, .none⟩).debounce = .pressing ∧ closed.getLsbD k = true) ∧
      ¬((s.kb.keys.getD k ⟨.up, .none⟩).debounce = .releasing ∧ closed.getLsbD k = false)) →
    ∃ keys : List KeyCell, Does (.scan closed) s { s with kb := { s.kb with keys := keys } } ∧ keys.length = 64 ∧
      ∀ k, k < 64 →
        keys.getD k ⟨.up, .none⟩ =
          ⟨match (s.kb.keys.getD k ⟨.up, .none⟩).debounce, closed.getLsbD k with
            | .up, true => .pressing | .up, false => .up
            | .pressing, true => .down | .pressing, false => .up
            | .down, true => .down | .down, false => .releasing
            | .releasing, true => .down | .releasing, false => .up,
            (s.kb.keys.getD k ⟨.up, .none⟩).role⟩) ∧
  (∀ (s : State) (closed : BitVec 64) (p : Nat), s.powered = true → s.kb.keys.length = 64 → p < 64 →
    (∀ k, k < 64 → k ≠ p → s.recognises closed k = false) →
    let u : State := { s with kb := { s.kb with keys := s.keysMoved closed 0 (p + 1) } }
    ((s.kb.keys.getD p ⟨.up, .none⟩).debounce = .pressing → closed.getLsbD p = true →
      let w := (u.keyDown (BitVec.ofNat 6 p)).settle
      Does (.scan closed) s { w with kb := { w.kb with keys := w.keysMoved closed (p + 1) 64 } }) ∧
    ((s.kb.keys.getD p ⟨.up, .none⟩).debounce = .releasing → closed.getLsbD p = false →
      let w := (u.keyUp (BitVec.ofNat 6 p)).settle
      Does (.scan closed) s { w with kb := { w.kb with keys := w.keysMoved closed (p + 1) 64 } })) ∧
  (∀ (s : State) (closed : BitVec 64), s.powered = true → ∃ u : Nat → State, u 0 = s ∧ Does (.scan closed) s (u 64) ∧
    ∀ k, k < 64 →
      let c := (u k).kb.keys.getD k ⟨.up, .none⟩
      let v : State :=
        { u k with
          kb := { (u k).kb with keys := (u k).kb.keys.set k { c with debounce := c.debounce.next (closed.getLsbD k) } } }
      (c.debounce = .pressing → closed.getLsbD k = true → u (k + 1) = (v.keyDown (BitVec.ofNat 6 k)).settle) ∧
      (c.debounce = .releasing → closed.getLsbD k = false → u (k + 1) = (v.keyUp (BitVec.ofNat 6 k)).settle) ∧
      ((c.debounce ≠ .pressing ∨ closed.getLsbD k = false) → (c.debounce ≠ .releasing ∨ closed.getLsbD k = true) →
        u (k + 1) = v)) ∧
  ([Debounce.up, .pressing, .down, .releasing].map (fun d => (d.next true, d.next false)) =
    [(.pressing, .up), (.down, .up), (.down, .releasing), (.down, .up)]) ∧
  (∀ (s : State) (k : KeyPos),
    let u : State := { s with kb := { s.kb with keys := s.kb.keys.set k.toNat ⟨.down, (s.kb.keys.getD k.toNat ⟨.up, .none⟩).role⟩ } }
    (∀ f, s.Presents k (.function f) → Does (f.command k) s (u.keyDown k)) ∧
    (∀ c, s.Presents k (.character c) → Does (.characterKeyDown k) s (u.keyDown k)) ∧
    (s.Presents k .none → s.kb.pair.length < 2 → u.keyDown k = s.joined k) ∧
    (s.Presents k .none → 2 ≤ s.kb.pair.length →
      u.keyDown k =
        { s.heldAs k .blocked with kb := { (s.heldAs k .blocked).kb with blockedCount := sat16 s.kb.blockedCount } }))

/-- The break lock ends and the close timer closes the COMPOSING record (sections 6.3, 6.4); the motor's run-up ends in RUNNING, and its
idle timer in STOPPED (section 11.1). What the motor does of itself: demand starts it, with the run-up timer; in RUNNING the idle timer starts
when nothing is in flight or ready, and stops when something is. The order of the blocks after an event is the model's (log entry 6), and so
is `quiet`, which remembers that the moment has come (log entry 21). That
one which at once meets HELD or TAPE OUT leaves the idle timer running is log entry 38. What the blocks do of themselves is the step of the
first of them that has one, taken again until none has, 131072 times at most (log entry 6). The lamps and the TAPE LOW indication, each lit
while what it shows stands (sections 3.5, 4.1, 4.4, 5.1, 5.6, 8.10, 11.4). -/
def Obligations.KeyboardAndMotorTimersExpire : Prop :=
   ((∀ s : State, s.powered = true → Does .breakLockTimerExpiry s { s with kb := { s.kb with breakTimer := none } }) ∧
    (∀ (s : State) (e : Nat), s.powered = true → s.kb.closeTimer.isSome = true → s.composing = some e →
      Does .closeTimerExpiry s
        (State.examine
          (State.setRecord { s with kb := { s.kb with closeTimer := none } } e { s.record e with state := .complete }) e)) ∧
    (∀ s : State, s.powered = true → s.kb.closeTimer.isSome = true → s.composing = none →
      Does .closeTimerExpiry s { s with kb := { s.kb with closeTimer := none } })) ∧
   ((∀ s : State, s.powered = true → s.motor.runUp.isSome = true →
      Does .runUpTimerExpiry s { s with motor := { s.motor with state := .running, runUp := none, quiet := false } }) ∧
    (∀ s : State, s.powered = true → s.motor.idle.isSome = true →
      Does .idleTimerExpiry s { s with motor := { s.motor with state := .stopped, idle := none, quiet := false } })) ∧
   (∀ s : State,
      (s.demand = true ↔
        (s.print.fault = false ∧ s.print.inFlight = none ∧ s.print.held = false ∧ s.print.ops ≠ []) ∨
        (s.punch.fault = false ∧ s.punch.inFlight = none ∧ s.punch.tapeOut = false ∧ s.punch.rows ≠ [])) ∧
      (s.motor.state = .stopped → s.demand = true →
        s.motorStep = some { s with motor := { s.motor with state := .starting, runUp := some (100 * s.working.par 25) } }) ∧
      (s.motor.state = .stopped → s.demand = false → s.motorStep = none) ∧
      (s.motor.state = .starting → s.motorStep = none) ∧
      (s.motor.state = .running → s.motor.quiet = false → s.print.inFlight = none → s.punch.inFlight = none → s.demand = false →
        s.motorStep =
          some
            { s with
              motor :=
                { s.motor with
                  quiet := true, idle := if s.working.par 24 = 0 then none else some (1000 * s.working.par 24) } }) ∧
      (s.motor.state = .running → s.motor.quiet = true →
        (s.print.inFlight.isSome = true ∨ s.punch.inFlight.isSome = true ∨ s.demand = true) →
        s.motorStep = some { s with motor := { s.motor with quiet := false, idle := none } }) ∧
      (s.motor.state = .running →
        (s.motor.quiet = true ↔ s.print.inFlight = none ∧ s.punch.inFlight = none ∧ s.demand = false) → s.motorStep = none) ∧
      s.settleStep =
        ((((s.adoptLineType.or s.adoptRate).or s.sendStep).or s.printStep).or s.punchStep).or s.motorStep ∧
      (s.settleStep = none → s.settle = s) ∧
      s.settle = State.repeatStep State.settleStep 131072 s ∧
      ∀ (f : State → Option State) (n : Nat),
        State.repeatStep f 0 s = s ∧
        (f s = none → State.repeatStep f (n + 1) s = s) ∧
        ∀ t, f s = some t → State.repeatStep f (n + 1) s = State.repeatStep f n t) ∧
   ∀ s : State,
      (s.alarmLamp = true ↔
        s.print.fault = true ∨ s.print.held = true ∨ s.punch.fault = true ∨ s.punch.tapeOut = true ∨ s.profile.fault = true) ∧
      (s.store.dir.length = 32 →
        (s.messageWaitingLamp = true ↔ ∃ e, 1 ≤ e ∧ e ≤ 32 ∧ (s.record e).state ≠ .empty ∧ (s.record e).retained = true)) ∧
      (s.tapeLow = true ↔ s.punch.tapeSupply ≤ s.working.par 28) ∧
      (s.callLamp = true ↔ s.conn.callInput = true) ∧ (s.connectedLamp = true ↔ s.conn.state = .connected) ∧
      (s.attendedLamp = true ↔ s.conn.attended = true)

/-! ### Directives -/

/-- R161: at the second call-code character the pair is compared with the call code in force and with ZZ; at the letter a FOREIGN directive
other than S is discarded without count, and any other goes on to its body; the result stands for the rest of the directive. -/
def Obligations.CallCodesAreMatched : Prop :=
  (∀ (s : State) (c1 c : Code) (q : Quality), s.dir.lineAsm.state = .call → s.dir.lineAsm.buffer = [c1] →
    bodyCodeOk c = true → q ≠ .mutilated →
    s.handLine c q =
      { s with
        dir :=
          { s.dir with
            lineAsm :=
              ⟨.letter,
                if s.working.callCode = some (c1, c) then .own
                else if c1 = 0o132#7 ∧ c = 0o132#7 then .broadcast else .foreign,
                [c1, c]⟩ } }) ∧
  (∀ (s : State) (c1 c2 c : Code) (q : Quality), s.dir.lineAsm.state = .letter → s.dir.lineAsm.buffer = [c1, c2] →
    bodyCodeOk c = true → q ≠ .mutilated →
    s.handLine c q =
      { s with
        dir :=
          { s.dir with
            lineAsm :=
              ⟨if s.dir.lineAsm.result = .foreign ∧ c ≠ 0o123#7 then .discard else .body, s.dir.lineAsm.result,
                [c1, c2, c]⟩ } }) ∧
  (∀ (s : State) (c : Code) (q : Quality), s.dir.lineAsm.state = .body → s.dir.lineAsm.buffer.length < 48 →
    bodyCodeOk c = true → q ≠ .mutilated →
    s.handLine c q =
      { s with
        dir :=
          { s.dir with lineAsm := ⟨.body, s.dir.lineAsm.result, s.dir.lineAsm.buffer ++ [c]⟩ } }) ∧
  (∀ (s : State) (c1 c2 l : Code) (body : List Code) (q : Quality), s.dir.lineAsm.state = .body →
    s.dir.lineAsm.buffer = c1 :: c2 :: l :: body → q ≠ .mutilated →
    ∃ b : Assembler, b.state = .idle ∧
      s.handLine 0o015#7 q =
        State.execute { s with dir := { s.dir with lineAsm := b } } ⟨.line c1 c2, s.dir.lineAsm.result, l, body⟩)

/-- An OWN line directive is answered by one entry at the tail of the reply queue, its line composed at once; a BROADCAST one not at all; a
local one by a station notice of the echo and the reply, with the access number of an O or K hidden (sections 9.3, 10.5, 12.2; that every digit after the first
space is hidden is log entry 30). A notice is
made whole, of precedence 2 and to be printed, where an entry is EMPTY and its blocks are free, and is else lost and counted (section 3.6). -/
def Obligations.AnswersGoToQueueOrNotice : Prop :=
  (∀ (s : State) (c1 c2 l : Code) (body : List Code) (r : Reply) (d : Deferred),
    s.answerWith ⟨.line c1 c2, .own, l, body⟩ r d =
      { s with
        dir :=
          { s.dir with
            queue :=
              s.dir.queue ++
                [⟨.lineReply,
                  [0o015#7, 0o012#7] ++ s.working.callLetters ++ [0o040#7] ++ r.reason.text ++ spaced r.fields ++
                    [0o015#7, 0o012#7],
                  d, [], 0⟩] } }) ∧
  (∀ (s : State) (c1 c2 l : Code) (body : List Code) (r : Reply) (d : Deferred),
    s.answerWith ⟨.line c1 c2, .broadcast, l, body⟩ r d = s) ∧
  (∀ (s : State) (m : MatchResult) (l : Code) (body : List Code) (r : Reply) (d : Deferred),
    s.answerWith ⟨.keyboard, m, l, body⟩ r d =
      s.notice
        ((l :: (if l = 0o117#7 ∨ l = 0o113#7 then maskNumber body else body)) ++ [0o015#7, 0o012#7] ++ r.reason.text ++
          spaced r.fields ++ [0o015#7, 0o012#7])) ∧
  (∀ (s : State) (text : List Code), s.noticeFits text = false →
    s.notice text = { s with store := { s.store with lostNoticeCount := sat16 s.store.lostNoticeCount } }) ∧
  (∀ (s : State) (text : List Code), s.noticeFits text = true →
    (s.notice text).store.lostNoticeCount = s.store.lostNoticeCount ∧
      (s.notice text).store.localSerial = if s.store.localSerial = 9999 then 0 else s.store.localSerial + 1) ∧
  (∀ (s : State) (text : List Code),
    let cs := text.filterMap s.working.storeCode
    (s.noticeFits text = true ↔
      (∃ e, 1 ≤ e ∧ e ≤ 32 ∧ (s.record e).state = .empty) ∧ (cs.length + 63) / 64 ≤ s.store.free.length) ∧
    (s.noticeFits text = true → s.store.dir.length = 32 → s.store.cells.wf = true → s.store.free.Nodup → cs ≠ [] →
      cs.length ≤ 16383 → ∃ e, s.lowestEmpty = some e ∧
        let v := s.notice text
        let n := (cs.length + 63) / 64
        v.record e =
          { Record.empty with
            state := .complete, origin := .station, serial := some s.store.localSerial, precedence := 2
            print := ⟨.pending, 0, false⟩, retained := !s.conn.attended && s.working.retainUnattended
            length := cs.length, blocks := s.store.free.take n } ∧
        (∀ i, i < cs.length → v.cellOf e i = ⟨cs.getD i 0, .good⟩) ∧
        v.store.free = s.store.free.drop n ∧ v.store.arrival = s.store.arrival ++ [e] ∧
        ∀ x, 1 ≤ x → x ≤ 32 → x ≠ e → v.record x = s.record x)) ∧
  (∀ w n : List Code, 0o040#7 ∉ w →
    maskNumber w = w ∧
    maskNumber (w ++ 0o040#7 :: n) =
      w ++ 0o040#7 :: n.map fun c => if 0o060 ≤ c.toNat ∧ c.toNat ≤ 0o071 then 0o055#7 else c)

/-- S selects when addressed to the own call code or ZZ and deselects otherwise; D deselects when so addressed; a deselection of a selected
station tears the stack down (sections 8.8, 9.4). -/
def Obligations.SelectAndDeselect : Prop :=
  ∀ (s : State) (c1 c2 : Code), s.LineBrings c1 c2 [] →
    ((s.working.callCode = some (c1, c2) ∨ (c1, c2) = (0o132#7, 0o132#7)) →
      Does (.select (.line c1 c2) []) s { s with conn := { s.conn with selected := true } } ∧
      Does (.deselect (.line c1 c2) []) s
        (if s.conn.selected = true then State.teardown { s with conn := { s.conn with selected := false } } else s)) ∧
    (s.working.callCode ≠ some (c1, c2) → (c1, c2) ≠ (0o132#7, 0o132#7) →
      Does (.select (.line c1 c2) []) s
        (if s.conn.selected = true then State.teardown { s with conn := { s.conn with selected := false } } else s))

/-- An M executed while selected is a heading request (sections 3.3, 9.4). It closes what lies on top from its precedence up, an explicit
record CUT and an implicit one COMPLETE; the record then on top is SUSPENDED; and its own entry is pushed, with a new RECEIVING record in the
lowest EMPTY entry, or VOID, which is counted, where none is. A teardown closes every message in the same way. -/
def Obligations.HeadingsOpenMessages : Prop :=
  (∀ (s : State) (c1 c2 : Code) (body : List Code) (p n : Nat), s.LineBrings c1 c2 body → s.conn.selected = true →
    (s.working.callCode = some (c1, c2) ∨ (c1, c2) = (0o132#7, 0o132#7)) → FieldsAre body [p, n] → p ≤ 3 → n ≤ 9999 →
    Does (.messageHeading (.line c1 c2) body) s (s.heading p n)) ∧
  (∀ (s : State) (p n : Nat), s.store.dir.length = 32 →
    let u := (State.cutFrom p s.store.openStack s).topTakes .suspended
    let v := s.heading p n
    v.store.openStack =
      ⟨p, u.lowestEmpty⟩ :: s.store.openStack.dropWhile (fun t => decide (p ≤ t.precedence)) ∧
    (∀ e, u.lowestEmpty = some e →
      (∃ duplicate : Bool,
        (duplicate = true ↔ ∃ x ∈ u.store.arrival, (u.record x).origin = .line ∧ (u.record x).serial = some n) ∧
        v.record e =
          { Record.empty with
            state := .receiving, origin := .line, serial := some n, precedence := p
            print := ⟨if s.store.linePrint = true then .pending else .none, 0, false⟩
            punch :=
              ⟨if s.punch.lineClaim.state = .holding ∨ s.punch.lineClaim.state = .waiting then .pending else .none, 0, false⟩
            punchSource := .line, retained := !s.conn.attended && s.working.retainUnattended, duplicate := duplicate }) ∧
      v.store.arrival = u.store.arrival ++ [e] ∧ v.store.lostMessageCount = s.store.lostMessageCount ∧
      ∀ x, 1 ≤ x → x ≤ 32 → x ≠ e → v.record x = u.record x) ∧
    (u.lowestEmpty = none →
      v.store.lostMessageCount = sat16 s.store.lostMessageCount ∧ v.store.arrival = u.store.arrival ∧
        ∀ x, v.record x = u.record x)) ∧
  (∀ s : State,
    (∀ e, s.lowestEmpty = some e ↔
      (1 ≤ e ∧ e ≤ 32) ∧ (s.record e).state = .empty ∧ ∀ x, 1 ≤ x → x < e → (s.record x).state ≠ .empty) ∧
    (s.lowestEmpty = none ↔ ∀ e, 1 ≤ e → e ≤ 32 → (s.record e).state ≠ .empty)) ∧
  (∀ (s : State) (p : Nat) (t : StackEntry) (rest : List StackEntry),
    State.cutFrom p [] s = { s with store := { s.store with openStack := [] } } ∧
    (t.precedence < p → State.cutFrom p (t :: rest) s = { s with store := { s.store with openStack := t :: rest } }) ∧
    (p ≤ t.precedence → t.entry = none → State.cutFrom p (t :: rest) s = State.cutFrom p rest s) ∧
    (∀ e, p ≤ t.precedence → t.entry = some e →
      State.cutFrom p (t :: rest) s =
        State.cutFrom p rest
          (State.examine
            (s.setRecord e { s.record e with state := if (s.record e).implicit = true then .complete else .cut }) e)) ∧
    s.teardown = State.cutFrom 0 s.store.openStack s) ∧
  (∀ (s : State) (st : RecState),
    (∀ p e rest, s.store.openStack = ⟨p, some e⟩ :: rest →
      s.topTakes st = State.examine (s.setRecord e { s.record e with state := st }) e) ∧
    (∀ p rest, s.store.openStack = ⟨p, none⟩ :: rest → s.topTakes st = s) ∧ (s.store.openStack = [] → s.topTakes st = s))

/-- R50: an E executed while selected is an end request; an empty stack counts a stray end; else the top is popped, its record becomes
COMPLETE whether explicit or implicit, and a record then on top becomes RECEIVING. Line text goes to the record on top, and a VOID on top
discards it. -/
def Obligations.EndsCloseTheTopMessage : Prop :=
  (∀ (s : State) (c1 c2 : Code), s.LineBrings c1 c2 [] → s.conn.selected = true →
    (s.working.callCode = some (c1, c2) ∨ (c1, c2) = (0o132#7, 0o132#7)) →
    (s.store.openStack = [] →
      Does (.endOfMessage (.line c1 c2) []) s
        { s with store := { s.store with strayEndCount := sat16 s.store.strayEndCount } }) ∧
    (∀ t rest, s.store.openStack = t :: rest →
      let v : State := { s with store := { s.store with openStack := rest } }
      let w : State := match t.entry with
        | none => v
        | some e => State.examine (v.setRecord e { v.record e with state := .complete }) e
      Does (.endOfMessage (.line c1 c2) []) s
        (match rest with
          | ⟨_, some e⟩ :: _ => State.examine (w.setRecord e { w.record e with state := .receiving }) e
          | _ => w))) ∧
  (∀ (s : State) (x : Cell) (p e : Nat) (rest : List StackEntry), s.store.openStack = ⟨p, some e⟩ :: rest →
    s.lineText x = s.appendLine e x) ∧
  (∀ (s : State) (x : Cell) (p : Nat) (rest : List StackEntry), s.store.openStack = ⟨p, none⟩ :: rest → s.lineText x = s)

/-- Q, C, F and Z, OWN or local, whose open check passes: the line print switch; the source closed; FROZEN set; the statistics cleared
and nothing else of the receiver; each answered A00 (sections 9.5, 9.8, 10.2, 10.6). I and T: the part number 7720, revision 1, 256 blocks, 32
entries, 4 precedences; and the fields of the group named, group 1 where none is (sections 9.6, 12.3). P and Q are carried out unanswered when
BROADCAST (section 9.5). The service states of the printer and the punch (sections 4.4, 5.1). A letter of no directive is answered N05, counted as overrun where the queue is full, and ignored when BROADCAST (section
9.2). -/
def Obligations.SettingsIdentityAndStatus : Prop :=
   (∀ (s : State) (src : DirSource),
      (∀ body v, s.Brings src body → FieldsAre body [v] → v ≤ 1 →
        Does (.linePrintSwitch src body) s
          (State.answer { s with store := { s.store with linePrint := v == 1 } } (s.call .printSwitch src body)
            Reason.a00.alone)) ∧
      (s.Brings src [] →
        Does (.closeSource src []) s
          (State.answer
            { s with
              access :=
                if fromLine src = true then { s.access with lineOpen := .closed } else { s.access with localOpen := .closed } }
            (s.call .closeSrc src []) Reason.a00.alone)) ∧
      (s.Brings src [] → s.openCheck src false = none →
        Does (.freeze src []) s
          (State.answer { s with access := { s.access with frozen := true } } (s.call .freeze src []) Reason.a00.alone)) ∧
      (s.Brings src [] → s.openCheck src false = none →
        Does (.clearStatistics src []) s
          (State.answer { s with rx := { s.rx with stats := ⟨0, 0, 0, 0, 0, 0, 0⟩ } } (s.call .clearStats src [])
            Reason.a00.alone))) ∧
   (∀ (s : State) (src : DirSource),
      (s.Brings src [] →
        Does (.identify src []) s
          (s.answer (s.call .identify src [])
            ⟨.a00, [[0o067#7, 0o067#7, 0o062#7, 0o060#7], [0o061#7], [0o062#7, 0o065#7, 0o066#7], [0o063#7, 0o062#7],
              [0o064#7]]⟩)) ∧
      (s.Brings src [] → Does (.statusSnapshot src []) s (s.answer (s.call .status src []) ⟨.a00, s.statusLine⟩)) ∧
      (∀ body g, s.Brings src body → FieldsAre body [g] → 1 ≤ g → g ≤ 5 →
        Does (.statusSnapshot src body) s
          (s.answer (s.call .status src body)
            ⟨.a00,
              if g = 1 then s.statusLine else if g = 2 then s.statusStore else if g = 3 then s.statusMechanisms
              else if g = 4 then s.statusStation else s.statusAccess⟩)) ∧
      s.statusAccess =
        [flag s.working.operatorNumber.isSome, flag s.working.strict, flag s.working.operatorNumber.isSome,
          flag s.working.supervisorNumber.isSome, number s.access.attempts, flag s.access.expired, flag s.access.frozen,
          [s.access.lineOpen.letter], [s.access.localOpen.letter]]) ∧
   (∀ s : State,
      let n := s.rx.stats.characters
      s.statusLine =
        [number n, number s.rx.stats.doubtful, number s.rx.stats.mutilated, number s.rx.stats.falseStarts,
          number s.rx.stats.breaks, number s.rx.stats.peakMax, number s.rx.stats.peakSum, flag (n == 65535),
          number (if n = 0 then 0 else (100 * s.rx.stats.peakSum + 32 * n) / (64 * n)),
          number ((100 * s.rx.stats.peakMax + 32) / 64),
          signedNumber (s.rx.be.sign * ((100 * (s.rx.be.natAbs : Int) + 512) / 1024)), number s.rx.rate] ∧
      s.statusStore =
        [number s.store.free.length,
          number ((List.range 32).filter fun i => (s.record (i + 1)).state == .empty).length,
          number s.store.overflowCount, number s.store.lostMessageCount, number s.store.lostNoticeCount,
          number s.store.strayEndCount, flag s.store.linePrint, number s.store.openStack.length] ∧
      s.statusMechanisms =
        [[match s.print.service with
            | .idle => 0o111#7 | .ready => 0o122#7 | .busy => 0o102#7 | .held => 0o110#7 | .fault => 0o106#7],
          flag s.print.paperLow,
          [match s.punch.service with
            | .idle => 0o111#7 | .ready => 0o122#7 | .busy => 0o102#7 | .tapeOut => 0o124#7 | .fault => 0o106#7],
          [s.punch.lineClaim.state.letter], number s.punch.lineClaim.count, [s.punch.keyboardClaim.state.letter],
          number s.punch.keyboardClaim.count, [s.punch.copyClaim.state.letter], number s.punch.copyClaim.count,
          number s.punch.tapeSupply, number s.punch.skipCount,
          [match s.motor.state with | .stopped => 0o123#7 | .starting => 0o125#7 | .running => 0o122#7],
          flag s.profile.fault] ∧
      s.statusStation =
        [[match s.conn.state with
            | .idle => 0o111#7 | .answering => 0o101#7 | .calling => 0o103#7 | .connected => 0o113#7 | .clearing => 0o130#7
            | .lost => 0o114#7],
          flag (s.conn.lineType == .permanent), flag s.conn.selected, flag s.conn.attended, flag (s.kb.mode == .loc),
          number s.kb.blockedCount, number s.kb.noRoomCount, number s.tx.skipCount, number s.tx.suppressionCount,
          number s.dir.overlongCount, number s.dir.malformedCount, number s.dir.overrunCount]) ∧
   (∀ b : PrintBlock,
      b.service =
        if b.fault = true then .fault else if b.inFlight.isSome = true then .busy else if b.held = true then .held
        else if b.ops = [] then .idle else .ready) ∧
   (∀ b : PunchBlock,
      b.service =
        if b.fault = true then .fault else if b.inFlight.isSome = true then .busy else if b.tapeOut = true then .tapeOut
        else if b.rows = [] then .idle else .ready) ∧
   ([ClaimState.idle, .waiting, .holding, .draining].map ClaimState.letter = [0o111#7, 0o127#7, 0o110#7, 0o104#7] ∧
      [OpenState.closed, .operator, .supervisor].map OpenState.letter = [0o103#7, 0o117#7, 0o123#7] ∧
      flag false = [0o060#7] ∧ flag true = [0o061#7] ∧
      (∀ n, digit n = BitVec.ofNat 7 (0o060 + n % 10)) ∧
      (∀ n, n < 10 ^ 20 → fieldValue (number n) = n ∧ (∀ c ∈ number n, 0o060 ≤ c.toNat ∧ c.toNat ≤ 0o071) ∧
        (0 < n → (number n).head? ≠ some 0o060#7)) ∧
      number 0 = [0o060#7] ∧ signedNumber 0 = [0o060#7] ∧
      (∀ n : Nat, 0 < n → signedNumber n = 0o053#7 :: number n ∧ signedNumber (-(n : Int)) = 0o055#7 :: number n)) ∧
   (∀ (s : State) (body : List Code) (v : Nat), s.LineBrings 0o132#7 0o132#7 body →
      s.working.callCode ≠ some (0o132#7, 0o132#7) → FieldsAre body [v] → v ≤ 1 →
      Does (.linePrintSwitch (.line 0o132#7 0o132#7) body) s { s with store := { s.store with linePrint := v == 1 } } ∧
      Does (.punchClaim (.line 0o132#7 0o132#7) body) s
        (if v = 1 then (s.claimRequest .line).1 else (s.releaseRequest .line).1)) ∧
   (∀ l : Code, (DirKind.ofLetter l = none ↔ l.toNat ∉
      [0o123, 0o104, 0o115, 0o105, 0o120, 0o121, 0o111, 0o124, 0o117, 0o103, 0o106, 0o113, 0o114, 0o122, 0o130, 0o127, 0o101,
        0o102, 0o126, 0o131, 0o110, 0o132, 0o107]) ∧
      (DirKind.ofLetter l = none → ∀ (s : State) (body : List Code),
        (∀ m, s.execute ⟨.keyboard, m, l, body⟩ = s.answer ⟨.keyboard, m, l, body⟩ Reason.n05.alone) ∧
        ∀ c1 c2,
          (s.dir.queue.length < 4 →
            s.execute ⟨.line c1 c2, .own, l, body⟩ = s.answer ⟨.line c1 c2, .own, l, body⟩ Reason.n05.alone) ∧
          (4 ≤ s.dir.queue.length →
            s.execute ⟨.line c1 c2, .own, l, body⟩ =
              { s with dir := { s.dir with overrunCount := sat16 s.dir.overrunCount } }) ∧
          s.execute ⟨.line c1 c2, .broadcast, l, body⟩ = s ∧ s.execute ⟨.line c1 c2, .foreign, l, body⟩ = s))

/-- O: N03 once EXPIRED, then N02 while FROZEN, then N04 where the number is not set or does not match as written, with the attempt counted
and EXPIRED at the fifth; a match opens the source at its level and clears the count (section 10.4). K: N02 while FROZEN; the first operator
number enables security and opens its source; otherwise the open check, N01 where it refuses, and the number set as written or cleared
(section 10.5). N06 comes first, for a number of fields or a w that the letter does not take. The open check's table itself (section 10.3). -/
def Obligations.AccessNumbersAreTriedAndSet : Prop :=
   (∀ (s : State) (src : DirSource) (body w n : List Code), s.Brings src body → readFields body = some [w, n] →
      (fieldValue w = 1 ∨ fieldValue w = 2) →
      let held := if fieldValue w = 1 then s.working.operatorNumber else s.working.supervisorNumber
      let level : OpenState := if fieldValue w = 1 then .operator else .supervisor
      let c := s.call .openSrc src body
      (s.access.expired = true → Does (.openSource src body) s (s.answer c Reason.n03.alone)) ∧
      (s.access.expired = false → s.access.frozen = true → Does (.openSource src body) s (s.answer c Reason.n02.alone)) ∧
      (s.access.expired = false → s.access.frozen = false → held = none →
        Does (.openSource src body) s (s.answer c Reason.n04.alone)) ∧
      (s.access.expired = false → s.access.frozen = false → (∃ h, held = some h ∧ h ≠ n) →
        Does (.openSource src body) s
          (State.answer
            { s with access := { s.access with attempts := s.access.attempts + 1, expired := decide (4 ≤ s.access.attempts) } } c
            Reason.n04.alone)) ∧
      (s.access.expired = false → s.access.frozen = false → held = some n →
        Does (.openSource src body) s
          (State.answer
            { s with
              access :=
                if fromLine src = true then { s.access with attempts := 0, lineOpen := level }
                else { s.access with attempts := 0, localOpen := level } }
            c Reason.a00.alone))) ∧
   (∀ (s : State) (src : DirSource) (body w : List Code) (n : Option (List Code)), s.Brings src body →
      readFields body = some (w :: n.toList) → (fieldValue w = 1 ∨ fieldValue w = 2) →
      let p := if fieldValue w = 1 then { s.working with operatorNumber := n } else { s.working with supervisorNumber := n }
      let v : State := { s with profile := { s.profile with working := p } }
      let c := s.call .number src body
      (s.access.frozen = true → Does (.accessNumber src body) s (s.answer c Reason.n02.alone)) ∧
      (s.access.frozen = false → fieldValue w = 1 → n.isSome = true → s.working.operatorNumber = none →
        Does (.accessNumber src body) s
          (State.answer
            { v with
              access :=
                if fromLine src = true then { s.access with lineOpen := .operator } else { s.access with localOpen := .operator } }
            c Reason.a00.alone)) ∧
      (s.access.frozen = false → (fieldValue w = 2 ∨ n = none ∨ s.working.operatorNumber.isSome = true) →
        s.passesOpen src false = true → Does (.accessNumber src body) s (v.answer c Reason.a00.alone)) ∧
      (s.access.frozen = false → (fieldValue w = 2 ∨ n = none ∨ s.working.operatorNumber.isSome = true) →
        s.passesOpen src false = false → Does (.accessNumber src body) s (s.answer c Reason.n01.alone))) ∧
   (∀ (s : State) (src : DirSource) (body : List Code) (fs : List (List Code)), s.Brings src body → readFields body = some fs →
      ((∀ w n, fs = [w, n] → fieldValue w ≠ 1 ∧ fieldValue w ≠ 2) →
        Does (.openSource src body) s (s.answer (s.call .openSrc src body) Reason.n06.alone)) ∧
      ((∀ w rest, fs = w :: rest → rest.length ≤ 1 → fieldValue w ≠ 1 ∧ fieldValue w ≠ 2) →
        Does (.accessNumber src body) s (s.answer (s.call .number src body) Reason.n06.alone))) ∧
   (∀ (s : State) (src : DirSource),
      let o := if fromLine src = true then s.access.lineOpen else s.access.localOpen
      (s.working.operatorNumber = none → ∀ isW, s.passesOpen src isW = true) ∧
      (s.working.operatorNumber.isSome = true →
        (o = .closed → ∀ isW, s.passesOpen src isW = false) ∧
        (o ≠ .closed → s.working.strict = false → ∀ isW, s.passesOpen src isW = true) ∧
        (o = .operator → s.working.strict = true → s.passesOpen src true = false ∧ s.passesOpen src false = true) ∧
        (o = .supervisor → s.working.strict = true → s.passesOpen src true = true ∧ s.passesOpen src false = false)) ∧
      ∀ isW, s.openCheck src isW =
        if s.passesOpen src isW = false then some .n01 else if isW = true ∧ s.access.frozen = true then some .n02 else none)

/-- P (sections 5.3, 9.5) and the claims themselves: a claim takes a free punch with its leader owed, waits for one that is held, counts to
15 and is refused with N10 there; a release at count 1 drains a holder and frees a waiter, and is refused with N11 without a claim. A release to
count 0 at once, of TAPE and of the leaving of CONNECTED, does the same at any count. The records that wait with a freed waiter have their punch
status made ABANDONED and are examined, in the arrival list's order (log entry 8). Nothing else changes: that a trailer which a claim interrupts
leaves the punch shift state as it was is the model's reading (log entry 28). -/
def Obligations.ClaimsAndReleases : Prop :=
  (∀ (s : State) (src : DirSource) (body : List Code) (v : Nat), s.Brings src body → FieldsAre body [v] → v ≤ 1 →
    fromLine src = true →
    Does (.punchClaim src body) s
      (if v = 1 then (s.claimRequest .line).1.answer (s.call .punch src body) (s.claimRequest .line).2.alone
        else (s.releaseRequest .line).1.answer (s.call .punch src body) (s.releaseRequest .line).2.alone)) ∧
  (∀ (s : State) (x : PunchSource),
    let b := s.punch
    let held (c : Claim) : State := { s with punch := b.setClaim x c }
    ((b.claim x).state = .idle →
      (b.holder = none →
        s.claimRequest x = ({ s with punch := { b.setClaim x ⟨.holding, 1⟩ with leaderOwed := true } }, .a00)) ∧
      (b.holder ≠ none → s.claimRequest x = (held ⟨.waiting, 1⟩, .a00))) ∧
    ((b.claim x).state = .draining →
      (b.piece ≠ .trailer → s.claimRequest x = (held ⟨.holding, 1⟩, .a00)) ∧
      (b.piece = .trailer →
        s.claimRequest x = ({ s with punch := { b.setClaim x ⟨.holding, 1⟩ with piece := .none, rows := [] } }, .a00))) ∧
    ((b.claim x).state = .idle ∨ (b.claim x).state = .draining → s.releaseRequest x = (s, .n11) ∧ s.releaseAll x = s) ∧
    ((b.claim x).state = .holding ∨ (b.claim x).state = .waiting →
      ((b.claim x).count < 15 → s.claimRequest x = (held ⟨(b.claim x).state, (b.claim x).count + 1⟩, .a00)) ∧
      (15 ≤ (b.claim x).count → s.claimRequest x = (s, .n10)) ∧
      (1 < (b.claim x).count → s.releaseRequest x = (held ⟨(b.claim x).state, (b.claim x).count - 1⟩, .a00)) ∧
      ((b.claim x).count ≤ 1 → s.releaseRequest x = (s.releaseAll x, .a00))) ∧
    ((b.claim x).state = .holding → s.releaseAll x = held ⟨.draining, 0⟩) ∧
    ((b.claim x).state = .waiting → s.releaseAll x = (held ⟨.idle, 0⟩).abandonMarked x)) ∧
  (∀ (s : State) (c : Claim),
    s.punch.setClaim .line c = { s.punch with lineClaim := c } ∧
    s.punch.setClaim .keyboard c = { s.punch with keyboardClaim := c } ∧
    s.punch.setClaim .copy c = { s.punch with copyClaim := c } ∧
    s.punch.claim .line = s.punch.lineClaim ∧ s.punch.claim .keyboard = s.punch.keyboardClaim ∧
    s.punch.claim .copy = s.punch.copyClaim) ∧
  (∀ (s : State) (x : PunchSource), s.store.dir.length = 32 →
    let v := s.abandonMarked x
    (∀ e ∈ s.store.arrival, 1 ≤ e → e ≤ 32 → (s.record e).punch.status = .pending → (s.record e).punchSource = x →
      v.record e = .empty ∨
        ((v.record e).punch = { (s.record e).punch with status := .abandoned } ∧ (v.record e).state = (s.record e).state)) ∧
    (∀ e, 1 ≤ e → e ≤ 32 → ((s.record e).punch.status ≠ .pending ∨ (s.record e).punchSource ≠ x) → v.record e = s.record e) ∧
    v = { s with store := v.store, dir := { s.dir with queue := v.dir.queue } } ∧ v.store.cells = s.store.cells ∧
    v.store.openStack = s.store.openStack) ∧
  ∀ (s : State) (x : PunchSource),
    s.abandonMarked x =
      s.store.arrival.foldl
        (fun u e =>
          if (u.record e).punch.status = .pending ∧ (u.record e).punchSource = x then
            State.examine (u.setRecord e { u.record e with punch := { (u.record e).punch with status := .abandoned } }) e
          else u) s

/-- L (section 9.6): from the line a LISTING entry of the whole arrival list, N08 while one is queued; from the keyboard one notice of the
whole, N12 where it does not fit, and that the listing itself then raises no lost-notice count is the model's reading (log entry 30). A captured entry's line is composed as it stands when the line before it has been sent, GONE where the record
has been freed; after the last line the entry leaves the queue, with its deferred action (sections 7.5, 9.3, 12.3). -/
def Obligations.ListingsOfTheDirectory : Prop :=
  (∀ (s : State) (src : DirSource), s.Brings src [] → s.openCheck src false = none →
    (fromLine src = true → s.dir.queue.any (fun q => q.kind == .listing) = false →
      Does (.listDirectory src []) s
        { s with
          dir :=
            { s.dir with
              queue :=
                s.dir.queue ++
                  [⟨.listing, Reply.lineText s.working ⟨.a00, [number s.store.arrival.length]⟩, .none,
                    s.store.arrival.map fun e => ⟨e, false⟩, 0⟩] } }) ∧
    (fromLine src = true → s.dir.queue.any (fun q => q.kind == .listing) = true →
      Does (.listDirectory src []) s (s.answer (s.call .list src []) Reason.n08.alone)) ∧
    (fromLine src = false →
      let text := [0o114#7, 0o015#7, 0o012#7] ++ Reason.a00.text ++ [0o040#7] ++ number s.store.arrival.length ++
        [0o015#7, 0o012#7] ++ (s.store.arrival.map fun e => listingLine e (s.record e)).flatten
      (s.noticeFits text = true → Does (.listDirectory src []) s (s.notice text)) ∧
      (s.noticeFits text = false → Does (.listDirectory src []) s (s.answer (s.call .list src []) Reason.n12.alone)))) ∧
  (∀ (e : Nat) (r : Record), r.state ≠ .empty →
    listingLine e r =
      [digit (e / 10), digit e, 0o040#7] ++
        (match r.serial with
          | none => [0o055#7, 0o055#7, 0o055#7, 0o055#7]
          | some n => [digit (n / 1000), digit (n / 100), digit (n / 10), digit n]) ++
        [0o040#7, digit r.precedence, 0o040#7, match r.origin with | .line => 0o114#7 | .keyboard => 0o113#7 | .station => 0o123#7] ++
        [0o040#7] ++ number r.length ++
        [0o040#7,
          match r.state with
            | .receiving => 0o122#7 | .suspended => 0o123#7 | .composing => 0o127#7 | .complete => 0o103#7 | .cut => 0o130#7
            | .empty => 0o000#7] ++
        [0o040#7] ++ number r.doubtful ++ [0o040#7] ++ number r.mutilated ++
        [0o040#7, if r.implicit = true then 0o111#7 else 0o055#7, if r.retained = true then 0o122#7 else 0o055#7,
          if r.deletePending = true then 0o120#7 else 0o055#7, if r.duplicate = true then 0o104#7 else 0o055#7,
          if r.overflowed = true then 0o117#7 else 0o055#7, 0o015#7, 0o012#7] ∧
    goneLine e = [digit (e / 10), digit e, 0o040#7, 0o107#7, 0o117#7, 0o116#7, 0o105#7, 0o015#7, 0o012#7]) ∧
  (∀ (s : State) (h : ReplyEntry) (rest : List ReplyEntry), s.dir.queue = h :: rest →
    let v : State := { s with tx := { s.tx with reply := none } }
    (∀ c, h.captured[h.sent]? = some c →
      s.replySent =
        { v with
          dir :=
            { s.dir with
              queue :=
                { h with
                  text := if c.gone = true then goneLine c.entry else listingLine c.entry (s.record c.entry)
                  sent := h.sent + 1 } :: rest } }) ∧
    (h.captured[h.sent]? = none →
      let w : State := { v with dir := { s.dir with queue := rest } }
      s.replySent =
        match h.deferred with | .none => w | .clear => w.clearRequest | .reset => w.stationResetEffect))

/-- R: accepted, the record's send is PENDING from its first cell and marked, and the retrieval item begins with CR, LF. G, from the
keyboard: accepted, the copy is PENDING from its first cell, last on the copy list, and COPY is claimed. N07 for an EMPTY or delete-pending
record; N08 for one owed already, for an open record or a retrieval in progress (R), and with eight on the list (G) (sections 3.4, 5.4,
7.7, 9.7). That N08 comes first during a retrieval, for an EMPTY or delete-pending entry too, is read from section 7.7 (log entry 36). -/
def Obligations.RetrievalsAndCopiesBegin : Prop :=
   (∀ (s : State) (src : DirSource) (body : List Code) (e : Nat), s.Brings src body → fromLine src = true →
      s.openCheck src false = none → FieldsAre body [e] → 1 ≤ e → e ≤ 32 →
      let r := s.record e
      let c := s.call .retrieve src body
      ((r.state = .complete ∨ r.state = .cut) → r.deletePending = false → r.send.status ≠ .pending → s.tx.retrieval = none →
        Does (.retrieveEntry src body) s
          (State.answer
            { s.setRecord e { r with send := ⟨.pending, 0, true⟩ } with
              tx :=
                { s.tx with
                  retrieval :=
                    some ⟨some e, r.serial.isSome, .crlf, [0o015#7, 0o012#7],
                      if r.serial.isSome = true then [.heading, .cells, .endRows] else [.cells]⟩ } }
            c Reason.a00.alone)) ∧
      (s.tx.retrieval.isSome = true → Does (.retrieveEntry src body) s (s.answer c Reason.n08.alone)) ∧
      (s.tx.retrieval = none → (r.state = .empty ∨ r.deletePending = true) →
        Does (.retrieveEntry src body) s (s.answer c Reason.n07.alone)) ∧
      (r.state ≠ .empty → r.deletePending = false → (r.state.isOpen = true ∨ r.send.status = .pending) →
        Does (.retrieveEntry src body) s (s.answer c Reason.n08.alone))) ∧
   (∀ (s : State) (body : List Code) (e : Nat), s.Brings .keyboard body → s.openCheck .keyboard false = none →
      FieldsAre body [e] → 1 ≤ e → e ≤ 32 →
      let r := s.record e
      let c := s.call .copy .keyboard body
      ((r.state = .empty ∨ r.deletePending = true) → Does (.copyEntryToTape .keyboard body) s (s.answer c Reason.n07.alone)) ∧
      (r.state ≠ .empty → r.deletePending = false → (r.punch.status = .pending ∨ 8 ≤ s.punch.copyList.length) →
        Does (.copyEntryToTape .keyboard body) s (s.answer c Reason.n08.alone)) ∧
      (r.state ≠ .empty → r.deletePending = false → r.punch.status ≠ .pending → s.punch.copyList.length < 8 →
        let v := s.setRecord e { r with punch := ⟨.pending, 0, true⟩, punchSource := .copy }
        let w : State := { v with punch := { s.punch with copyList := s.punch.copyList ++ [e] } }
        Does (.copyEntryToTape .keyboard body) s ((w.claimRequest .copy).1.answer c Reason.a00.alone)))

/-- X (sections 3.5, 9.7): N07 for an EMPTY entry, N08 for an open record, A00 else; a closed record is then freed, or stands delete pending,
not retained, each PENDING output ABANDONED and the others as they were; a context beneath the top is removed and an entry of the copy list leaves it,
with COPY released, at once; one delete pending already is left as it is (sections 4.8, 5.4). The disposition of a record after a change to
it, and its freeing: its blocks to the tail of the free-block list, its number off the arrival list, its entry EMPTY, and gone in the listings
still to be sent (sections 3.5, 4.5, 9.6). -/
def Obligations.DeletionsLetRecordsGo : Prop :=
  (∀ (s : State) (src : DirSource) (body : List Code) (e : Nat), s.Brings src body → s.openCheck src false = none →
    FieldsAre body [e] → 1 ≤ e → e ≤ 32 →
    ((s.record e).state = .empty →
      Does (.deleteEntry src body) s (s.answer (s.call .delete src body) Reason.n07.alone)) ∧
    ((s.record e).state.isOpen = true →
      Does (.deleteEntry src body) s (s.answer (s.call .delete src body) Reason.n08.alone)) ∧
    ((s.record e).state.isClosed = true →
      Does (.deleteEntry src body) s ((s.deleteRecord e).answer (s.call .delete src body) Reason.a00.alone))) ∧
  (∀ (s : State) (e : Nat), s.store.dir.length = 32 → 1 ≤ e → e ≤ 32 → (s.record e).state.isClosed = true →
    (s.record e).deletePending = false →
    (s.deleteRecord e).record e = .empty ∨
      (((s.deleteRecord e).record e).deletePending = true ∧ ((s.deleteRecord e).record e).retained = false ∧
        ((s.deleteRecord e).record e).print.status ≠ .pending ∧ ((s.deleteRecord e).record e).punch.status ≠ .pending ∧
        ((s.deleteRecord e).record e).send.status ≠ .pending)) ∧
  (∀ (s : State) (e : Nat), (s.record e).state.isClosed = true → (s.record e).deletePending = true → s.deleteRecord e = s) ∧
  (∀ (s : State) (e : Nat), s.StoreAndPrinterSound → s.ClaimsSound → s.InUse e → (s.record e).state.isClosed = true →
    (s.record e).deletePending = false →
    let v := s.deleteRecord e
    let c := s.punch.copyClaim
    v.record e = (s.deletedAs e (s.record e)).examined ∧
    (∀ x, s.InUse x → x ≠ e →
      ((s.record x).punch.status = .pending → (s.record x).punchSource = .copy → x ∈ s.punch.copyList) →
      v.record x = s.record x) ∧
    v.store =
      { s.store with
        free := v.store.free, dir := v.store.dir
        arrival := s.store.arrival.filter fun x => (v.record x).state != .empty } ∧
    v.print =
      { s.print with
        contexts := s.print.contexts.take 1 ++ (s.print.contexts.drop 1).filter fun x => x.entry != e } ∧
    v.punch =
      (if e ∈ s.punch.copyList then
        { s.punch with
          copyList := s.punch.copyList.erase e
          copyClaim :=
            if 1 < c.count then ⟨c.state, c.count - 1⟩ else if c.state = .waiting then ⟨.idle, 0⟩ else ⟨.draining, 0⟩ }
      else s.punch) ∧
    v = { s with store := v.store, print := v.print, punch := v.punch, dir := { s.dir with queue := v.dir.queue } }) ∧
  (∀ (s : State) (e : Nat),
    let r := s.record e
    let r' : Record :=
      if r.print.status = .pending ∧ r.print.mark = false ∧ (r.state = .complete ∨ r.state = .cut) ∧ r.print.cursor = r.length then
        { r with print := { r.print with status := .done } }
      else r
    s.examine e =
      if (r'.state = .complete ∨ r'.state = .cut) ∧ r'.retained = false ∧
          (r'.print.status ≠ .pending ∧ r'.punch.status ≠ .pending ∧ r'.send.status ≠ .pending) ∧
          r'.print.mark = false ∧ r'.punch.mark = false ∧ r'.send.mark = false then s.freeRecord e
      else s.setRecord e r') ∧
  (∀ (s : State) (e : Nat),
    s.freeRecord e =
      { s with
        store :=
          { s.store with
            free := s.store.free ++ (s.record e).blocks, arrival := s.store.arrival.erase e, dir := s.store.dir.set (e - 1) .empty }
        dir :=
          { s.dir with
            queue :=
              s.dir.queue.map fun q =>
                { q with captured := q.captured.mapIdx fun i c => if q.sent ≤ i ∧ c.entry = e then { c with gone := true } else c } } })

/-- W (sections 3.5, 9.8, 10.7): the store erased and the answer given after it; every entry of the stack is VOID, in its place; every record
is freed, or closed and delete pending, not retained and with each PENDING output ABANDONED, its open ones being those on the stack and the COMPOSING
one; nothing else changes but the contexts beneath the top, the copy list, COPY, released once for each entry, and the close timer (sections 4.8, 5.4, 6.4); under STRICT
the supervisor's W clears the operator number, and otherwise the access numbers stand; FROZEN refuses it with N02. -/
def Obligations.ErasesVoidTheStack : Prop :=
  (∀ (s : State) (src : DirSource), s.Brings src [] → s.openCheck src true = none →
    Does (.eraseStore src []) s ((s.erase.eraseAccess src).answer (s.call .erase src []) Reason.a00.alone)) ∧
  (∀ (s : State) (src : DirSource), s.Brings src [] → s.passesOpen src true = true → s.access.frozen = true →
    Does (.eraseStore src []) s (s.answer (s.call .erase src []) Reason.n02.alone)) ∧
  (∀ s : State, s.erase.store.openStack = s.store.openStack.map (fun t => ⟨t.precedence, none⟩)) ∧
  (∀ (s : State) (e : Nat), s.store.dir.length = 32 → e ∈ s.store.arrival → 1 ≤ e → e ≤ 32 →
    ((s.record e).state.isClosed = true ∨ (∃ t ∈ s.store.openStack, t.entry = some e) ∨ s.composing = some e) →
    ((s.record e).deletePending = true →
      (s.record e).retained = false ∧ (s.record e).print.status ≠ .pending ∧ (s.record e).punch.status ≠ .pending ∧
        (s.record e).send.status ≠ .pending) →
    (s.erase.record e).state = .empty ∨
      ((s.erase.record e).state.isClosed = true ∧ (s.erase.record e).deletePending = true ∧ (s.erase.record e).retained = false ∧
        (s.erase.record e).print.status ≠ .pending ∧ (s.erase.record e).punch.status ≠ .pending ∧
        (s.erase.record e).send.status ≠ .pending)) ∧
  (∀ s : State, s.StoreAndPrinterSound → s.ClaimsSound →
    let v := s.erase
    (∀ e, s.InUse e → ((s.record e).deletePending = true → (s.record e).state.isClosed = true ∧ (s.record e).punch.status ≠ .pending) →
      let r := s.record e
      let closed : Record :=
        if r.state.isOpen = true then
          Record.examined { r with state := if r.state = .composing ∨ r.implicit = true then .complete else .cut }
        else r
      v.record e =
        if closed.state = .empty ∨ closed.deletePending = true then closed else (s.deletedAs e closed).examined) ∧
    v.print =
      { s.print with
        contexts :=
          s.print.contexts.take 1 ++ (s.print.contexts.drop 1).filter fun x => (s.record x.entry).deletePending } ∧
    v.punch =
      { s.punch with
        copyList := s.punch.copyList.filter fun e => (s.record e).deletePending, copyClaim := v.punch.copyClaim } ∧
    (let c := s.punch.copyClaim
     (∀ e ∈ s.punch.copyList, (s.record e).deletePending = false) →
      v.punch.copyClaim =
        if c.count = 0 then c else if c.state = .waiting then ⟨.idle, 0⟩ else ⟨.draining, 0⟩) ∧
    v =
      { s with
        store :=
          { s.store with
            free := v.store.free, dir := v.store.dir, arrival := v.store.arrival, openStack := v.store.openStack }
        print := v.print, punch := v.punch, kb := { s.kb with closeTimer := none }
        dir := { s.dir with queue := v.dir.queue } }) ∧
  (∀ (s : State) (src : DirSource),
    (s.working.operatorNumber.isSome = true → s.working.strict = true → s.openState src = .supervisor →
      s.eraseAccess src =
        { s with profile := { s.profile with working := { s.working with operatorNumber := none } } }) ∧
    ((s.working.operatorNumber = none ∨ s.working.strict = false ∨ s.openState src ≠ .supervisor) → s.eraseAccess src = s))

/-- A: a parameter set to the value brought within its range, answered A00 or A09 with the value set, N06 where the active range would be
inverted. B: a table entry loaded whole or refused whole with N06; the key table holds no LEAD as a character, the answerback no WRU and no
LEAD, and the call code is never ZZ (sections 1.5, 1.9, 9.9). The ranges of the parameters, a value in a gap rising to the gap's upper end (section
11.3). What a change acts on at once: the carriage and the form for line and form length (section 4.2), and the line idle timer for parameter 11
while CONNECTED on a switched line (section 8.4). -/
def Obligations.ParametersAndTableLoads : Prop :=
   ((∀ (s : State) (src : DirSource) (body : List Code) (n v : Nat), s.Brings src body → s.openCheck src false = none →
      FieldsAre body [n, v] → 1 ≤ n → n ≤ 34 →
      let p := s.working.setPar n (clampPar n v)
      (¬((n = 31 ∨ n = 32) ∧ p.activeHigh < p.activeLow) →
        Does (.setParameter src body) s
          ((s.changeWorking p).answer (s.call .setPar src body)
            (if clampPar n v = v then Reason.a00.alone else ⟨.a09, [number (clampPar n v)]⟩))) ∧
      ((n = 31 ∨ n = 32) → p.activeHigh < p.activeLow →
        Does (.setParameter src body) s (s.answer (s.call .setPar src body) Reason.n06.alone))) ∧
    (∀ (s : State) (p : Profile),
      (s.changeWorking p).working = p ∧
      (p.lineLength = s.working.lineLength → p.formLength = s.working.formLength → p.lineIdleS = s.working.lineIdleS →
        s.changeWorking p = { s with profile := { s.profile with working := p } }) ∧
      s.changeWorking p =
        { s with
          profile := { s.profile with working := p }
          print :=
            if p.lineLength = s.working.lineLength ∧ p.formLength = s.working.formLength then s.print
            else
              { s.print with
                column := min s.print.column (p.lineLength + 1)
                pageLine := if p.formLength = 0 then 1 else min s.print.pageLine p.formLength }
          conn :=
            if p.lineIdleS ≠ s.working.lineIdleS ∧ s.conn.state = .connected ∧ s.conn.lineType = .switched then
              { s.conn with lineIdle := if p.lineIdleS = 0 then none else some (p.lineIdleS * 1000) }
            else s.conn }) ∧
    (∀ v : Nat,
      (∀ n ∈ [2, 6, 7, 8, 9, 10, 12, 15, 17, 18, 22, 30, 34], clampPar n v = min v 1) ∧
      (∀ q ∈ [(1, 0, 5), (3, 8, 30), (4, 8, 48), (5, 5, 50), (13, 20, 132), (14, 0, 20), (19, 0, 64), (20, 0, 63), (21, 0, 3),
          (23, 5, 255), (24, 0, 255), (25, 1, 50), (26, 0, 255), (27, 100, 65535), (28, 0, 4095), (29, 0, 31), (31, 32, 127),
          (32, 32, 127), (33, 32, 127)],
        clampPar q.1 v = max q.2.1 (min v q.2.2)) ∧
      clampPar 11 v = (if v = 0 then 0 else max 10 (min v 600)) ∧ clampPar 16 v = (if v = 0 then 0 else max 12 (min v 127))) ∧
    (∀ (s : State) (src : DirSource) (body : List Code) (vs : List Nat), s.Brings src body → s.openCheck src false = none →
      FieldsAre body vs →
      (∀ p, s.working.load vs = some p →
        Does (.loadTableEntry src body) s
          (State.answer { s with profile := { s.profile with working := p } } (s.call .load src body) Reason.a00.alone)) ∧
      (s.working.load vs = none → Does (.loadTableEntry src body) s (s.answer (s.call .load src body) Reason.n06.alone)))) ∧
   (∀ (p q : Profile) (i : Nat),
      (∀ c, p.load [1, i, 1, c] = some q ↔ i ≤ 63 ∧ c ≤ 127 ∧ q = { p with rxMap := p.rxMap.set i (.character (BitVec.ofNat 7 c)) }) ∧
      (p.load [1, i, 0] = some q ↔ i ≤ 63 ∧ q = { p with rxMap := p.rxMap.set i .ignore }) ∧
      (p.load [1, i, 2] = some q ↔ i ≤ 63 ∧ q = { p with rxMap := p.rxMap.set i .shiftLetters }) ∧
      (p.load [1, i, 3] = some q ↔ i ≤ 63 ∧ q = { p with rxMap := p.rxMap.set i .shiftFigures }) ∧
      (∀ lc tp,
        let loaded (as : SendAs) : Profile := { p with codeTable := p.codeTable.set i ⟨as, if tp = 64 then none else some tp⟩ }
        (p.load [2, i, 0, lc, tp] = some q ↔ i ≤ 127 ∧ lc = 0 ∧ tp ≤ 64 ∧ q = loaded .none) ∧
        (p.load [2, i, 1, lc, tp] = some q ↔ i ≤ 127 ∧ lc ≤ 31 ∧ tp ≤ 64 ∧ q = loaded (.letters (BitVec.ofNat 5 lc))) ∧
        (p.load [2, i, 2, lc, tp] = some q ↔ i ≤ 127 ∧ lc ≤ 31 ∧ tp ≤ 64 ∧ q = loaded (.figures (BitVec.ofNat 5 lc))) ∧
        (p.load [2, i, 3, lc, tp] = some q ↔ i ≤ 127 ∧ lc ≤ 31 ∧ tp ≤ 64 ∧ q = loaded (.both (BitVec.ofNat 5 lc)))) ∧
      (∀ v, p.load [3, i, 0, v] = some q ↔ i ≤ 127 ∧ v = 0 ∧ q = { p with keyTable := p.keyTable.set i .none }) ∧
      (∀ c, p.load [3, i, 1, c] = some q ↔ i ≤ 127 ∧ c ≤ 127 ∧ c ≠ 27 ∧
        q = { p with keyTable := p.keyTable.set i (.character (BitVec.ofNat 7 c)) }) ∧
      (∀ n, p.load [3, i, 2, n] = some q ↔ i ≤ 127 ∧ 1 ≤ n ∧ n ≤ 16 ∧
        q = { p with keyTable := p.keyTable.set i (.function (KeyFn.ofNumber n)) }) ∧
      (∀ c, 1 ≤ i → (p.load [4, i, c] = some q ↔ i ≤ 20 ∧ c ≤ 127 ∧ c ≠ 5 ∧ c ≠ 27 ∧
        q = { p with answerbackCodes := p.answerbackCodes.set (i - 1) (BitVec.ofNat 7 c) })) ∧
      (∀ n, p.load [4, 0, n] = some q ↔ n ≤ 20 ∧ q = { p with answerbackLen := n }) ∧
      (∀ a b, p.load [5, 0, a, b] = some q ↔ (65 ≤ a ∧ a ≤ 90) ∧ (65 ≤ b ∧ b ≤ 90) ∧ ¬(a = 90 ∧ b = 90) ∧
        q = { p with callCode := some (BitVec.ofNat 7 a, BitVec.ofNat 7 b) }) ∧
      (p.load [5, 0] = some q ↔ q = { p with callCode := none })) ∧
   ((List.range 16).map (fun n => KeyFn.ofNumber (n + 1)) =
      [.lead, .hereIs, .brk, .lineLocal, .tape, .feed, .newTape, .endFn, .attend, .unattend, .answer, .seize, .clearLine,
        .clearFault, .repeatFn, .shiftFn]) ∧
   (∀ (p : Profile) (t i : Nat) (vs : List Nat),
      p.load [] = none ∧ p.load [t] = none ∧ (t < 1 ∨ 5 < t → p.load (t :: i :: vs) = none) ∧
      (vs.length ≠ 1 → vs.length ≠ 2 → p.load (1 :: i :: vs) = none) ∧
      (∀ k, k = 1 ∨ 3 < k → p.load [1, i, k] = none) ∧ (∀ k c, k ≠ 1 → p.load [1, i, k, c] = none) ∧
      (vs.length ≠ 3 → p.load (2 :: i :: vs) = none) ∧ (∀ k lc tp, 3 < k → p.load [2, i, k, lc, tp] = none) ∧
      (vs.length ≠ 2 → p.load (3 :: i :: vs) = none) ∧ (∀ k v, 2 < k → p.load [3, i, k, v] = none) ∧
      (vs.length ≠ 1 → p.load (4 :: i :: vs) = none) ∧
      (i ≠ 0 ∨ (vs.length ≠ 0 ∧ vs.length ≠ 2) → p.load (5 :: i :: vs) = none))

/-- V and the end of its commit (sections 9.9, 11.5): the working copy as it stands is the snapshot, written with the check word composed for
it, N08 while one is writing; read back equal, the image is what was written, the fault clears and the V is answered A00; not equal, the fault is
set and it is answered N14. An image passes its check exactly when the sum of its bytes and its check word come to 65535 modulo 65536, as they do
under the word composed for them (section 11.2); what it then gives to a start-up or a reload (section 11.4). The bytes that hold a profile are free
values (log entry 34); so are the bytes and the check word of an image that was cut short or read back differently, and the profile they hold,
which is taken to be well formed (log entry 5). -/
def Obligations.CommitsAreWrittenAndReadBack : Prop :=
  (∀ (s : State) (src : DirSource), s.Brings src [] → s.openCheck src false = none →
    (s.profile.commit = none → fromLine src = true →
      Does (.commitProfile src []) s
        { s with
          profile := { s.profile with commit := some ⟨.written s.working, true⟩ }
          dir := { s.dir with queue := s.dir.queue ++ [⟨.reserved, [], .none, [], 0⟩] } }) ∧
    (s.profile.commit = none → fromLine src = false →
      Does (.commitProfile src []) s { s with profile := { s.profile with commit := some ⟨.written s.working, false⟩ } }) ∧
    (s.profile.commit.isSome = true →
      Does (.commitProfile src []) s (s.answer (s.call .commit src []) Reason.n08.alone))) ∧
  (∀ (s : State) (written : Image) (line same : Bool), s.powered = true → s.profile.commit = some ⟨written, line⟩ →
    ∃ image spoilt,
      (same = true → image = written ∧ spoilt = s.spoilt) ∧ (same = false → image = .spoilt s.spoilt ∧ spoilt = s.spoilt + 1) ∧
      (let v : State :=
        { s with
          spoilt := spoilt
          profile := { s.profile with image := image, commit := none, fault := !same } }
      let r : Reason := if same = true then .a00 else .n14
      Does (.commitCompletion same) s
        (if line = true then
          { v with
            dir :=
              { s.dir with
                queue :=
                  s.dir.queue.map fun q =>
                    if q.kind = .reserved then ⟨.lineReply, Reply.lineText s.working r.alone, .none, [], 0⟩ else q } }
        else v.notice (State.noticeText [0o126#7] r.alone [])))) ∧
  (∀ bs : List (BitVec 8),
    checkPasses bs (checkWord bs) = true ∧ (checkWord bs).toNat = 65535 - (bs.map (·.toNat)).sum % 65536 ∧
    (∀ w : BitVec 16, checkPasses bs w = true ↔ ((bs.map (·.toNat)).sum + w.toNat) % 65536 = 65535) ∧
    ∀ w : BitVec 16, checkPasses bs w = true ↔ w = checkWord bs) ∧
  (∀ p : Profile,
    Image.written p = ⟨p, Config.imageBytes p, checkWord (Config.imageBytes p)⟩ ∧ (Image.written p).passes = true) ∧
  (∀ n : Nat,
    (Image.spoilt n).bytes = (Config.spoiltBytes n).1 ∧ (Image.spoilt n).check = (Config.spoiltBytes n).2 ∧
    (∀ p, Config.spoiltProfile n = some p → p.wf = true → (Image.spoilt n).parts = p) ∧ (Image.spoilt n).parts.wf = true) ∧
  (∀ i : Image,
    (i.passes = true ↔ ((i.bytes.map (·.toNat)).sum + i.check.toNat) % 65536 = 65535) ∧
    (i.passes = true → i.loaded = i.parts) ∧ (i.passes = false → i.loaded = .factory))

/-- Y and H, and their deferred actions (sections 9.3, 9.10): from the line an A00 whose entry carries the action, made when it leaves the
queue; from the keyboard the action within the execution. That the commands DEFERRED_RESET and DEFERRED_CLEAR are the moment at which the head
leaves the queue, with the reply in progress dropped and the unit in flight released, is the model's (log entry 13). -/
def Obligations.ResetsAndHangUps : Prop :=
  (∀ (s : State) (src : DirSource), s.Brings src [] → s.openCheck src false = none →
    Does (.stationReset src []) s
      (if fromLine src = true then s.answerWith (s.call .reset src []) Reason.a00.alone .reset
        else (s.answer (s.call .reset src []) Reason.a00.alone).stationResetEffect)) ∧
  (∀ (s : State) (src : DirSource), s.Brings src [] →
    Does (.hangUp src []) s
      (if fromLine src = true then s.answerWith (s.call .hangUp src []) Reason.a00.alone .clear
        else s.clearRequest.answer (s.call .hangUp src []) Reason.a00.alone)) ∧
  (∀ (s : State) (h : ReplyEntry) (rest : List ReplyEntry), s.powered = true → s.dir.queue = h :: rest →
    let v : State :=
      { s with
        tx := { s.tx with reply := none, inFlight := s.tx.inFlight.map State.releaseReply }
        dir := { s.dir with queue := rest } }
    (h.deferred = .reset → Does .deferredReset s v.stationResetEffect) ∧
    (h.deferred = .clear → Does .deferredClear s v.clearRequest))

/-- What a station reset sets and what it keeps (section 0.7 and the reset sections of Chapters 2 to 11). Each record: an open one is closed,
the COMPOSING and the implicit ones COMPLETE and the rest CUT; PENDING punches and sends are ABANDONED; the marks of the print contexts, the
punch and the send items are cleared; the cursors and what else it holds are kept; and one that is then owed nothing and not retained is freed.
Each block is written out whole, so that what is not named is kept: the counters, the timers, FAULT, TAPE OUT, the bell flag, the repeat state,
the connection. The reload acts at once on the carriage, the form and the line idle timer where their parameters change (sections 4.2, 8.4). That the
match result is then NONE is the model's choice (log entry 40); that a NEW TAPE waiting for its row stays due (log entry 15) and that a unit in
flight completes whole without its item (log entry 27) are its readings. -/
def Obligations.StationResetSetsAndKeeps : Prop :=
  (∀ (s : State) (e : Nat), s.StoreAndPrinterSound → s.InUse e →
    let r := s.record e
    let closed : RecState :=
      if r.state.isClosed = true then r.state else if r.state = .composing ∨ r.implicit = true then .complete else .cut
    let printMark : Bool := r.print.mark && !(s.print.contexts.map (·.entry)).contains e
    let sendMark : Bool :=
      r.send.mark && !((s.tx.retrieval.bind (·.entry)) == some e) && !(s.tx.keyboardText == some e)
    let unprinted : Prop := r.print.cursor < r.length ∨ printMark = true
    let r' : Record :=
      { r with
        state := closed
        print := ⟨if r.print.status = .pending ∧ ¬unprinted then .done else r.print.status, r.print.cursor, printMark⟩
        punch := ⟨if r.punch.status = .pending then .abandoned else r.punch.status, r.punch.cursor, false⟩
        send := ⟨if r.send.status = .pending then .abandoned else r.send.status, r.send.cursor, sendMark⟩ }
    s.stationResetEffect.record e =
      if r'.print.status ≠ .pending ∧ r.retained = false ∧ printMark = false ∧ sendMark = false then .empty else r') ∧
  ∀ s : State,
    let t := s.stationResetEffect
    let p := t.working
    t.store =
      { s.store with
        free := t.store.free, dir := t.store.dir, arrival := t.store.arrival, openStack := [], linePrint := true } ∧
    t.print =
      { s.print with
        contexts := [], ops := [], codes := [], kind := .none, held := false, failedOp := none
        column :=
          if p.lineLength ≠ s.working.lineLength ∨ p.formLength ≠ s.working.formLength then
            min s.print.column (p.lineLength + 1)
          else s.print.column
        pageLine :=
          if p.lineLength ≠ s.working.lineLength ∨ p.formLength ≠ s.working.formLength then
            (if p.formLength = 0 then 1 else min s.print.pageLine p.formLength)
          else s.print.pageLine } ∧
    t.punch =
      { s.punch with
        lineClaim := ⟨.idle, 0⟩, keyboardClaim := ⟨.idle, 0⟩, copyClaim := ⟨.idle, 0⟩, copyList := [], rows := []
        codes := [], shiftAfter := none, piece := .none, current := none, framed := false, headingDone := false
        endDone := false, shift := .unknown, failedRow := none, feedRows := 0, leaderOwed := false, restart := false } ∧
    t.kb = { s.kb with entryFlag := false, closeTimer := none } ∧
    t.tx = { s.tx.itemsDropped with breakPending := false } ∧
    t.conn =
      { s.conn with
        selected := false
        lineIdle :=
          if p.lineIdleS ≠ s.working.lineIdleS ∧ s.conn.state = .connected ∧ s.conn.lineType = .switched then
            (if p.lineIdleS = 0 then none else some (p.lineIdleS * 1000))
          else s.conn.lineIdle } ∧
    t.dir = { s.dir with lineAsm := ⟨.idle, .none, []⟩, localAsm := ⟨.idle, .none, []⟩, queue := [] } ∧
    t.access = { s.access with lineOpen := .closed, localOpen := .closed } ∧
    (s.profile.image.passes = true → t.profile = { s.profile with working := s.profile.image.parts, fault := false }) ∧
    (s.profile.image.passes = false → t.profile = { s.profile with working := .factory, fault := true }) ∧
    t.rx = s.rx ∧ t.motor = s.motor ∧ t.powered = s.powered ∧ t.pending = s.pending ∧ t.spoilt = s.spoilt

/-- The table of the letters, with their sources, whether each needs open, is answered and is taken when BROADCAST, and the fields each takes
(section 9.2; those of O, K and B are checked by their own rules). What is ignored: a FOREIGN S with a body, a BROADCAST of another letter, an M
or E while not selected, a BROADCAST P or Q with bad fields. The checks of an execution (sections 9.2, 10.3), for every directive: N13 from a source that may not bring it; N01 or N02 where the open
check refuses; a body that is no list of its fields is refused with N06, or dropped and counted for S, D, M and E from the line; and a full
reply queue leaves an OWN directive that needs it unexecuted and counted. Every directive command is its execution, its match found from the
call code as it stands and the assemblers left as they are: that is the model's reading of such a command (log entry 7). The rows of the two
assemblers that the matching of call codes leaves: LEAD, the first character of a call code, CR, NUL, a MUTILATED character, a 49th character,
and DISCARD to its CR; and the local assembler whole (section 9.1). That the buffer is empty and the match result NONE at once after a CR is
the model's choice (log entry 40), and so is that a MUTILATED 49th character counts as malformed only (log entry 37). -/
def Obligations.DirectivesAreRefused : Prop :=
  ([DirKind.select, .deselect, .heading, .endMsg, .punch, .printSwitch, .identify, .status, .openSrc, .closeSrc, .freeze,
      .number, .list, .retrieve, .delete, .erase, .setPar, .load, .commit, .reset, .hangUp, .clearStats, .copy].map
      (fun k => (k.letter, k.onLine, k.onKeyboard, k.needsOpen, k.answered, k.broadcast)) =
    [(0o123#7, true, false, false, false, true), (0o104#7, true, false, false, false, true),
      (0o115#7, true, false, false, false, true), (0o105#7, true, false, false, false, true),
      (0o120#7, true, false, false, true, true), (0o121#7, true, true, false, true, true),
      (0o111#7, true, true, false, true, false), (0o124#7, true, true, false, true, false),
      (0o117#7, true, true, false, true, false), (0o103#7, true, true, false, true, false),
      (0o106#7, true, true, true, true, false), (0o113#7, true, true, false, true, false),
      (0o114#7, true, true, true, true, false), (0o122#7, true, false, true, true, false),
      (0o130#7, true, true, true, true, false), (0o127#7, true, true, true, true, false),
      (0o101#7, true, true, true, true, false), (0o102#7, true, true, true, true, false),
      (0o126#7, true, true, true, true, false), (0o131#7, true, true, true, true, false),
      (0o110#7, true, true, false, true, false), (0o132#7, true, true, true, true, false),
      (0o107#7, false, true, true, true, false)]) ∧
  (∀ k : DirKind, DirKind.ofLetter k.letter = some k) ∧
  (∀ vs : List Nat,
    (∀ k ∈ [DirKind.select, .deselect, .endMsg, .identify, .closeSrc, .freeze, .list, .erase, .commit, .reset, .hangUp,
        .clearStats], (k.fieldsOk vs = true ↔ vs = [])) ∧
    (DirKind.heading.fieldsOk vs = true ↔ ∃ p n, vs = [p, n] ∧ p ≤ 3 ∧ n ≤ 9999) ∧
    (∀ k ∈ [DirKind.punch, .printSwitch], (k.fieldsOk vs = true ↔ vs = [0] ∨ vs = [1])) ∧
    (DirKind.status.fieldsOk vs = true ↔ vs = [] ∨ ∃ g, vs = [g] ∧ 1 ≤ g ∧ g ≤ 5) ∧
    (∀ k ∈ [DirKind.retrieve, .delete, .copy], (k.fieldsOk vs = true ↔ ∃ e, vs = [e] ∧ 1 ≤ e ∧ e ≤ 32)) ∧
    (DirKind.setPar.fieldsOk vs = true ↔ ∃ n v, vs = [n, v] ∧ 1 ≤ n ∧ n ≤ 34) ∧
    (∀ k ∈ [DirKind.openSrc, .number, .load], k.fieldsOk vs = true)) ∧
  (∀ (s : State) (k : DirKind) (c1 c2 : Code) (body : List Code),
    (k ≠ .select ∨ body ≠ [] → s.execute ⟨.line c1 c2, .foreign, k.letter, body⟩ = s) ∧
    (k.broadcast = false → s.execute ⟨.line c1 c2, .broadcast, k.letter, body⟩ = s) ∧
    (k = .heading ∨ k = .endMsg → s.conn.selected = false →
      ∀ m ∈ [MatchResult.own, .broadcast], s.execute ⟨.line c1 c2, m, k.letter, body⟩ = s) ∧
    (readFields body = none ∨ (∃ vs, FieldsAre body vs ∧ k.fieldsOk vs = false) →
      (k = .punch ∨ k = .printSwitch → s.execute ⟨.line c1 c2, .broadcast, k.letter, body⟩ = s) ∧
      ((k = .select ∨ k = .deselect ∨ ((k = .heading ∨ k = .endMsg) ∧ s.conn.selected = true)) →
        s.execute ⟨.line c1 c2, .broadcast, k.letter, body⟩ =
          { s with dir := { s.dir with malformedCount := sat16 s.dir.malformedCount } }))) ∧
  (∀ (s : State) (k : DirKind) (src : DirSource) (body : List Code), s.Brings src body →
    (k = .heading ∨ k = .endMsg → s.conn.selected = true ∨ fromLine src = false) →
    ((if fromLine src = true then k.onLine else k.onKeyboard) = false →
      Does (k.command src body) s (s.answer (s.call k src body) Reason.n13.alone)) ∧
    ((if fromLine src = true then k.onLine else k.onKeyboard) = true → k.needsOpen = true →
      ∀ r, s.openCheck src (k == .erase) = some r →
      Does (k.command src body) s (s.answer (s.call k src body) r.alone)) ∧
    ((if fromLine src = true then k.onLine else k.onKeyboard) = true →
      (k.needsOpen = true → s.openCheck src (k == .erase) = none) →
      (readFields body = none ∨ ∃ vs, FieldsAre body vs ∧ k.fieldsOk vs = false) →
      Does (k.command src body) s
        (if fromLine src = true ∧ k.answered = false then
          { s with dir := { s.dir with malformedCount := sat16 s.dir.malformedCount } }
        else s.answer (s.call k src body) Reason.n06.alone))) ∧
  (∀ (s : State) (k : DirKind) (c1 c2 : Code) (body : List Code), s.LineBrings c1 c2 body →
    s.working.callCode = some (c1, c2) → k.answered = true → 4 ≤ s.dir.queue.length →
    Does (k.command (.line c1 c2) body) s { s with dir := { s.dir with overrunCount := sat16 s.dir.overrunCount } }) ∧
  (∀ (s : State) (k : DirKind) (src : DirSource) (body : List Code), s.powered = true → s.sourceLive src = true →
    directiveOk src body = true → (s.matchOf src ≠ .foreign ∨ k = .select) →
    Does (k.command src body) s (s.execute (s.call k src body))) ∧
  (∀ (s : State) (q : Quality),
    let a := s.dir.lineAsm
    let now (b : Assembler) : State := { s with dir := { s.dir with lineAsm := b } }
    let bad (b : Assembler) : State :=
      { s with dir := { s.dir with lineAsm := b, malformedCount := sat16 s.dir.malformedCount } }
    (q ≠ .mutilated → s.handLine 0o033#7 q = now ⟨.call, .none, []⟩) ∧
    (∀ c, q ≠ .mutilated → bodyCodeOk c = true → a.state = .call → a.buffer = [] →
      s.handLine c q = now ⟨.call, a.result, [c]⟩) ∧
    (q ≠ .mutilated → a.state = .call ∨ a.state = .letter →
      s.handLine 0o015#7 q = if a.result = .foreign then now ⟨.idle, .none, []⟩ else bad ⟨.idle, .none, []⟩) ∧
    (∀ c1 c2 l body, q ≠ .mutilated → a.state = .body → a.buffer = c1 :: c2 :: l :: body →
      s.handLine 0o015#7 q = State.execute (now ⟨.idle, .none, []⟩) ⟨.line c1 c2, a.result, l, body⟩) ∧
    (q ≠ .mutilated → a.state = .call ∨ a.state = .letter ∨ a.state = .body → s.handLine 0o000#7 q = s) ∧
    (∀ c, q = .mutilated → a.state = .call ∨ a.state = .letter ∨ a.state = .body →
      ∃ b, b.state = .discard ∧ s.handLine c q = bad b) ∧
    (∀ c, q ≠ .mutilated → bodyCodeOk c = true → a.state = .body → 48 ≤ a.buffer.length →
      ∃ b, b.state = .discard ∧
        s.handLine c q = { s with dir := { s.dir with lineAsm := b, overlongCount := sat16 s.dir.overlongCount } }) ∧
    (∀ c, a.state = .discard → (q = .mutilated ∨ (c ≠ 0o015#7 ∧ c ≠ 0o033#7)) → s.handLine c q = s) ∧
    (q ≠ .mutilated → a.state = .discard → s.handLine 0o015#7 q = now ⟨.idle, .none, []⟩) ∧
    (∀ c, a.state = .idle → (q = .mutilated ∨ c ≠ 0o033#7) → s.handLine c q = s)) ∧
  ∀ s : State,
    let a := s.dir.localAsm
    let now (b : Assembler) : State := { s with dir := { s.dir with localAsm := b } }
    (s.handLocal 0o033#7 = now ⟨.letter, .none, []⟩) ∧
    (∀ c, bodyCodeOk c = true → a.state = .letter → a.buffer = [] → s.handLocal c = now ⟨.body, a.result, [c]⟩) ∧
    (∀ c, bodyCodeOk c = true → a.state = .body → a.buffer.length < 48 →
      s.handLocal c = now ⟨.body, a.result, a.buffer ++ [c]⟩) ∧
    (∀ c, bodyCodeOk c = true → a.state = .body → 48 ≤ a.buffer.length →
      ∃ b, b.state = .discard ∧
        s.handLocal c = { s with dir := { s.dir with localAsm := b, overlongCount := sat16 s.dir.overlongCount } }) ∧
    (a.state = .letter → s.handLocal 0o015#7 =
      { s with
        dir := { s.dir with localAsm := ⟨.idle, .none, []⟩, malformedCount := sat16 s.dir.malformedCount } }) ∧
    (∀ l body, a.state = .body → a.buffer = l :: body →
      s.handLocal 0o015#7 = State.execute (now ⟨.idle, .none, []⟩) ⟨.keyboard, .none, l, body⟩) ∧
    (a.state = .letter ∨ a.state = .body → s.handLocal 0o000#7 = s) ∧
    (∀ c, a.state = .discard → c ≠ 0o015#7 → c ≠ 0o033#7 → s.handLocal c = s) ∧
    (a.state = .discard → s.handLocal 0o015#7 = now ⟨.idle, .none, []⟩) ∧
    (∀ c, a.state = .idle → c ≠ 0o033#7 → s.handLocal c = s)

/-! ### The store -/

/-- An append (sections 3.1, 3.2) writes one cell at the record's next address, taking the head of the free-block list where the last block is
full, and touches no other cell and no other record; it fails exactly at 16,383 cells or for want of a block. Line text that cannot be appended is
dropped, marked and counted; with no message open it makes an implicit record of precedence 0 in the lowest EMPTY entry, or VOID, counted as a
lost message, where none is (section 3.3). -/
def Obligations.AppendWritesOneCell : Prop :=
  (∀ (s : State) (e : Nat) (c : Cell),
    s.append e c = none ↔
      16383 ≤ (s.record e).length ∨ ((s.record e).length % 64 = 0 ∧ s.store.free = [])) ∧
  (∀ (s v : State) (e : Nat) (c : Cell), s.store.cells.wf = true → s.store.dir.length = 32 → 1 ≤ e → e ≤ 32 →
    (s.record e).blocks.length = ((s.record e).length + 63) / 64 → s.append e c = some v →
    v.cellOf e (s.record e).length = c ∧
    (v.record e).length = (s.record e).length + 1 ∧
    (v.record e).doubtful = (if c.quality = .doubtful then sat8 (s.record e).doubtful else (s.record e).doubtful) ∧
    (v.record e).mutilated = (if c.quality = .mutilated then sat8 (s.record e).mutilated else (s.record e).mutilated) ∧
    (v.record e).blocks =
      (s.record e).blocks ++ (if (s.record e).length % 64 = 0 then s.store.free.take 1 else []) ∧
    v.store.free = (if (s.record e).length % 64 = 0 then s.store.free.drop 1 else s.store.free) ∧
    (∀ a, a ≠ State.cellAddress (v.record e) (s.record e).length → v.store.cells.read a = s.store.cells.read a) ∧
    (∀ x, 1 ≤ x → x ≤ 32 → x ≠ e → v.record x = s.record x)) ∧
  (∀ (s : State) (e : Nat) (c : Cell),
    (∀ v, s.append e c = some v → s.appendLine e c = v) ∧
    (s.append e c = none →
      s.appendLine e c =
        let v := s.setRecord e { s.record e with overflowed := true }
        { v with store := { v.store with overflowCount := sat16 s.store.overflowCount } })) ∧
  ∀ (s : State) (c : Cell), s.store.openStack = [] →
    (s.lowestEmpty = none →
      s.lineText c =
        { s with
          store := { s.store with openStack := [⟨0, none⟩], lostMessageCount := sat16 s.store.lostMessageCount } }) ∧
    ∀ e, s.lowestEmpty = some e →
      let v :=
        s.setRecord e
          { Record.empty with
            state := .receiving, origin := .line, serial := none, precedence := 0, implicit := true
            print := ⟨if s.store.linePrint = true then .pending else .none, 0, false⟩
            punch :=
              ⟨if s.punch.lineClaim.state = .holding ∨ s.punch.lineClaim.state = .waiting then .pending else .none, 0, false⟩
            punchSource := .line, retained := !s.conn.attended && s.working.retainUnattended }
      s.lineText c =
        State.appendLine { v with store := { v.store with arrival := s.store.arrival ++ [e], openStack := [⟨0, some e⟩] } } e c

/-! ### The mechanisms, the motor and the sending side -/

/-- The printer. Its done signal gives each operation's effect on the column, the page line and the line bell flag, the margin bell after a
PRINT that reaches it, and nothing without an operation in flight (sections 4.1, 4.2; that a PRINT left in flight by a station reset rings it too is
log entry 32). A cell is converted by its code, its quality and the
column (section 4.3; that a MUTILATED cell is a printing cell whatever its code is log entry 17). Candidates, the best of them by precedence and
arrival, the push of a context with its opening sequence, the resumption, the heading and the resume header (sections 4.5, 4.6). What a boundary does:
pops an abandoned or finished top, preempts it, takes its next cell, or waits; what follows a pop; and what the end of a sequence leaves
(sections 4.3, 4.5, 4.7, 4.8; the flag that a second preemption keeps is log entry 25). An operation that is ready is HELD by
the paper sensor, whatever the motor's state (log entry 33), or is issued with the motor RUNNING (sections 4.1, 4.4). -/
def Obligations.PrinterOperationsComplete : Prop :=
  (∀ s : State, s.powered = true →
    let b : PrintBlock := { s.print with inFlight := none, faultTimer := none }
    let next := min (s.print.column + 1) (s.working.lineLength + 1)
    (s.print.inFlight = none → Does .printerDone s s) ∧
    (s.print.inFlight = some .ret →
      Does .printerDone s { s with print := { b with column := 1, bellFlag := false, lastFeed := false } }) ∧
    (s.print.inFlight = some .space → Does .printerDone s { s with print := { b with column := next, lastFeed := false } }) ∧
    (s.print.inFlight = some .bell → Does .printerDone s { s with print := { b with lastFeed := false } }) ∧
    (s.print.inFlight = some .feed →
      Does .printerDone s
        { s with
          print :=
            { b with
              lastFeed := true
              pageLine :=
                if s.working.formLength = 0 then 1
                else if s.working.formLength ≤ s.print.pageLine then 1 else s.print.pageLine + 1 } }) ∧
    (∀ p, s.print.inFlight = some (.print p false) → Does .printerDone s { s with print := { b with lastFeed := false } }) ∧
    (∀ p, s.print.inFlight = some (.print p true) →
      Does .printerDone s
        { s with
          print :=
            if 0 < s.working.bellOffset ∧ s.print.bellFlag = false ∧
                next = s.working.lineLength + 1 - s.working.bellOffset then
              { b with column := next, lastFeed := false, bellFlag := true, ops := .bell :: s.print.ops }
            else { b with column := next, lastFeed := false } })) ∧
  (∀ (p : Profile) (column pageLine : Nat) (c : Cell),
    let act (advance : Bool) : PrinterOp :=
      if c.quality = .mutilated ∨ (c.quality = .doubtful ∧ p.doubtfulMarking = true) then .print p.mutilationType advance
      else match (p.codeRec c.code).typePos with
        | some t => .print t advance
        | none => if p.substituteType ≤ 63 then .print p.substituteType advance else .space
    (c.quality ≠ .mutilated →
      (c.code = 0o015#7 → convertPrint p column pageLine c = ([.ret], false)) ∧
      (c.code = 0o012#7 → convertPrint p column pageLine c = ([.feed], false)) ∧
      (c.code = 0o040#7 → convertPrint p column pageLine c = ([.space], false)) ∧
      (c.code = 0o007#7 → convertPrint p column pageLine c = ([.bell], false)) ∧
      (c.code = 0o014#7 →
        convertPrint p column pageLine c =
          (List.replicate (if p.formLength = 0 then 1 else p.formLength + 1 - pageLine) .feed, false)) ∧
      (c.code = 0o000#7 → convertPrint p column pageLine c = ([], false))) ∧
    (c.quality = .mutilated ∨ c.code ∉ [0o015#7, 0o012#7, 0o040#7, 0o007#7, 0o014#7, 0o000#7] →
      (column ≤ p.lineLength → convertPrint p column pageLine c = ([act true], false)) ∧
      (p.lineLength < column → p.autoNewLine = true → convertPrint p column pageLine c = ([.ret, .feed, act true], true)) ∧
      (p.lineLength < column → p.autoNewLine = false → convertPrint p column pageLine c = ([act false], false)))) ∧
  ((∀ r : Record, State.candidate r = true ↔
      r.print.status = .pending ∧ r.print.mark = false ∧ (r.print.cursor < r.length ∨ r.state.isOpen = true)) ∧
    (∀ (s : State) (ok : Record → Bool),
      (s.bestEntry ok = none ↔ ∀ e ∈ s.store.arrival, ok (s.record e) = false) ∧
      ∀ c, s.bestEntry ok = some c ↔ ∃ before later, s.store.arrival = before ++ c :: later ∧ ok (s.record c) = true ∧
        (∀ e ∈ before, ok (s.record e) = true → (s.record e).precedence < (s.record c).precedence) ∧
        ∀ e ∈ later, ok (s.record e) = true → (s.record e).precedence ≤ (s.record c).precedence) ∧
    (∀ s : State, s.bestCandidate = s.bestEntry State.candidate) ∧
    (∀ (s : State) (e c : Nat),
      s.exceeding e = some c ↔ s.bestCandidate = some c ∧ (s.record e).precedence < (s.record c).precedence)) ∧
  (∀ (s : State) (r : Record),
    (r.started = true →
      s.headerOf r =
        0o053#7 ::
          (match r.serial with
            | none => [0o055#7, 0o055#7, 0o055#7, 0o055#7]
            | some n => [digit (n / 1000), digit (n / 100), digit (n / 10), digit n]) ++ [0o015#7, 0o012#7]) ∧
    (∀ n, r.started = false → r.origin = .line → r.serial = some n → s.working.printHeadings = true →
      s.headerOf r =
        [digit (n / 1000), digit (n / 100), digit (n / 10), digit n, 0o040#7, digit r.precedence, 0o015#7, 0o012#7]) ∧
    (r.started = false → (r.origin ≠ .line ∨ r.serial = none ∨ s.working.printHeadings = false) → s.headerOf r = [])) ∧
  (∀ (s : State) (e : Nat),
    let newLine : List PrinterOp := if s.print.column = 1 then [] else [.ret, .feed]
    s.pushContext e =
      { s.setRecord e { s.record e with print := { (s.record e).print with mark := true } } with
        print :=
          { s.print with
            contexts := ⟨e, (s.record e).print.cursor, false⟩ :: s.print.contexts
            ops := newLine ++ (if s.print.contexts = [] then [] else [.feed])
            codes := s.headerOf (s.record e), kind := .opening } } ∧
    s.resume e =
      { s with print := { s.print with ops := newLine, codes := s.headerOf (s.record e), kind := .resumption } } ∧
    (s.print.contexts = [] → s.printBoundary = s.bestCandidate.map s.pushContext)) ∧
  (∀ (s : State) (top : PrintContext) (rest : List PrintContext), s.print.contexts = top :: rest →
    let r := s.record top.entry
    let finished : Prop := r.print.cursor = r.length ∧ (r.state = .complete ∨ r.state = .cut)
    (∀ c, s.preempt c =
      State.pushContext
        { s with
          print := { s.print with contexts := { top with midLine := top.midLine || decide (s.print.column ≠ 1) } :: rest } } c) ∧
    (r.print.status = .abandoned → s.printBoundary = some (s.popContext false)) ∧
    (r.print.status ≠ .abandoned → finished → s.printBoundary = some (s.popContext true)) ∧
    (r.print.status ≠ .abandoned → ¬finished →
      (∀ c, s.exceeding top.entry = some c →
        ((s.record c).precedence = 3 ∨ (s.print.lastFeed = true ∧ s.print.column = 1) ∨ r.print.cursor = r.length) →
        s.printBoundary = some (s.preempt c)) ∧
      ((∀ c, s.exceeding top.entry = some c →
          (s.record c).precedence ≠ 3 ∧ (s.print.lastFeed = false ∨ s.print.column ≠ 1) ∧ r.print.cursor ≠ r.length) →
        (r.print.cursor < r.length → s.printBoundary = some (s.takePrintCell top.entry)) ∧
        (r.length ≤ r.print.cursor → s.printBoundary = none))) ∧
    (∀ done : Bool,
      let v := s.dropTop done
      v =
        State.examine
          (State.setRecord { s with print := { s.print with contexts := rest } } top.entry
            { r with print := ⟨if done = true then .done else r.print.status, r.print.cursor, false⟩ }) top.entry ∧
      s.popContext done = State.afterPop v.print.contexts v) ∧
    (∀ e, e ∈ rest.map (·.entry) →
      s.dropBeneath e =
        State.examine
          (State.setRecord { s with print := { s.print with contexts := top :: rest.filter (·.entry ≠ e) } } e
            { s.record e with print := { (s.record e).print with mark := false } }) e) ∧
    (let q := convertPrint s.working s.print.column s.print.pageLine (s.cellOf top.entry r.print.cursor)
     s.takePrintCell top.entry =
      { s with
        print :=
          { s.print with
            ops := q.1, kind := .cell
            contexts := if q.2 = true then { top with lineStart := r.print.cursor } :: rest else top :: rest } }) ∧
    (let b : PrintBlock := { s.print with kind := .none }
     (s.print.kind = .cell →
      s.endSequence =
        { s.setRecord top.entry { r with started := true, print := { r.print with cursor := r.print.cursor + 1 } } with
          print :=
            if s.print.column = 1 then { b with contexts := { top with lineStart := r.print.cursor + 1 } :: rest } else b }) ∧
     (s.print.kind = .opening →
      s.endSequence =
        { s with
          print := if s.print.column = 1 then { b with contexts := { top with lineStart := r.print.cursor } :: rest } else b }) ∧
     (s.print.kind = .resumption →
      s.endSequence =
        if top.midLine = true then
          { s.setRecord top.entry { r with print := { r.print with cursor := top.lineStart } } with
            print := { b with contexts := { top with midLine := false } :: rest } }
        else { s with print := b }))) ∧
  (∀ (s : State) (top : PrintContext) (rest : List PrintContext),
    let r := s.record top.entry
    let finished : Prop := r.print.cursor = r.length ∧ (r.state = .complete ∨ r.state = .cut)
    State.afterPop [] s = s ∧
    (finished → State.afterPop (top :: rest) s = State.afterPop rest (s.dropTop true)) ∧
    (¬finished → ∀ c, s.exceeding top.entry = some c → State.afterPop (top :: rest) s = s.preempt c) ∧
    (¬finished → s.exceeding top.entry = none → State.afterPop (top :: rest) s = s.resume top.entry)) ∧
  ∀ s : State,
    ((s.print.inFlight.isSome = true ∨ s.print.fault = true ∨ s.print.held = true) → s.printStep = none) ∧
    (s.print.inFlight = none → s.print.fault = false → s.print.held = false →
      (∀ op rest, s.print.ops = op :: rest →
        let stops : Prop := s.print.paperOut = true ∧ (op = .feed ∨ ∃ position advance, op = .print position advance)
        (stops → s.printStep = some { s with print := { s.print with held := true } }) ∧
        (¬stops → s.motor.state ≠ .running → s.printStep = none) ∧
        (¬stops → s.motor.state = .running →
          s.printStep =
            some { s with print := { s.print with inFlight := some op, ops := rest, faultTimer := some 2000 } })) ∧
      (s.print.ops = [] →
        (∀ c rest, s.print.codes = c :: rest →
          s.printStep =
            some
              { s with
                print :=
                  { s.print with
                    ops := (convertPrint s.working s.print.column s.print.pageLine ⟨c, .good⟩).1, codes := rest } }) ∧
        (s.print.codes = [] → s.print.kind ≠ .none → s.printStep = some s.endSequence) ∧
        (s.print.codes = [] → s.print.kind = .none → s.printStep = s.printBoundary)))

/-- The punch's done signal: the row in flight completes and the supply falls by one, and a NEW TAPE that waited for it fits the new
reel (sections 5.1, 5.6, 5.7; that it waits through a FAULT or a station reset for the next row is log entry 15, and that the punch as it then stands
chooses what goes on is log entry 35, and that a second new reel during the leader of the first keeps what that one owed is log entry 41).
The fault timers keep the operation or row in flight as failed and move nothing else; paper present ends a hold
(sections 4.1, 4.4, 5.1); that PAPER_OUT_CHANGE also sets PAPER LOW is the model's (log entry 14). The pieces: what a boundary begins, in order;
how the current record is gone on with, framed or not; a cell's rows; which record a holder takes, and how it is let go; what the end of each piece
leaves, the work that a new reel's leader replaced among it (sections 5.2, 5.3, 5.4, 5.5, 5.6). A row is issued with the motor RUNNING, or TAPE OUT
is entered with it (sections 5.1, 5.6). -/
def Obligations.PunchRowsFaultsAndPaper : Prop :=
   (∀ s : State, s.powered = true →
      let v : State :=
        { s with punch := { s.punch with inFlight := none, faultTimer := none, tapeSupply := s.punch.tapeSupply - 1 } }
      (s.punch.inFlight = none → Does .punchDone s s) ∧
      (∀ r, s.punch.inFlight = some r → s.punch.newTapeDue = false → Does .punchDone s v) ∧
      (∀ r, s.punch.inFlight = some r → s.punch.newTapeDue = true → Does .punchDone s { v with punch := v.reelFitted })) ∧
   ((∀ (s : State) (op : PrinterOp), s.powered = true → s.print.inFlight = some op →
      Does .printerFaultTimerExpiry s
        { s with print := { s.print with fault := true, failedOp := some op, inFlight := none, faultTimer := none } }) ∧
    (∀ (s : State) (r : Row), s.powered = true → s.punch.inFlight = some r →
      Does .punchFaultTimerExpiry s
        { s with punch := { s.punch with fault := true, failedRow := some r, inFlight := none, faultTimer := none } }) ∧
    (∀ (s : State) (out low : Bool), s.powered = true →
      Does (.paperOutChange out low) s
        { s with print := { s.print with paperOut := out, paperLow := low, held := s.print.held && out } })) ∧
   (∀ s : State,
      (0 < s.punch.feedRows →
        s.punchBoundary =
          some { s with punch := { s.punch with piece := .feed, rows := List.replicate s.punch.feedRows 0#5, feedRows := 0 } }) ∧
      (s.punch.feedRows = 0 → s.punch.leaderOwed = true →
        s.punchBoundary =
          some
            { s with
              punch := { s.punch with piece := .leader, rows := List.replicate s.working.leaderRows 0#5, leaderOwed := false } }) ∧
      (s.punch.feedRows = 0 → s.punch.leaderOwed = false →
        (∀ e, s.punch.current = some e → s.punchBoundary = s.goOnPunching e) ∧
        (s.punch.current = none →
          (s.punch.holder = none → s.punchBoundary = none) ∧
          ∀ x, s.punch.holder = some x →
            (∀ e, s.nextToPunch x = some e → s.punchBoundary = some (s.choosePunch e)) ∧
            (s.nextToPunch x = none →
              s.punchBoundary =
                if (s.punch.claim x).state = .draining then
                  some { s with punch := { s.punch with piece := .trailer, rows := List.replicate s.working.leaderRows 0#5 } }
                else none))) ∧
      (∀ x, s.punch.holder = some x → (s.punch.claim x).state = .holding ∨ (s.punch.claim x).state = .draining) ∧
      (s.punch.holder = none → ∀ x, (s.punch.claim x).state = .idle ∨ (s.punch.claim x).state = .waiting) ∧
      s.nextToPunch .copy = s.punch.copyList.head? ∧
      ∀ x, x ≠ .copy → s.nextToPunch x = s.bestEntry fun r => decide (r.punch.status = .pending ∧ r.punchSource = x)) ∧
   (∀ (s : State) (e : Nat),
      let r := s.record e
      s.choosePunch e =
        { s.setRecord e { r with punch := { r.punch with mark := true } } with
          punch :=
            { s.punch with
              current := some e, headingDone := false, endDone := false, restart := false
              framed := decide (s.working.punchFraming = true ∧ r.punchSource ≠ .keyboard ∧ r.serial.isSome = true) } } ∧
      (let ends : State :=
        { s with
          punch := { s.punch with piece := .endRows, codes := [0o033#7] ++ s.working.callLetters ++ [0o105#7, 0o015#7] } }
       (r.punch.status = .abandoned →
        s.goOnPunching e =
          if s.punch.framed = true ∧ s.punch.headingDone = true ∧ s.punch.endDone = false then some ends
          else some (s.letGoPunch e)) ∧
       (r.punch.status ≠ .abandoned → s.punch.framed = true → s.punch.headingDone = false → ∀ n, r.serial = some n →
        s.goOnPunching e =
          some
            { s with
              punch :=
                { s.punch with
                  piece := .heading
                  codes :=
                    [0o033#7] ++ s.working.callLetters ++ [0o115#7, digit r.precedence, 0o040#7] ++
                      [digit (n / 1000), digit (n / 100), digit (n / 10), digit n, 0o015#7] } }) ∧
       (r.punch.status ≠ .abandoned → (s.punch.framed = false ∨ s.punch.headingDone = true) →
        (r.punch.cursor < r.length → s.goOnPunching e = some (s.takePunchCell e)) ∧
        (r.length ≤ r.punch.cursor → r.state.isClosed = false → s.goOnPunching e = none) ∧
        (r.length ≤ r.punch.cursor → r.state.isClosed = true →
          s.goOnPunching e =
            if s.punch.framed = true ∧ s.punch.endDone = false then some ends else some (s.finishPunch e)))) ∧
      (let next (v : State) : State :=
        State.examine (v.setRecord e { v.record e with punch := { (v.record e).punch with cursor := (v.record e).punch.cursor + 1 } }) e
       let c := s.cellOf e r.punch.cursor
       (c.quality = .mutilated →
        s.takePunchCell e =
          { s with punch := { s.punch with piece := .cell, rows := [s.working.errorRow], shiftAfter := some s.punch.shift } }) ∧
       (c.quality ≠ .mutilated → s.working.convert s.punch.shift c.code = none →
        s.takePunchCell e = next { s with punch := { s.punch with skipCount := sat16 s.punch.skipCount } }) ∧
       (∀ rows sh, c.quality ≠ .mutilated → s.working.convert s.punch.shift c.code = some (rows, sh) →
        s.takePunchCell e = { s with punch := { s.punch with piece := .cell, rows := rows, shiftAfter := some sh } }) ∧
       (s.punch.piece = .cell → s.punch.current = some e →
        s.endPiece = next { s with punch := { s.punch with piece := .none } })) ∧
      s.letGoPunch e =
        State.examine
          (State.setRecord { s with punch := { s.punch with current := none } } e
            { r with punch := { r.punch with mark := false } }) e ∧
      (let v := s.setRecord e { r with punch := { r.punch with status := .done } }
       s.finishPunch e = if e ∈ s.punch.copyList then (v.leaveCopyList e).letGoPunch e else v.letGoPunch e) ∧
      (let v := (State.releaseRequest { s with punch := { s.punch with copyList := s.punch.copyList.erase e } } .copy).1
       s.leaveCopyList e =
        if v.punch.current = some e then v
        else State.examine (v.setRecord e { v.record e with punch := { (v.record e).punch with mark := false } }) e)) ∧
   (∀ s : State,
      let b : PunchBlock := { s.punch with piece := .none }
      ((s.punch.piece = .none ∨ s.punch.piece = .feed) → s.endPiece = { s with punch := b }) ∧
      (s.punch.piece = .leader → s.endPiece = { s with punch := { b with shift := .unknown } }) ∧
      (s.punch.piece = .heading → s.endPiece = { s with punch := { b with headingDone := true } }) ∧
      (s.punch.piece = .endRows → s.endPiece = { s with punch := { b with endDone := true } }) ∧
      (s.punch.piece = .reelLeader → (s.punch.restart = false ∨ s.punch.current = none) →
        s.endPiece = { s with punch := { b with shift := .unknown, restart := false } }) ∧
      (∀ e, s.punch.piece = .reelLeader → s.punch.restart = true → s.punch.current = some e →
        s.endPiece =
          State.setRecord
            { s with punch := { b with shift := .unknown, restart := false, headingDone := false, endDone := false } } e
            { s.record e with punch := { (s.record e).punch with cursor := 0 } }) ∧
      ∀ x, s.punch.piece = .trailer → s.punch.holder = some x →
        let u : PunchBlock := { b with shift := .unknown }.setClaim x ⟨.idle, 0⟩
        s.endPiece =
          { s with
            punch :=
              if u.lineClaim.state = .waiting then { u with lineClaim := ⟨.holding, u.lineClaim.count⟩, leaderOwed := true }
              else if u.keyboardClaim.state = .waiting then
                { u with keyboardClaim := ⟨.holding, u.keyboardClaim.count⟩, leaderOwed := true }
              else if u.copyClaim.state = .waiting then { u with copyClaim := ⟨.holding, u.copyClaim.count⟩, leaderOwed := true }
              else u }) ∧
   ∀ s : State,
      ((s.punch.inFlight.isSome = true ∨ s.punch.fault = true ∨ s.punch.tapeOut = true) → s.punchStep = none) ∧
      (s.punch.inFlight = none → s.punch.fault = false → s.punch.tapeOut = false →
        (∀ r rest, s.punch.rows = r :: rest →
          (s.punch.tapeSupply = 0 → s.punchStep = some { s with punch := { s.punch with tapeOut := true } }) ∧
          (0 < s.punch.tapeSupply → s.motor.state ≠ .running → s.punchStep = none) ∧
          (0 < s.punch.tapeSupply → s.motor.state = .running →
            s.punchStep =
              some { s with punch := { s.punch with inFlight := some r, rows := rest, faultTimer := some 2000 } })) ∧
        (∀ sh, s.punch.rows = [] → s.punch.shiftAfter = some sh →
          s.punchStep = some { s with punch := { s.punch with shift := sh, shiftAfter := none } }) ∧
        (s.punch.rows = [] → s.punch.shiftAfter = none →
          (∀ c rest, s.punch.codes = c :: rest →
            s.punchStep =
              some
                { s with
                  punch :=
                    match s.working.convert s.punch.shift c with
                    | none => { s.punch with codes := rest, skipCount := sat16 s.punch.skipCount }
                    | some (rows, sh) => { s.punch with codes := rest, rows := rows, shiftAfter := some sh } }) ∧
          (s.punch.codes = [] → s.punch.piece ≠ .none → s.punchStep = some s.endPiece) ∧
          (s.punch.codes = [] → s.punch.piece = .none → s.punchStep = s.punchBoundary)))

/-- The completions on the sending side (sections 7.1, 7.3, 8.4), each a notice of traffic: the next character of a unit follows at once; the
last leaves its shift state and its item goes on; a break leaves UNKNOWN. A character is 7.5 UI of start, five elements and stop. How each item
goes on: an answerback whose last code is out is NONE, a reply's last code asks for the next line or the removal, and a cell's moves its record's
send cursor (sections 7.4 to 7.7). That a unit whose item has been discarded still completes whole and leaves its shift state is the model's
reading (log entry 27). The send data: the clearing space over everything, of no stated length, then the elements of what is in flight, a break's
space of its unit intervals and 1.5 UI of mark, in half unit intervals, and mark at rest (sections 7.1, 7.3, 8.5). -/
def Obligations.CharactersAndBreaksAreSent : Prop :=
  (∀ (s : State) (r c : Row) (rest : List Row) (sh : ShiftState) (i : TxItem), s.powered = true →
    s.tx.inFlight = some (.character r (c :: rest) sh i) →
    Does .characterSent s (State.noticeTraffic { s with tx := { s.tx with inFlight := some (.character c rest sh i) } })) ∧
  (∀ (s : State) (r : Row) (sh : ShiftState) (i : TxItem), s.powered = true →
    s.tx.inFlight = some (.character r [] sh i) →
    Does .characterSent s
      (State.codeDone (State.noticeTraffic { s with tx := { s.tx with inFlight := none, shift := sh } }) i)) ∧
  (∀ (s : State) (n : Nat), s.powered = true → s.tx.inFlight = some (.brk n) →
    Does .breakSent s (State.noticeTraffic { s with tx := { s.tx with inFlight := none, shift := .unknown } })) ∧
  (∀ s : State,
    s.noticeTraffic =
      if s.conn.state = .connected ∧ s.conn.lineType = .switched then
        { s with
          conn :=
            { s.conn with lineIdle := if s.working.lineIdleS = 0 then none else some (s.working.lineIdleS * 1000) } }
      else s) ∧
  (∀ s : State,
    s.codeDone .orphan = s ∧ s.codeDone .retrievalText = s ∧
    s.codeDone .answerback =
      (if s.tx.answerback = .sending [] then { s with tx := { s.tx with answerback := .none } } else s) ∧
    s.codeDone .reply = (if s.tx.reply = some [] then s.replySent else s) ∧
    ∀ e,
      let v :=
        State.examine
          (s.setRecord e { s.record e with send := { (s.record e).send with cursor := (s.record e).send.cursor + 1 } }) e
      s.codeDone (.retrievalCell e) = v ∧ s.codeDone (.keyboardCell e) = v) ∧
  (∀ r : Row,
    frame r = [(.space, 2), (if r.getLsbD 0 then .mark else .space, 2), (if r.getLsbD 1 then .mark else .space, 2),
      (if r.getLsbD 2 then .mark else .space, 2), (if r.getLsbD 3 then .mark else .space, 2),
      (if r.getLsbD 4 then .mark else .space, 2), (.mark, 3)]) ∧
  ∀ s : State,
    (s.conn.clearingSpace = true → s.sendData = [(.space, 0)]) ∧
    (s.conn.clearingSpace = false →
      (s.tx.inFlight = none → s.sendData = []) ∧
      (∀ c rest sh i, s.tx.inFlight = some (.character c rest sh i) → s.sendData = frame c) ∧
      ∀ n, s.tx.inFlight = some (.brk n) → s.sendData = [(.space, 2 * n), (.mark, 3)])

/-- The arbiter at a send boundary: a pending break first; an answerback begun goes on, then a reply begun, then an answerback begins,
then the head of the reply queue, then the retrieval, then keyboard text with a cell unsent; a code is converted under the shift state into one unit, or
skipped and counted, its item going on. Retrieval: its parts, what an abandoned one still sends, and its end; the keyboard-text item: the record it
takes, DONE when sent, let go when abandoned (sections 7.6, 7.7). That a retrieval's abandoned record is let go before a keyboard-text one is log entry
8, which keyboard record is next log entry 18, and that between two parts the one just sent is the part in progress log entry 39. The conversion: nothing for
a code that is sent as none; a code of both planes as it is; a code of one plane alone under its shift, and after the plane's shift code under
the other or UNKNOWN; a space unshifts by parameter 06 (sections 5.5, 7.1, 7.2, 7.3, 7.4). -/
def Obligations.ArbiterAndConversion : Prop :=
   ((∀ s : State, s.tx.breakPending = true →
      s.arbitrate =
        some { s with tx := { s.tx with breakPending := false, inFlight := some (.brk (s.working.breakThreshold + 4)) } }) ∧
    (∀ (s : State) (c : Code) (rest : List Code), s.tx.breakPending = false → s.tx.answerback = .sending (c :: rest) →
      s.arbitrate = some (State.sendCode { s with tx := { s.tx with answerback := .sending rest } } .answerback c)) ∧
    (∀ (s : State) (c : Code) (rest : List Code), s.tx.breakPending = false → (∀ l, s.tx.answerback ≠ .sending l) →
      s.tx.reply = some (c :: rest) →
      s.arbitrate = some (State.sendCode { s with tx := { s.tx with reply := some rest } } .reply c)) ∧
    (∀ s : State, s.tx.breakPending = false → s.tx.answerback = .pending → s.tx.reply = none →
      s.arbitrate = some { s with tx := { s.tx with answerback := .sending s.working.answerback } }) ∧
    (∀ (s : State) (h : ReplyEntry) (rest : List ReplyEntry), s.tx.breakPending = false → s.tx.answerback = .none →
      s.tx.reply = none → s.dir.queue = h :: rest → h.kind ≠ .reserved →
      s.arbitrate = some { s with tx := { s.tx with reply := some h.text } }) ∧
    (∀ (s : State) (i : TxItem) (c : Code) (r : Row) (rest : List Row) (sh : ShiftState),
      s.working.convert s.tx.shift c = some (r :: rest, sh) →
      s.sendCode i c = { s with tx := { s.tx with inFlight := some (.character r rest sh i) } }) ∧
    (∀ (s : State) (c : Code), s.working.convert s.tx.shift c = none →
      s.sendCode .orphan c = { s with tx := { s.tx with skipCount := sat16 s.tx.skipCount } }) ∧
    (∀ (s : State) (i : TxItem) (c : Code), s.working.convert s.tx.shift c = none →
      s.sendCode i c = State.codeDone { s with tx := { s.tx with skipCount := sat16 s.tx.skipCount } } i) ∧
    (∀ s : State, s.tx.breakPending = false → s.tx.answerback = .none → s.tx.reply = none →
      (∀ h ∈ s.dir.queue.head?, h.kind = .reserved) →
      (∀ t, s.tx.retrieval = some t → s.arbitrate = some (s.sendRetrieval t)) ∧
      (∀ e, s.tx.retrieval = none → s.tx.keyboardText = some e →
        let r := s.record e
        let c := s.cellOf e r.send.cursor
        (r.send.cursor < r.length →
          s.arbitrate =
            some (s.sendCode (.keyboardCell e) (if c.quality = .mutilated then s.working.defaultSubstitute else c.code))) ∧
        (r.length ≤ r.send.cursor → s.arbitrate = none)) ∧
      (s.tx.retrieval = none → s.tx.keyboardText = none → s.arbitrate = none)) ∧
    (∀ s : State, s.tx.breakPending = false → s.tx.answerback = .sending [] →
      s.arbitrate = some { s with tx := { s.tx with answerback := .none } }) ∧
    (∀ s : State, s.tx.breakPending = false → (∀ l, s.tx.answerback ≠ .sending l) → s.tx.reply = some [] →
      s.arbitrate = some s.replySent)) ∧
   (∀ (s : State) (t : Retrieval),
      (∀ c rest, t.codes = c :: rest →
        s.sendRetrieval t =
          State.sendCode { s with tx := { s.tx with retrieval := some { t with codes := rest } } } .retrievalText c) ∧
      (∀ e, t.codes = [] → t.part = .cells → t.entry = some e → (s.record e).send.cursor < (s.record e).length →
        let c := s.cellOf e (s.record e).send.cursor
        s.sendRetrieval t =
          s.sendCode (.retrievalCell e) (if c.quality = .mutilated then s.working.defaultSubstitute else c.code)) ∧
      (t.codes = [] → (t.part ≠ .cells ∨ ∀ e, t.entry = some e → (s.record e).length ≤ (s.record e).send.cursor) →
        (t.todo = [] → s.sendRetrieval t = s.endRetrieval t) ∧
        ∀ part rest, t.todo = part :: rest →
          s.sendRetrieval t =
            { s with
              tx := { s.tx with retrieval := some { t with part := part, codes := s.partCodes t part, todo := rest } } }) ∧
      s.partCodes t .crlf = [0o015#7, 0o012#7] ∧ s.partCodes t .cells = [] ∧
      s.partCodes t .endRows = [0o033#7] ++ s.working.callLetters ++ [0o105#7, 0o015#7] ∧
      (∀ e n, t.entry = some e → (s.record e).serial = some n →
        s.partCodes t .heading =
          [0o033#7] ++ s.working.callLetters ++ [0o115#7, digit (s.record e).precedence, 0o040#7] ++
            [digit (n / 1000), digit (n / 100), digit (n / 10), digit n, 0o015#7]) ∧
      (t.entry = none → s.endRetrieval t = { s with tx := { s.tx with retrieval := none } }) ∧
      (∀ e, t.entry = some e →
        s.endRetrieval t =
          State.examine
            (State.setRecord { s with tx := { s.tx with retrieval := none } } e
              { s.record e with
                send :=
                  ⟨if (s.record e).send.status = .pending then .done else (s.record e).send.status, (s.record e).send.cursor,
                    false⟩ }) e) ∧
      ∀ e,
        let ends : List RetrievalPart := if t.hasSerial = true then [.endRows] else []
        s.abandonRetrieval t e =
          State.examine
            (State.setRecord
              { s with
                tx :=
                  { s.tx with
                    retrieval :=
                      some
                        (match t.part with
                          | .crlf => { t with entry := none, todo := .crlf :: ends }
                          | .heading => { t with entry := none, todo := .crlf :: ends }
                          | .cells => { t with entry := none, part := .crlf, codes := [0o015#7, 0o012#7], todo := ends }
                          | .endRows => { t with entry := none, todo := [] }) } } e
              { s.record e with send := { (s.record e).send with mark := false } }) e) ∧
   (∀ s : State,
      (∀ t e, s.tx.retrieval = some t → t.entry = some e → (s.record e).send.status = .abandoned →
        s.settleItems = some (s.abandonRetrieval t e)) ∧
      ((∀ t, s.tx.retrieval = some t →
          s.retrievalDone t = false ∧ ∀ e, t.entry = some e → (s.record e).send.status ≠ .abandoned) →
        (∀ e, s.tx.keyboardText = some e →
          s.settleItems =
            if (s.record e).send.status = .abandoned then
              some
                (State.examine
                  (State.setRecord { s with tx := { s.tx with keyboardText := none } } e
                    { s.record e with send := { (s.record e).send with mark := false } }) e)
            else none) ∧
        (s.tx.keyboardText = none →
          s.settleItems =
            (s.store.arrival.find? fun e =>
              decide ((s.record e).origin = .keyboard ∧ (s.record e).send.status = .pending ∧ (s.record e).send.mark = false)).map
              s.takeKeyboardText)) ∧
      (∀ t, s.tx.retrieval = some t → (∀ e, t.entry = some e → (s.record e).send.status ≠ .abandoned) → s.retrievalDone t = true →
        s.settleItems = some (s.endRetrieval t)) ∧
      (∀ t : Retrieval,
        let sent : Prop := ∀ e, t.entry = some e → (s.record e).length ≤ (s.record e).send.cursor
        s.retrievalDone t = true ↔
          t.codes = [] ∧ ((t.todo = [] ∧ (t.part = .cells → sent)) ∨ (t.todo = [.cells] ∧ sent))) ∧
      (∀ e,
        let v := State.examine (s.setRecord e { s.record e with send := { (s.record e).send with mark := true } }) e
        s.takeKeyboardText e = { v with tx := { s.tx with keyboardText := some e } }) ∧
      (s.conn.state ≠ .connected → s.sendStep = none) ∧
      (s.conn.state = .connected →
        (∀ e, s.tx.keyboardText = some e → (s.record e).send.status = .pending → (s.record e).state.isClosed = true →
          (s.record e).length ≤ (s.record e).send.cursor →
          s.sendStep =
            some
              (State.examine
                (State.setRecord { s with tx := { s.tx with keyboardText := none } } e
                  { s.record e with send := ⟨.done, (s.record e).send.cursor, false⟩ }) e)) ∧
        ((∀ e, s.tx.keyboardText = some e →
            (s.record e).send.status ≠ .pending ∨ (s.record e).state.isClosed = false ∨
              (s.record e).send.cursor < (s.record e).length) →
          (s.tx.inFlight.isSome = true → s.sendStep = none) ∧
          (s.tx.inFlight = none → (∀ u, s.settleItems = some u → s.sendStep = some u) ∧
            (s.settleItems = none → s.sendStep = if s.working.rateIndex = s.rx.rate then s.arbitrate else none))))) ∧
   (∀ (p : Profile) (sh : ShiftState) (c : Code) (r : Row),
      let kept : ShiftState := if c = 0o040#7 ∧ p.unshiftOnSpace = true then .letters else sh
      ((p.codeRec c).sendAs = .none → p.convert sh c = none) ∧
      ((p.codeRec c).sendAs = .both r → p.convert sh c = some ([r], kept)) ∧
      ((p.codeRec c).sendAs = .letters r → sh = .letters → p.convert sh c = some ([r], kept)) ∧
      ((p.codeRec c).sendAs = .figures r → sh = .figures → p.convert sh c = some ([r], kept)) ∧
      (∀ k, (p.codeRec c).sendAs = .letters r → sh ≠ .letters → p.shiftCode .letters = some k →
        p.convert sh c = some ([k, r], .letters)) ∧
      (∀ k, (p.codeRec c).sendAs = .figures r → sh ≠ .figures → p.shiftCode .figures = some k →
        p.convert sh c = some ([k, r], .figures)) ∧
      ((p.codeRec c).sendAs = .letters r → sh ≠ .letters → p.shiftCode .letters = none → p.convert sh c = none) ∧
      ((p.codeRec c).sendAs = .figures r → sh ≠ .figures → p.shiftCode .figures = none → p.convert sh c = none))

/-! ### What every step keeps, of the records and of those who read them -/

/-- Every step keeps the store, its open-message stack and the print context stack sound: each block in one place, lengths and print
cursors in bounds, the contexts distinct, in use and strictly increasing in precedence (sections 3.1, 3.2, 3.3, 3.4, 4.5). Of the profiles,
which are kept well formed with them, a spoilt image that passes its check is so by the model's choice (log entry 5). -/
def Obligations.StepsKeepTheStoreAndThePrinterSound : Prop := KeptByStep State.StoreAndPrinterSound

/-- With these, every step keeps the claim table and the copy list sound, the punch and send cursors in bounds, every record that the
punch or a send item refers to in use and marked, and at most 64 cells unsent of a COMPOSING record whose send is PENDING (sections 3.2, 3.4, 5.3,
5.4, 6.4, 7.6, 7.7). That no
record is referred to by both send items is the model's reading (log entry 18), and that a spoilt image which passes its check is well formed its
choice (log entry 5). -/
def Obligations.StepsKeepTheClaimsAndTheReadersSound : Prop :=
  KeptByStep fun s => s.StoreAndPrinterSound ∧ s.ClaimsSound ∧ s.ReadersSound
end

