-- ==== Sys2Proof/Laws/State.lean ====
section
/-! SUPPORT. One lemma for each field of the state under each change of one block, so that no later proof unfolds a record
update; and the two forms of a change made twice. -/

namespace Sys2Proof.Machine.State

variable (s : State)

/-! ### `onRx` -/

@[simp] theorem onRx_powered (f : RxBlock → RxBlock) : (s.onRx f).powered = s.powered := rfl
@[simp] theorem onRx_rx (f : RxBlock → RxBlock) : (s.onRx f).rx = f s.rx := rfl
@[simp] theorem onRx_store (f : RxBlock → RxBlock) : (s.onRx f).store = s.store := rfl
@[simp] theorem onRx_print (f : RxBlock → RxBlock) : (s.onRx f).print = s.print := rfl
@[simp] theorem onRx_punch (f : RxBlock → RxBlock) : (s.onRx f).punch = s.punch := rfl
@[simp] theorem onRx_kb (f : RxBlock → RxBlock) : (s.onRx f).kb = s.kb := rfl
@[simp] theorem onRx_tx (f : RxBlock → RxBlock) : (s.onRx f).tx = s.tx := rfl
@[simp] theorem onRx_conn (f : RxBlock → RxBlock) : (s.onRx f).conn = s.conn := rfl
@[simp] theorem onRx_dir (f : RxBlock → RxBlock) : (s.onRx f).dir = s.dir := rfl
@[simp] theorem onRx_access (f : RxBlock → RxBlock) : (s.onRx f).access = s.access := rfl
@[simp] theorem onRx_motor (f : RxBlock → RxBlock) : (s.onRx f).motor = s.motor := rfl
@[simp] theorem onRx_profile (f : RxBlock → RxBlock) : (s.onRx f).profile = s.profile := rfl
@[simp] theorem onRx_spoilt (f : RxBlock → RxBlock) : (s.onRx f).spoilt = s.spoilt := rfl
@[simp] theorem onRx_pending (f : RxBlock → RxBlock) : (s.onRx f).pending = s.pending := rfl
@[simp] theorem onRx_working (f : RxBlock → RxBlock) : (s.onRx f).working = s.working := rfl
theorem onRx_onRx (f g : RxBlock → RxBlock) : (s.onRx f).onRx g = s.onRx fun b => g (f b) := rfl

/-! ### `onStore` -/

@[simp] theorem onStore_powered (f : StoreBlock → StoreBlock) : (s.onStore f).powered = s.powered := rfl
@[simp] theorem onStore_rx (f : StoreBlock → StoreBlock) : (s.onStore f).rx = s.rx := rfl
@[simp] theorem onStore_store (f : StoreBlock → StoreBlock) : (s.onStore f).store = f s.store := rfl
@[simp] theorem onStore_print (f : StoreBlock → StoreBlock) : (s.onStore f).print = s.print := rfl
@[simp] theorem onStore_punch (f : StoreBlock → StoreBlock) : (s.onStore f).punch = s.punch := rfl
@[simp] theorem onStore_kb (f : StoreBlock → StoreBlock) : (s.onStore f).kb = s.kb := rfl
@[simp] theorem onStore_tx (f : StoreBlock → StoreBlock) : (s.onStore f).tx = s.tx := rfl
@[simp] theorem onStore_conn (f : StoreBlock → StoreBlock) : (s.onStore f).conn = s.conn := rfl
@[simp] theorem onStore_dir (f : StoreBlock → StoreBlock) : (s.onStore f).dir = s.dir := rfl
@[simp] theorem onStore_access (f : StoreBlock → StoreBlock) : (s.onStore f).access = s.access := rfl
@[simp] theorem onStore_motor (f : StoreBlock → StoreBlock) : (s.onStore f).motor = s.motor := rfl
@[simp] theorem onStore_profile (f : StoreBlock → StoreBlock) : (s.onStore f).profile = s.profile := rfl
@[simp] theorem onStore_spoilt (f : StoreBlock → StoreBlock) : (s.onStore f).spoilt = s.spoilt := rfl
@[simp] theorem onStore_pending (f : StoreBlock → StoreBlock) : (s.onStore f).pending = s.pending := rfl
@[simp] theorem onStore_working (f : StoreBlock → StoreBlock) : (s.onStore f).working = s.working := rfl
theorem onStore_onStore (f g : StoreBlock → StoreBlock) : (s.onStore f).onStore g = s.onStore fun b => g (f b) := rfl

/-! ### `onPrint` -/

@[simp] theorem onPrint_powered (f : PrintBlock → PrintBlock) : (s.onPrint f).powered = s.powered := rfl
@[simp] theorem onPrint_rx (f : PrintBlock → PrintBlock) : (s.onPrint f).rx = s.rx := rfl
@[simp] theorem onPrint_store (f : PrintBlock → PrintBlock) : (s.onPrint f).store = s.store := rfl
@[simp] theorem onPrint_print (f : PrintBlock → PrintBlock) : (s.onPrint f).print = f s.print := rfl
@[simp] theorem onPrint_punch (f : PrintBlock → PrintBlock) : (s.onPrint f).punch = s.punch := rfl
@[simp] theorem onPrint_kb (f : PrintBlock → PrintBlock) : (s.onPrint f).kb = s.kb := rfl
@[simp] theorem onPrint_tx (f : PrintBlock → PrintBlock) : (s.onPrint f).tx = s.tx := rfl
@[simp] theorem onPrint_conn (f : PrintBlock → PrintBlock) : (s.onPrint f).conn = s.conn := rfl
@[simp] theorem onPrint_dir (f : PrintBlock → PrintBlock) : (s.onPrint f).dir = s.dir := rfl
@[simp] theorem onPrint_access (f : PrintBlock → PrintBlock) : (s.onPrint f).access = s.access := rfl
@[simp] theorem onPrint_motor (f : PrintBlock → PrintBlock) : (s.onPrint f).motor = s.motor := rfl
@[simp] theorem onPrint_profile (f : PrintBlock → PrintBlock) : (s.onPrint f).profile = s.profile := rfl
@[simp] theorem onPrint_spoilt (f : PrintBlock → PrintBlock) : (s.onPrint f).spoilt = s.spoilt := rfl
@[simp] theorem onPrint_pending (f : PrintBlock → PrintBlock) : (s.onPrint f).pending = s.pending := rfl
@[simp] theorem onPrint_working (f : PrintBlock → PrintBlock) : (s.onPrint f).working = s.working := rfl
theorem onPrint_onPrint (f g : PrintBlock → PrintBlock) : (s.onPrint f).onPrint g = s.onPrint fun b => g (f b) := rfl

/-! ### `onPunch` -/

@[simp] theorem onPunch_powered (f : PunchBlock → PunchBlock) : (s.onPunch f).powered = s.powered := rfl
@[simp] theorem onPunch_rx (f : PunchBlock → PunchBlock) : (s.onPunch f).rx = s.rx := rfl
@[simp] theorem onPunch_store (f : PunchBlock → PunchBlock) : (s.onPunch f).store = s.store := rfl
@[simp] theorem onPunch_print (f : PunchBlock → PunchBlock) : (s.onPunch f).print = s.print := rfl
@[simp] theorem onPunch_punch (f : PunchBlock → PunchBlock) : (s.onPunch f).punch = f s.punch := rfl
@[simp] theorem onPunch_kb (f : PunchBlock → PunchBlock) : (s.onPunch f).kb = s.kb := rfl
@[simp] theorem onPunch_tx (f : PunchBlock → PunchBlock) : (s.onPunch f).tx = s.tx := rfl
@[simp] theorem onPunch_conn (f : PunchBlock → PunchBlock) : (s.onPunch f).conn = s.conn := rfl
@[simp] theorem onPunch_dir (f : PunchBlock → PunchBlock) : (s.onPunch f).dir = s.dir := rfl
@[simp] theorem onPunch_access (f : PunchBlock → PunchBlock) : (s.onPunch f).access = s.access := rfl
@[simp] theorem onPunch_motor (f : PunchBlock → PunchBlock) : (s.onPunch f).motor = s.motor := rfl
@[simp] theorem onPunch_profile (f : PunchBlock → PunchBlock) : (s.onPunch f).profile = s.profile := rfl
@[simp] theorem onPunch_spoilt (f : PunchBlock → PunchBlock) : (s.onPunch f).spoilt = s.spoilt := rfl
@[simp] theorem onPunch_pending (f : PunchBlock → PunchBlock) : (s.onPunch f).pending = s.pending := rfl
@[simp] theorem onPunch_working (f : PunchBlock → PunchBlock) : (s.onPunch f).working = s.working := rfl
theorem onPunch_onPunch (f g : PunchBlock → PunchBlock) : (s.onPunch f).onPunch g = s.onPunch fun b => g (f b) := rfl

/-! ### `onKb` -/

@[simp] theorem onKb_powered (f : KbBlock → KbBlock) : (s.onKb f).powered = s.powered := rfl
@[simp] theorem onKb_rx (f : KbBlock → KbBlock) : (s.onKb f).rx = s.rx := rfl
@[simp] theorem onKb_store (f : KbBlock → KbBlock) : (s.onKb f).store = s.store := rfl
@[simp] theorem onKb_print (f : KbBlock → KbBlock) : (s.onKb f).print = s.print := rfl
@[simp] theorem onKb_punch (f : KbBlock → KbBlock) : (s.onKb f).punch = s.punch := rfl
@[simp] theorem onKb_kb (f : KbBlock → KbBlock) : (s.onKb f).kb = f s.kb := rfl
@[simp] theorem onKb_tx (f : KbBlock → KbBlock) : (s.onKb f).tx = s.tx := rfl
@[simp] theorem onKb_conn (f : KbBlock → KbBlock) : (s.onKb f).conn = s.conn := rfl
@[simp] theorem onKb_dir (f : KbBlock → KbBlock) : (s.onKb f).dir = s.dir := rfl
@[simp] theorem onKb_access (f : KbBlock → KbBlock) : (s.onKb f).access = s.access := rfl
@[simp] theorem onKb_motor (f : KbBlock → KbBlock) : (s.onKb f).motor = s.motor := rfl
@[simp] theorem onKb_profile (f : KbBlock → KbBlock) : (s.onKb f).profile = s.profile := rfl
@[simp] theorem onKb_spoilt (f : KbBlock → KbBlock) : (s.onKb f).spoilt = s.spoilt := rfl
@[simp] theorem onKb_pending (f : KbBlock → KbBlock) : (s.onKb f).pending = s.pending := rfl
@[simp] theorem onKb_working (f : KbBlock → KbBlock) : (s.onKb f).working = s.working := rfl
theorem onKb_onKb (f g : KbBlock → KbBlock) : (s.onKb f).onKb g = s.onKb fun b => g (f b) := rfl

/-! ### `onTx` -/

@[simp] theorem onTx_powered (f : TxBlock → TxBlock) : (s.onTx f).powered = s.powered := rfl
@[simp] theorem onTx_rx (f : TxBlock → TxBlock) : (s.onTx f).rx = s.rx := rfl
@[simp] theorem onTx_store (f : TxBlock → TxBlock) : (s.onTx f).store = s.store := rfl
@[simp] theorem onTx_print (f : TxBlock → TxBlock) : (s.onTx f).print = s.print := rfl
@[simp] theorem onTx_punch (f : TxBlock → TxBlock) : (s.onTx f).punch = s.punch := rfl
@[simp] theorem onTx_kb (f : TxBlock → TxBlock) : (s.onTx f).kb = s.kb := rfl
@[simp] theorem onTx_tx (f : TxBlock → TxBlock) : (s.onTx f).tx = f s.tx := rfl
@[simp] theorem onTx_conn (f : TxBlock → TxBlock) : (s.onTx f).conn = s.conn := rfl
@[simp] theorem onTx_dir (f : TxBlock → TxBlock) : (s.onTx f).dir = s.dir := rfl
@[simp] theorem onTx_access (f : TxBlock → TxBlock) : (s.onTx f).access = s.access := rfl
@[simp] theorem onTx_motor (f : TxBlock → TxBlock) : (s.onTx f).motor = s.motor := rfl
@[simp] theorem onTx_profile (f : TxBlock → TxBlock) : (s.onTx f).profile = s.profile := rfl
@[simp] theorem onTx_spoilt (f : TxBlock → TxBlock) : (s.onTx f).spoilt = s.spoilt := rfl
@[simp] theorem onTx_pending (f : TxBlock → TxBlock) : (s.onTx f).pending = s.pending := rfl
@[simp] theorem onTx_working (f : TxBlock → TxBlock) : (s.onTx f).working = s.working := rfl
theorem onTx_onTx (f g : TxBlock → TxBlock) : (s.onTx f).onTx g = s.onTx fun b => g (f b) := rfl

/-! ### `onConn` -/

@[simp] theorem onConn_powered (f : ConnBlock → ConnBlock) : (s.onConn f).powered = s.powered := rfl
@[simp] theorem onConn_rx (f : ConnBlock → ConnBlock) : (s.onConn f).rx = s.rx := rfl
@[simp] theorem onConn_store (f : ConnBlock → ConnBlock) : (s.onConn f).store = s.store := rfl
@[simp] theorem onConn_print (f : ConnBlock → ConnBlock) : (s.onConn f).print = s.print := rfl
@[simp] theorem onConn_punch (f : ConnBlock → ConnBlock) : (s.onConn f).punch = s.punch := rfl
@[simp] theorem onConn_kb (f : ConnBlock → ConnBlock) : (s.onConn f).kb = s.kb := rfl
@[simp] theorem onConn_tx (f : ConnBlock → ConnBlock) : (s.onConn f).tx = s.tx := rfl
@[simp] theorem onConn_conn (f : ConnBlock → ConnBlock) : (s.onConn f).conn = f s.conn := rfl
@[simp] theorem onConn_dir (f : ConnBlock → ConnBlock) : (s.onConn f).dir = s.dir := rfl
@[simp] theorem onConn_access (f : ConnBlock → ConnBlock) : (s.onConn f).access = s.access := rfl
@[simp] theorem onConn_motor (f : ConnBlock → ConnBlock) : (s.onConn f).motor = s.motor := rfl
@[simp] theorem onConn_profile (f : ConnBlock → ConnBlock) : (s.onConn f).profile = s.profile := rfl
@[simp] theorem onConn_spoilt (f : ConnBlock → ConnBlock) : (s.onConn f).spoilt = s.spoilt := rfl
@[simp] theorem onConn_pending (f : ConnBlock → ConnBlock) : (s.onConn f).pending = s.pending := rfl
@[simp] theorem onConn_working (f : ConnBlock → ConnBlock) : (s.onConn f).working = s.working := rfl
theorem onConn_onConn (f g : ConnBlock → ConnBlock) : (s.onConn f).onConn g = s.onConn fun b => g (f b) := rfl

/-! ### `onDir` -/

@[simp] theorem onDir_powered (f : DirBlock → DirBlock) : (s.onDir f).powered = s.powered := rfl
@[simp] theorem onDir_rx (f : DirBlock → DirBlock) : (s.onDir f).rx = s.rx := rfl
@[simp] theorem onDir_store (f : DirBlock → DirBlock) : (s.onDir f).store = s.store := rfl
@[simp] theorem onDir_print (f : DirBlock → DirBlock) : (s.onDir f).print = s.print := rfl
@[simp] theorem onDir_punch (f : DirBlock → DirBlock) : (s.onDir f).punch = s.punch := rfl
@[simp] theorem onDir_kb (f : DirBlock → DirBlock) : (s.onDir f).kb = s.kb := rfl
@[simp] theorem onDir_tx (f : DirBlock → DirBlock) : (s.onDir f).tx = s.tx := rfl
@[simp] theorem onDir_conn (f : DirBlock → DirBlock) : (s.onDir f).conn = s.conn := rfl
@[simp] theorem onDir_dir (f : DirBlock → DirBlock) : (s.onDir f).dir = f s.dir := rfl
@[simp] theorem onDir_access (f : DirBlock → DirBlock) : (s.onDir f).access = s.access := rfl
@[simp] theorem onDir_motor (f : DirBlock → DirBlock) : (s.onDir f).motor = s.motor := rfl
@[simp] theorem onDir_profile (f : DirBlock → DirBlock) : (s.onDir f).profile = s.profile := rfl
@[simp] theorem onDir_spoilt (f : DirBlock → DirBlock) : (s.onDir f).spoilt = s.spoilt := rfl
@[simp] theorem onDir_pending (f : DirBlock → DirBlock) : (s.onDir f).pending = s.pending := rfl
@[simp] theorem onDir_working (f : DirBlock → DirBlock) : (s.onDir f).working = s.working := rfl
theorem onDir_onDir (f g : DirBlock → DirBlock) : (s.onDir f).onDir g = s.onDir fun b => g (f b) := rfl

/-! ### `onAccess` -/

@[simp] theorem onAccess_powered (f : AccessBlock → AccessBlock) : (s.onAccess f).powered = s.powered := rfl
@[simp] theorem onAccess_rx (f : AccessBlock → AccessBlock) : (s.onAccess f).rx = s.rx := rfl
@[simp] theorem onAccess_store (f : AccessBlock → AccessBlock) : (s.onAccess f).store = s.store := rfl
@[simp] theorem onAccess_print (f : AccessBlock → AccessBlock) : (s.onAccess f).print = s.print := rfl
@[simp] theorem onAccess_punch (f : AccessBlock → AccessBlock) : (s.onAccess f).punch = s.punch := rfl
@[simp] theorem onAccess_kb (f : AccessBlock → AccessBlock) : (s.onAccess f).kb = s.kb := rfl
@[simp] theorem onAccess_tx (f : AccessBlock → AccessBlock) : (s.onAccess f).tx = s.tx := rfl
@[simp] theorem onAccess_conn (f : AccessBlock → AccessBlock) : (s.onAccess f).conn = s.conn := rfl
@[simp] theorem onAccess_dir (f : AccessBlock → AccessBlock) : (s.onAccess f).dir = s.dir := rfl
@[simp] theorem onAccess_access (f : AccessBlock → AccessBlock) : (s.onAccess f).access = f s.access := rfl
@[simp] theorem onAccess_motor (f : AccessBlock → AccessBlock) : (s.onAccess f).motor = s.motor := rfl
@[simp] theorem onAccess_profile (f : AccessBlock → AccessBlock) : (s.onAccess f).profile = s.profile := rfl
@[simp] theorem onAccess_spoilt (f : AccessBlock → AccessBlock) : (s.onAccess f).spoilt = s.spoilt := rfl
@[simp] theorem onAccess_pending (f : AccessBlock → AccessBlock) : (s.onAccess f).pending = s.pending := rfl
@[simp] theorem onAccess_working (f : AccessBlock → AccessBlock) : (s.onAccess f).working = s.working := rfl
theorem onAccess_onAccess (f g : AccessBlock → AccessBlock) : (s.onAccess f).onAccess g = s.onAccess fun b => g (f b) := rfl

/-! ### `onMotor` -/

@[simp] theorem onMotor_powered (f : MotorBlock → MotorBlock) : (s.onMotor f).powered = s.powered := rfl
@[simp] theorem onMotor_rx (f : MotorBlock → MotorBlock) : (s.onMotor f).rx = s.rx := rfl
@[simp] theorem onMotor_store (f : MotorBlock → MotorBlock) : (s.onMotor f).store = s.store := rfl
@[simp] theorem onMotor_print (f : MotorBlock → MotorBlock) : (s.onMotor f).print = s.print := rfl
@[simp] theorem onMotor_punch (f : MotorBlock → MotorBlock) : (s.onMotor f).punch = s.punch := rfl
@[simp] theorem onMotor_kb (f : MotorBlock → MotorBlock) : (s.onMotor f).kb = s.kb := rfl
@[simp] theorem onMotor_tx (f : MotorBlock → MotorBlock) : (s.onMotor f).tx = s.tx := rfl
@[simp] theorem onMotor_conn (f : MotorBlock → MotorBlock) : (s.onMotor f).conn = s.conn := rfl
@[simp] theorem onMotor_dir (f : MotorBlock → MotorBlock) : (s.onMotor f).dir = s.dir := rfl
@[simp] theorem onMotor_access (f : MotorBlock → MotorBlock) : (s.onMotor f).access = s.access := rfl
@[simp] theorem onMotor_motor (f : MotorBlock → MotorBlock) : (s.onMotor f).motor = f s.motor := rfl
@[simp] theorem onMotor_profile (f : MotorBlock → MotorBlock) : (s.onMotor f).profile = s.profile := rfl
@[simp] theorem onMotor_spoilt (f : MotorBlock → MotorBlock) : (s.onMotor f).spoilt = s.spoilt := rfl
@[simp] theorem onMotor_pending (f : MotorBlock → MotorBlock) : (s.onMotor f).pending = s.pending := rfl
@[simp] theorem onMotor_working (f : MotorBlock → MotorBlock) : (s.onMotor f).working = s.working := rfl
theorem onMotor_onMotor (f g : MotorBlock → MotorBlock) : (s.onMotor f).onMotor g = s.onMotor fun b => g (f b) := rfl

/-! ### `onProfile` -/

@[simp] theorem onProfile_powered (f : ProfileBlock → ProfileBlock) : (s.onProfile f).powered = s.powered := rfl
@[simp] theorem onProfile_rx (f : ProfileBlock → ProfileBlock) : (s.onProfile f).rx = s.rx := rfl
@[simp] theorem onProfile_store (f : ProfileBlock → ProfileBlock) : (s.onProfile f).store = s.store := rfl
@[simp] theorem onProfile_print (f : ProfileBlock → ProfileBlock) : (s.onProfile f).print = s.print := rfl
@[simp] theorem onProfile_punch (f : ProfileBlock → ProfileBlock) : (s.onProfile f).punch = s.punch := rfl
@[simp] theorem onProfile_kb (f : ProfileBlock → ProfileBlock) : (s.onProfile f).kb = s.kb := rfl
@[simp] theorem onProfile_tx (f : ProfileBlock → ProfileBlock) : (s.onProfile f).tx = s.tx := rfl
@[simp] theorem onProfile_conn (f : ProfileBlock → ProfileBlock) : (s.onProfile f).conn = s.conn := rfl
@[simp] theorem onProfile_dir (f : ProfileBlock → ProfileBlock) : (s.onProfile f).dir = s.dir := rfl
@[simp] theorem onProfile_access (f : ProfileBlock → ProfileBlock) : (s.onProfile f).access = s.access := rfl
@[simp] theorem onProfile_motor (f : ProfileBlock → ProfileBlock) : (s.onProfile f).motor = s.motor := rfl
@[simp] theorem onProfile_profile (f : ProfileBlock → ProfileBlock) : (s.onProfile f).profile = f s.profile := rfl
@[simp] theorem onProfile_spoilt (f : ProfileBlock → ProfileBlock) : (s.onProfile f).spoilt = s.spoilt := rfl
@[simp] theorem onProfile_pending (f : ProfileBlock → ProfileBlock) : (s.onProfile f).pending = s.pending := rfl
@[simp] theorem onProfile_working (f : ProfileBlock → ProfileBlock) : (s.onProfile f).working = (f s.profile).working := rfl
theorem onProfile_onProfile (f g : ProfileBlock → ProfileBlock) : (s.onProfile f).onProfile g = s.onProfile fun b => g (f b) := rfl

/-! ### Directory entries -/

@[simp] theorem setRecord_powered (e : Nat) (r : Record) : (s.setRecord e r).powered = s.powered := rfl
@[simp] theorem setRecord_rx (e : Nat) (r : Record) : (s.setRecord e r).rx = s.rx := rfl
@[simp] theorem setRecord_print (e : Nat) (r : Record) : (s.setRecord e r).print = s.print := rfl
@[simp] theorem setRecord_punch (e : Nat) (r : Record) : (s.setRecord e r).punch = s.punch := rfl
@[simp] theorem setRecord_kb (e : Nat) (r : Record) : (s.setRecord e r).kb = s.kb := rfl
@[simp] theorem setRecord_tx (e : Nat) (r : Record) : (s.setRecord e r).tx = s.tx := rfl
@[simp] theorem setRecord_conn (e : Nat) (r : Record) : (s.setRecord e r).conn = s.conn := rfl
@[simp] theorem setRecord_dir (e : Nat) (r : Record) : (s.setRecord e r).dir = s.dir := rfl
@[simp] theorem setRecord_access (e : Nat) (r : Record) : (s.setRecord e r).access = s.access := rfl
@[simp] theorem setRecord_motor (e : Nat) (r : Record) : (s.setRecord e r).motor = s.motor := rfl
@[simp] theorem setRecord_profile (e : Nat) (r : Record) : (s.setRecord e r).profile = s.profile := rfl
@[simp] theorem setRecord_spoilt (e : Nat) (r : Record) : (s.setRecord e r).spoilt = s.spoilt := rfl
@[simp] theorem setRecord_pending (e : Nat) (r : Record) : (s.setRecord e r).pending = s.pending := rfl
@[simp] theorem setRecord_working (e : Nat) (r : Record) : (s.setRecord e r).working = s.working := rfl
@[simp] theorem setRecord_store_cells (e : Nat) (r : Record) : (s.setRecord e r).store.cells = s.store.cells := rfl
@[simp] theorem setRecord_store_free (e : Nat) (r : Record) : (s.setRecord e r).store.free = s.store.free := rfl
@[simp] theorem setRecord_store_arrival (e : Nat) (r : Record) : (s.setRecord e r).store.arrival = s.store.arrival := rfl
@[simp] theorem setRecord_store_openStack (e : Nat) (r : Record) : (s.setRecord e r).store.openStack = s.store.openStack := rfl
@[simp] theorem setRecord_store_linePrint (e : Nat) (r : Record) : (s.setRecord e r).store.linePrint = s.store.linePrint := rfl
@[simp] theorem setRecord_store_localSerial (e : Nat) (r : Record) : (s.setRecord e r).store.localSerial = s.store.localSerial := rfl
@[simp] theorem setRecord_store_overflowCount (e : Nat) (r : Record) : (s.setRecord e r).store.overflowCount = s.store.overflowCount := rfl
@[simp] theorem setRecord_store_lostMessageCount (e : Nat) (r : Record) : (s.setRecord e r).store.lostMessageCount = s.store.lostMessageCount := rfl
@[simp] theorem setRecord_store_lostNoticeCount (e : Nat) (r : Record) : (s.setRecord e r).store.lostNoticeCount = s.store.lostNoticeCount := rfl
@[simp] theorem setRecord_store_strayEndCount (e : Nat) (r : Record) : (s.setRecord e r).store.strayEndCount = s.store.strayEndCount := rfl

/-- An entry number of the directory read after that entry is replaced. -/
theorem record_setRecord_self (e : Nat) (r : Record) (h : e - 1 < s.store.dir.length) :
    (s.setRecord e r).record e = r := by
  simp [record, setRecord, List.getD_eq_getElem?_getD, h]

/-- Another entry number of the directory read after an entry is replaced. -/
theorem record_setRecord_ne (e x : Nat) (r : Record) (h : e - 1 ≠ x - 1) :
    (s.setRecord e r).record x = s.record x := by
  simp [record, setRecord, List.getD_eq_getElem?_getD, List.getElem?_set_ne h]

/-! ### The queue of commands -/

@[simp] theorem withPending_powered (q : List Instr) : (s.withPending q).powered = s.powered := rfl
@[simp] theorem withPending_rx (q : List Instr) : (s.withPending q).rx = s.rx := rfl
@[simp] theorem withPending_store (q : List Instr) : (s.withPending q).store = s.store := rfl
@[simp] theorem withPending_print (q : List Instr) : (s.withPending q).print = s.print := rfl
@[simp] theorem withPending_punch (q : List Instr) : (s.withPending q).punch = s.punch := rfl
@[simp] theorem withPending_kb (q : List Instr) : (s.withPending q).kb = s.kb := rfl
@[simp] theorem withPending_tx (q : List Instr) : (s.withPending q).tx = s.tx := rfl
@[simp] theorem withPending_conn (q : List Instr) : (s.withPending q).conn = s.conn := rfl
@[simp] theorem withPending_dir (q : List Instr) : (s.withPending q).dir = s.dir := rfl
@[simp] theorem withPending_access (q : List Instr) : (s.withPending q).access = s.access := rfl
@[simp] theorem withPending_motor (q : List Instr) : (s.withPending q).motor = s.motor := rfl
@[simp] theorem withPending_profile (q : List Instr) : (s.withPending q).profile = s.profile := rfl
@[simp] theorem withPending_spoilt (q : List Instr) : (s.withPending q).spoilt = s.spoilt := rfl
@[simp] theorem withPending_pending (q : List Instr) : (s.withPending q).pending = q := rfl

end Sys2Proof.Machine.State
end

