-- ==== Sys2Proof/Laws/Frames.lean ====
section
/-! SUPPORT. What the store, the printer, the punch and the line transmitter leave alone. `State.outer` is the state with those
four blocks and the reply queue blanked (but for the paper sensors); each operation of theirs leaves it as it is, which says at once that the receiver, the
keyboard, the connection, the assemblers, access, the motor, the profile, the power and the waiting commands are unchanged. -/

namespace Sys2Proof.Machine
namespace State

/-- The state with the store, the printer, the punch, the line transmitter and the reply queue blanked, but for the paper
sensors' inputs. -/
def outer (s : State) : State :=
  { s with
    store := .start
    print := .start s.print.paperOut s.print.paperLow
    punch := .start .factory
    tx := .start
    dir := { s.dir with queue := [] } }

/-! ### What an equal `outer` says -/

/-- A part of the state that `outer` keeps is unchanged where `outer` is. -/
theorem of_outer {α : Type} (f : State → α) (hf : ∀ s, f s.outer = f s) {s t : State} (h : t.outer = s.outer) :
    f t = f s := by rw [← hf t, ← hf s, h]

theorem powered_of_outer {s t : State} (h : t.outer = s.outer) : t.powered = s.powered := of_outer State.powered (fun _ => rfl) h
theorem rx_of_outer {s t : State} (h : t.outer = s.outer) : t.rx = s.rx := of_outer State.rx (fun _ => rfl) h
theorem kb_of_outer {s t : State} (h : t.outer = s.outer) : t.kb = s.kb := of_outer State.kb (fun _ => rfl) h
theorem conn_of_outer {s t : State} (h : t.outer = s.outer) : t.conn = s.conn := of_outer State.conn (fun _ => rfl) h
theorem access_of_outer {s t : State} (h : t.outer = s.outer) : t.access = s.access := of_outer State.access (fun _ => rfl) h
theorem motor_of_outer {s t : State} (h : t.outer = s.outer) : t.motor = s.motor := of_outer State.motor (fun _ => rfl) h
theorem profile_of_outer {s t : State} (h : t.outer = s.outer) : t.profile = s.profile := of_outer State.profile (fun _ => rfl) h
theorem spoilt_of_outer {s t : State} (h : t.outer = s.outer) : t.spoilt = s.spoilt := of_outer State.spoilt (fun _ => rfl) h
theorem pending_of_outer {s t : State} (h : t.outer = s.outer) : t.pending = s.pending := of_outer State.pending (fun _ => rfl) h
theorem working_of_outer {s t : State} (h : t.outer = s.outer) : t.working = s.working :=
  of_outer State.working (fun _ => rfl) h
theorem paperOut_of_outer {s t : State} (h : t.outer = s.outer) : t.print.paperOut = s.print.paperOut :=
  of_outer (fun s => s.print.paperOut) (fun _ => rfl) h
theorem paperLow_of_outer {s t : State} (h : t.outer = s.outer) : t.print.paperLow = s.print.paperLow :=
  of_outer (fun s => s.print.paperLow) (fun _ => rfl) h
theorem lineAsm_of_outer {s t : State} (h : t.outer = s.outer) : t.dir.lineAsm = s.dir.lineAsm :=
  of_outer (fun s => s.dir.lineAsm) (fun _ => rfl) h
theorem localAsm_of_outer {s t : State} (h : t.outer = s.outer) : t.dir.localAsm = s.dir.localAsm :=
  of_outer (fun s => s.dir.localAsm) (fun _ => rfl) h
theorem overlongCount_of_outer {s t : State} (h : t.outer = s.outer) : t.dir.overlongCount = s.dir.overlongCount :=
  of_outer (fun s => s.dir.overlongCount) (fun _ => rfl) h
theorem malformedCount_of_outer {s t : State} (h : t.outer = s.outer) : t.dir.malformedCount = s.dir.malformedCount :=
  of_outer (fun s => s.dir.malformedCount) (fun _ => rfl) h
theorem overrunCount_of_outer {s t : State} (h : t.outer = s.outer) : t.dir.overrunCount = s.dir.overrunCount :=
  of_outer (fun s => s.dir.overrunCount) (fun _ => rfl) h

/-! ### Changes of one block -/

variable (s : State)

@[simp] theorem onStore_outer (f : StoreBlock → StoreBlock) : (s.onStore f).outer = s.outer := rfl
theorem onPrint_outer_of (f : PrintBlock → PrintBlock)
    (h : (f s.print).paperOut = s.print.paperOut ∧ (f s.print).paperLow = s.print.paperLow) :
    (s.onPrint f).outer = s.outer := by
  simp [outer, onPrint, h.1, h.2]
@[simp] theorem onPrint_outer (f : PrintBlock → PrintBlock) (h : ∀ b, (f b).paperOut = b.paperOut)
    (h' : ∀ b, (f b).paperLow = b.paperLow) : (s.onPrint f).outer = s.outer :=
  onPrint_outer_of s f ⟨h _, h' _⟩
@[simp] theorem onPunch_outer (f : PunchBlock → PunchBlock) : (s.onPunch f).outer = s.outer := rfl
@[simp] theorem onTx_outer (f : TxBlock → TxBlock) : (s.onTx f).outer = s.outer := rfl
@[simp] theorem setQueue_outer (q : List ReplyEntry) : (s.setQueue q).outer = s.outer := rfl
@[simp] theorem enqueue_outer (r : ReplyEntry) : (s.enqueue r).outer = s.outer := rfl
@[simp] theorem setRecord_outer (e : Nat) (r : Record) : (s.setRecord e r).outer = s.outer := rfl
@[simp] theorem freeRecord_outer (e : Nat) : (s.freeRecord e).outer = s.outer := rfl

/-- A fold of changes that each leave `outer` alone leaves it alone. -/
theorem foldl_outer {α : Type} (f : State → α → State) (h : ∀ s a, (f s a).outer = s.outer) (l : List α) :
    (l.foldl f s).outer = s.outer := by
  induction l generalizing s with
  | nil => rfl
  | cons a l ih => rw [List.foldl_cons, ih, h]

theorem forRecords_outer (f : State → Nat → State) (h : ∀ s a, (f s a).outer = s.outer) :
    (s.forRecords f).outer = s.outer := foldl_outer s f h _

/-! ### The store -/

@[simp] theorem examine_outer (e : Nat) : (s.examine e).outer = s.outer := by
  simp only [examine]
  repeat' split
  all_goals simp

@[simp] theorem updRecord_outer (e : Nat) (f : Record → Record) : (s.updRecord e f).outer = s.outer := by
  simp [updRecord]

@[simp] theorem putCell_outer (e : Nat) (c : Cell) : (s.putCell e c).outer = s.outer := by simp [putCell]

theorem append_outer {s t : State} {e : Nat} {c : Cell} (h : s.append e c = some t) : t.outer = s.outer := by
  simp only [append] at h
  split at h
  · cases h
  · split at h
    · split at h
      · cases h
      · cases h; simp
    · cases h; simp

theorem create_outer {s t : State} {r : Record} {e : Nat} (h : s.create r = some (t, e)) : t.outer = s.outer := by
  simp only [create] at h
  split at h <;> cases h
  simp

@[simp] theorem closeLineRecord_outer (e : Nat) : (s.closeLineRecord e).outer = s.outer := by simp [closeLineRecord]

@[simp] theorem closeEntry_outer (t : StackEntry) : (s.closeEntry t).outer = s.outer := by
  unfold closeEntry
  split <;> simp

@[simp] theorem setStack_outer (st : List StackEntry) : (s.setStack st).outer = s.outer := by simp [setStack]

@[simp] theorem cutFrom_outer (p : Nat) (st : List StackEntry) : (cutFrom p st s).outer = s.outer := by
  induction st generalizing s with
  | nil => simp [cutFrom]
  | cons t rest ih =>
    simp only [cutFrom]
    split <;> simp [ih]

@[simp] theorem topTakes_outer (st : RecState) : (s.topTakes st).outer = s.outer := by
  unfold topTakes
  split <;> simp

@[simp] theorem push_outer (t : StackEntry) : (s.push t).outer = s.outer := by simp [push]

@[simp] theorem pushVoid_outer (p : Nat) : (s.pushVoid p).outer = s.outer := by simp [pushVoid]

@[simp] theorem heading_outer (p n : Nat) : (s.heading p n).outer = s.outer := by
  simp only [heading]
  split
  · simp
  · rename_i h
    rw [push_outer, create_outer h]
    simp

@[simp] theorem endMessage_outer : s.endMessage.outer = s.outer := by
  unfold endMessage
  split
  · simp
  · simp only [topTakes_outer]
    split <;> simp

@[simp] theorem appendLine_outer (e : Nat) (c : Cell) : (s.appendLine e c).outer = s.outer := by
  unfold appendLine
  split
  · rename_i h
    exact append_outer h
  · simp

@[simp] theorem lineText_outer (c : Cell) : (s.lineText c).outer = s.outer := by
  unfold lineText
  split
  · split
    · simp
    · rename_i h
      rw [appendLine_outer, push_outer, create_outer h]
  · simp
  · rfl

@[simp] theorem offerText_outer (c : Code) (q : Quality) : (s.offerText c q).outer = s.outer := by
  unfold offerText
  split
  · simp
  · split <;> simp

@[simp] theorem teardown_outer : s.teardown.outer = s.outer := by simp [teardown]

@[simp] theorem takeSerial_outer : s.takeSerial.outer = s.outer := by simp [takeSerial]

theorem createKeyboard_outer {s t : State} {c : Code} (h : s.createKeyboard c = some t) : t.outer = s.outer := by
  unfold createKeyboard at h
  split at h
  · cases h
  · rename_i h'
    simp only [Option.map_eq_some_iff] at h
    obtain ⟨u, hu, rfl⟩ := h
    rw [takeSerial_outer, append_outer hu, create_outer h']

@[simp] theorem appendAll_outer (e : Nat) (cs : List Code) : (appendAll e cs s).outer = s.outer := by
  refine foldl_outer s _ (fun s c => ?_) cs
  cases h : s.append e ⟨c, .good⟩ with
  | none => rfl
  | some t => exact append_outer h

@[simp] theorem notice_outer (text : List Code) : (s.notice text).outer = s.outer := by
  simp only [notice]
  split
  · simp
  · rename_i s' e' h
    have hc : ∃ r, s.create r = some (s', e') := by
      split at h
      · exact ⟨_, h⟩
      · cases h
    obtain ⟨r, hr⟩ := hc
    simp [create_outer hr]

/-! ### The punch -/

@[simp] theorem claimRequest_outer (src : PunchSource) : (s.claimRequest src).1.outer = s.outer := by
  simp only [claimRequest]
  cases (s.punch.claim src).state <;> dsimp only
  case draining => simp
  all_goals split <;> simp

@[simp] theorem abandonMarked_outer (src : PunchSource) : (s.abandonMarked src).outer = s.outer := by
  refine forRecords_outer s _ (fun s e => ?_)
  dsimp only
  split <;> simp

@[simp] theorem releaseAll_outer (src : PunchSource) : (s.releaseAll src).outer = s.outer := by
  unfold releaseAll
  split <;> simp

@[simp] theorem releaseRequest_outer (src : PunchSource) : (s.releaseRequest src).1.outer = s.outer := by
  simp only [releaseRequest]
  cases (s.punch.claim src).state <;> dsimp only
  all_goals split <;> simp

@[simp] theorem tapeKey_outer : s.tapeKey.outer = s.outer := by
  unfold tapeKey
  split <;> simp

@[simp] theorem markPunch_outer (e : Nat) (m : Bool) : (s.markPunch e m).outer = s.outer := by simp [markPunch]

@[simp] theorem leaveCopyList_outer (e : Nat) : (s.leaveCopyList e).outer = s.outer := by
  simp only [leaveCopyList]
  split <;> simp

@[simp] theorem dropBeneath_outer (e : Nat) : (s.dropBeneath e).outer = s.outer := by
  unfold dropBeneath
  split
  · rfl
  · split <;> simp

@[simp] theorem deleteRecord_outer (e : Nat) : (s.deleteRecord e).outer = s.outer := by
  simp only [deleteRecord]
  split
  · split <;> simp
  · rfl

@[simp] theorem requestDelete_outer (e : Nat) : (s.requestDelete e).1.outer = s.outer := by
  simp only [requestDelete]
  repeat' split
  all_goals simp

@[simp] theorem requestCopy_outer (e : Nat) : (s.requestCopy e).1.outer = s.outer := by
  simp only [requestCopy]
  repeat' split
  all_goals simp

@[simp] theorem beginBlank_outer (p : Piece) (n : Nat) : (s.beginBlank p n).outer = s.outer := by simp [beginBlank]
@[simp] theorem beginCodes_outer (p : Piece) (cs : List Code) : (s.beginCodes p cs).outer = s.outer := by simp [beginCodes]
@[simp] theorem countPunchSkip_outer : s.countPunchSkip.outer = s.outer := by simp [countPunchSkip]

@[simp] theorem takeFraming_outer (c : Code) (rest : List Code) : (s.takeFraming c rest).outer = s.outer := by
  simp only [takeFraming]
  split <;> simp

@[simp] theorem advancePunch_outer (e : Nat) : (s.advancePunch e).outer = s.outer := by simp [advancePunch]

@[simp] theorem takePunchCell_outer (e : Nat) : (s.takePunchCell e).outer = s.outer := by
  simp only [takePunchCell]
  repeat' split
  all_goals simp

@[simp] theorem letGoPunch_outer (e : Nat) : (s.letGoPunch e).outer = s.outer := by simp [letGoPunch]

@[simp] theorem finishPunch_outer (e : Nat) : (s.finishPunch e).outer = s.outer := by
  simp only [finishPunch, letGoPunch_outer]
  split <;> simp

@[simp] theorem choosePunch_outer (e : Nat) : (s.choosePunch e).outer = s.outer := by simp [choosePunch]

@[simp] theorem handover_outer : s.handover.outer = s.outer := by
  unfold handover
  split <;> simp

@[simp] theorem trailerEnd_outer : s.trailerEnd.outer = s.outer := by
  unfold trailerEnd
  split <;> simp

@[simp] theorem restartRecord_outer : s.restartRecord.outer = s.outer := by
  simp only [restartRecord]
  repeat' split
  all_goals simp

@[simp] theorem endPiece_outer : s.endPiece.outer = s.outer := by
  simp only [endPiece]
  repeat' split
  all_goals simp

theorem goOnPunching_outer {s t : State} {e : Nat} (h : s.goOnPunching e = some t) : t.outer = s.outer := by
  simp only [goOnPunching] at h
  repeat' split at h
  all_goals cases h
  all_goals simp

theorem serveHolder_outer {s t : State} (h : s.serveHolder = some t) : t.outer = s.outer := by
  simp only [serveHolder] at h
  repeat' split at h
  all_goals cases h
  all_goals simp

theorem punchBoundary_outer {s t : State} (h : s.punchBoundary = some t) : t.outer = s.outer := by
  simp only [punchBoundary] at h
  split at h
  · cases h; simp
  · split at h
    · cases h; simp
    · split at h
      · exact goOnPunching_outer h
      · exact serveHolder_outer h

theorem punchStep_outer {s t : State} (h : s.punchStep = some t) : t.outer = s.outer := by
  simp only [punchStep] at h
  split at h
  · cases h
  · split at h
    · repeat' split at h
      all_goals cases h
      all_goals simp [issueRow]
    · split at h
      · cases h; simp
      · split at h
        · cases h; simp
        · split at h
          · exact punchBoundary_outer h
          · cases h; simp

@[simp] theorem newReel_outer : s.newReel.outer = s.outer := by simp [newReel]

theorem newTapeRequest_outer {s t : State} (h : s.newTapeRequest = some t) : t.outer = s.outer := by
  simp only [newTapeRequest] at h
  repeat' split at h
  all_goals cases h
  all_goals simp

theorem feedRequest_outer {s t : State} (h : s.feedRequest = some t) : t.outer = s.outer := by
  simp only [feedRequest] at h
  split at h <;> cases h
  simp

@[simp] theorem rowDone_outer : s.rowDone.outer = s.outer := by
  simp only [rowDone]
  repeat' split
  all_goals simp

@[simp] theorem rowFault_outer : s.rowFault.outer = s.outer := by
  unfold rowFault
  split <;> simp

@[simp] theorem clearPunchFault_outer : s.clearPunchFault.outer = s.outer := by
  unfold clearPunchFault
  split <;> simp

@[simp] theorem resetPunch_outer : s.resetPunch.outer = s.outer := by
  unfold resetPunch
  rw [forRecords_outer _ _ (fun s e => by simp)]
  simp

/-! ### The printer -/

@[simp] theorem markPrint_outer (e : Nat) (m : Bool) : (s.markPrint e m).outer = s.outer := by simp [markPrint]
@[simp] theorem pushContext_outer (e : Nat) : (s.pushContext e).outer = s.outer := by simp [pushContext]
@[simp] theorem markMidLine_outer : s.markMidLine.outer = s.outer := by
  refine onPrint_outer s _ (fun b => ?_) (fun b => ?_) <;> split <;> rfl

@[simp] theorem preempt_outer (c : Nat) : (s.preempt c).outer = s.outer := by simp [preempt]

@[simp] theorem dropTop_outer (d : Bool) : (s.dropTop d).outer = s.outer := by
  unfold dropTop
  split <;> simp

@[simp] theorem resume_outer (e : Nat) : (s.resume e).outer = s.outer := by simp [resume]

@[simp] theorem afterPop_outer (cs : List PrintContext) : (afterPop cs s).outer = s.outer := by
  induction cs generalizing s with
  | nil => rfl
  | cons t rest ih =>
    simp only [afterPop]
    split
    · simp [ih]
    · split <;> simp

@[simp] theorem popContext_outer (d : Bool) : (s.popContext d).outer = s.outer := by simp [popContext]
@[simp] theorem setLineStart_outer (n : Nat) : (s.setLineStart n).outer = s.outer := by
  refine onPrint_outer s _ (fun b => ?_) (fun b => ?_) <;> split <;> rfl

@[simp] theorem takePrintCell_outer (e : Nat) : (s.takePrintCell e).outer = s.outer := by
  simp only [takePrintCell]
  split <;> simp

@[simp] theorem cellDone_outer (e : Nat) : (s.cellDone e).outer = s.outer := by
  simp only [cellDone]
  split <;> simp

@[simp] theorem rewind_outer (c : PrintContext) : (s.rewind c).outer = s.outer := by
  simp only [rewind]
  split
  · rw [onPrint_outer]
    · simp
    · intro b
      split <;> rfl
    · intro b
      split <;> rfl
  · rfl

@[simp] theorem endSequence_outer : s.endSequence.outer = s.outer := by
  simp only [endSequence]
  repeat' split
  all_goals simp

theorem printBoundary_outer {s t : State} (h : s.printBoundary = some t) : t.outer = s.outer := by
  simp only [printBoundary] at h
  split at h
  · simp only [Option.map_eq_some_iff] at h
    obtain ⟨e, -, rfl⟩ := h
    simp
  · repeat' split at h
    all_goals cases h
    all_goals simp

theorem printStep_outer {s t : State} (h : s.printStep = some t) : t.outer = s.outer := by
  simp only [printStep] at h
  split at h
  · cases h
  · split at h
    · repeat' split at h
      all_goals cases h
      all_goals simp
    · split at h
      · cases h; simp
      · split at h
        · exact printBoundary_outer h
        · cases h; simp

@[simp] theorem complete_paperOut (p : Profile) (op : PrinterOp) (b : PrintBlock) :
    (b.complete p op).paperOut = b.paperOut := by
  unfold PrintBlock.complete
  split <;> try rfl
  unfold PrintBlock.marginBell
  split <;> rfl

@[simp] theorem complete_paperLow (p : Profile) (op : PrinterOp) (b : PrintBlock) :
    (b.complete p op).paperLow = b.paperLow := by
  unfold PrintBlock.complete
  split <;> try rfl
  unfold PrintBlock.marginBell
  split <;> rfl

@[simp] theorem operationDone_outer : s.operationDone.outer = s.outer := by
  unfold operationDone
  split
  · rfl
  · exact onPrint_outer_of s _ ⟨by simp, by simp⟩

@[simp] theorem operationFault_outer : s.operationFault.outer = s.outer := by
  unfold operationFault
  split <;> simp

@[simp] theorem clearPrintFault_outer : s.clearPrintFault.outer = s.outer := by
  unfold clearPrintFault
  split <;> simp

@[simp] theorem resetPrint_outer : s.resetPrint.outer = s.outer := by
  unfold resetPrint
  rw [foldl_outer _ _ (fun s e => by simp)]
  simp

/-! ### The line transmitter -/

@[simp] theorem breakRequest_outer : s.breakRequest.outer = s.outer := by
  simp only [breakRequest]
  split <;> split <;> simp

@[simp] theorem answerbackRequest_outer : s.answerbackRequest.outer = s.outer := by
  unfold answerbackRequest
  repeat' split
  all_goals simp

@[simp] theorem requestRetrieval_outer (e : Nat) : (s.requestRetrieval e).1.outer = s.outer := by
  simp only [requestRetrieval]
  repeat' split
  all_goals simp

@[simp] theorem letGoSend_outer (e : Nat) (g : Bool) : (s.letGoSend e g).outer = s.outer := by simp [letGoSend]

@[simp] theorem dropItems_outer : s.dropItems.outer = s.outer := by
  unfold dropItems
  rw [foldl_outer _ _ (fun s e => by simp)]
  simp

@[simp] theorem abandonSends_outer (ok : Record → Bool) : (s.abandonSends ok).outer = s.outer := by
  refine forRecords_outer s _ (fun s e => ?_)
  dsimp only
  split <;> simp

@[simp] theorem discardSends_outer : s.discardSends.outer = s.outer := by simp [discardSends]
@[simp] theorem resetTx_outer : s.resetTx.outer = s.outer := by simp [resetTx]
@[simp] theorem countSendSkip_outer : s.countSendSkip.outer = s.outer := by simp [countSendSkip]
@[simp] theorem advanceSend_outer (e : Nat) : (s.advanceSend e).outer = s.outer := by simp [advanceSend]
@[simp] theorem setRetrieval_outer (t : Retrieval) : (s.setRetrieval t).outer = s.outer := by simp [setRetrieval]

@[simp] theorem endRetrieval_outer (t : Retrieval) : (s.endRetrieval t).outer = s.outer := by
  simp only [endRetrieval]
  split <;> simp

@[simp] theorem abandonRetrieval_outer (t : Retrieval) (e : Nat) : (s.abandonRetrieval t e).outer = s.outer := by
  simp [abandonRetrieval]

@[simp] theorem takeKeyboardText_outer (e : Nat) : (s.takeKeyboardText e).outer = s.outer := by simp [takeKeyboardText]
@[simp] theorem endKeyboardText_outer (e : Nat) : (s.endKeyboardText e).outer = s.outer := by simp [endKeyboardText]
@[simp] theorem dropKeyboardText_outer (e : Nat) : (s.dropKeyboardText e).outer = s.outer := by simp [dropKeyboardText]
@[simp] theorem startBreak_outer : s.startBreak.outer = s.outer := by simp [startBreak]

theorem settleItems_outer {s t : State} (h : s.settleItems = some t) : t.outer = s.outer := by
  simp only [settleItems] at h
  repeat' split at h
  all_goals try simp only [Option.map_eq_some_iff, Option.some.injEq] at h
  · obtain ⟨e, -, ht⟩ := h
    rw [← ht, abandonRetrieval_outer]
  · rw [← h, endRetrieval_outer]
  · rw [← h, dropKeyboardText_outer]
  · cases h
  · obtain ⟨e, -, ht⟩ := h
    rw [← ht, takeKeyboardText_outer]

end State
end Sys2Proof.Machine
end

