-- ==== Sys2Proof/Laws/Steady.lean ====
section
/-! SUPPORT. What no operation of the connection, the arbiter or the motor changes of itself. `State.steady` blanks all that they may
change; what it keeps is the power, the waiting commands, the inputs, the attended flag, the keys and the keyboard's counters, the
receive shift state and the statistics, the attempts counter with EXPIRED and FROZEN, the image, the commit in progress and the
directive counters. -/

namespace Sys2Proof.Machine
namespace State

/-- The state with all that may follow an event at once blanked. -/
def steady (s : State) : State :=
  { s with
    rx := { s.rx with state := .watching, rate := 0, transitions := [], samples := [], be := 0 }
    store := .start
    print := .start s.print.paperOut s.print.paperLow
    punch := .start .factory
    kb := { s.kb with entryFlag := false, closeTimer := none }
    tx := .start
    conn :=
      { s.conn with
        state := .idle, lineType := .switched, loop := false, clearingSpace := false, stableMark := none,
        answerTimer := none, callTimer := none, sustainedSpace := none, lineIdle := none, clearingTimer := none,
        callAnswerable := false, selected := false }
    dir := { s.dir with lineAsm := .start, localAsm := .start, queue := [] }
    access := { s.access with lineOpen := .closed, localOpen := .closed }
    motor := .start
    profile := { s.profile with working := .factory, fault := false } }

/-- What leaves `outer` alone leaves `steady` alone. -/
theorem steady_of_outer {s t : State} (h : t.outer = s.outer) : t.steady = s.steady :=
  of_outer steady (fun _ => rfl) h

/-- A part of the state that `steady` keeps is unchanged where `steady` is. -/
theorem of_steady {α : Type} (f : State → α) (hf : ∀ s, f s.steady = f s) {s t : State} (h : t.steady = s.steady) :
    f t = f s := by rw [← hf t, ← hf s, h]

variable (s : State)

@[simp] theorem onTx_steady (f : TxBlock → TxBlock) : (s.onTx f).steady = s.steady := rfl
@[simp] theorem onStore_steady (f : StoreBlock → StoreBlock) : (s.onStore f).steady = s.steady := rfl
@[simp] theorem onPunch_steady (f : PunchBlock → PunchBlock) : (s.onPunch f).steady = s.steady := rfl
@[simp] theorem onMotor_steady (f : MotorBlock → MotorBlock) : (s.onMotor f).steady = s.steady := rfl
@[simp] theorem setQueue_steady (q : List ReplyEntry) : (s.setQueue q).steady = s.steady := rfl
@[simp] theorem abortLineAsm_steady : s.abortLineAsm.steady = s.steady := rfl
@[simp] theorem abortLocalAsm_steady : s.abortLocalAsm.steady = s.steady := rfl
@[simp] theorem closeLineOpen_steady : (s.onAccess fun a => { a with lineOpen := .closed }).steady = s.steady := rfl
@[simp] theorem closeOpens_steady :
    (s.onAccess fun a => { a with lineOpen := .closed, localOpen := .closed }).steady = s.steady := rfl
@[simp] theorem clearEntry_steady : (s.onKb fun b => { b with entryFlag := false }).steady = s.steady := rfl
@[simp] theorem stopClose_steady : (s.onKb fun b => { b with closeTimer := none }).steady = s.steady := rfl
@[simp] theorem stopReceiver_steady :
    (s.onRx fun b => { b with state := .watching, transitions := [], samples := [] }).steady = s.steady := rfl
@[simp] theorem onWorking_steady (f : Profile → Profile) : (s.onWorking f).steady = s.steady := rfl

/-- A change of the connection that keeps the inputs and the attended flag. -/
@[simp] theorem onConn_steady (f : ConnBlock → ConnBlock) (h : ∀ c, (f c).lineCond = c.lineCond)
    (h' : ∀ c, (f c).callInput = c.callInput) (h'' : ∀ c, (f c).attended = c.attended) :
    (s.onConn f).steady = s.steady := by
  simp [steady, onConn, h, h', h'']

/-! ### The connection -/

@[simp] theorem noticeTraffic_steady : s.noticeTraffic.steady = s.steady := by
  unfold noticeTraffic
  split <;> simp

@[simp] theorem changeWorking_steady (p : Profile) : (s.changeWorking p).steady = s.steady := by
  simp only [changeWorking]
  have h (t : State) : (t.onPrint (PrintBlock.fitForm p)).steady = t.steady :=
    steady_of_outer (onPrint_outer t _ (fun _ => rfl) (fun _ => rfl))
  split <;> split <;> simp [h]

@[simp] theorem reload_steady : s.reload.steady = s.steady := by
  unfold reload
  rw [changeWorking_steady]
  rfl

@[simp] theorem closeComposing_steady : s.closeComposing.steady = s.steady := by
  unfold closeComposing
  split
  · simp
  · rw [steady_of_outer (updRecord_outer _ _ _)]
    simp

@[simp] theorem teardown_steady : s.teardown.steady = s.steady := steady_of_outer (teardown_outer s)
@[simp] theorem resetTx_steady : s.resetTx.steady = s.steady := steady_of_outer (resetTx_outer s)
@[simp] theorem resetPunch_steady : s.resetPunch.steady = s.steady := steady_of_outer (resetPunch_outer s)
@[simp] theorem resetPrint_steady : s.resetPrint.steady = s.steady := steady_of_outer (resetPrint_outer s)
@[simp] theorem discardSends_steady : s.discardSends.steady = s.steady := steady_of_outer (discardSends_outer s)
@[simp] theorem releaseAll_steady (src : PunchSource) : (s.releaseAll src).steady = s.steady :=
  steady_of_outer (releaseAll_outer s src)

@[simp] theorem stationResetEffect_steady : s.stationResetEffect.steady = s.steady := by
  simp [stationResetEffect]

@[simp] theorem leaveConnected_steady (t : ConnState) : (s.leaveConnected t).steady = s.steady := by
  simp only [leaveConnected]
  split <;> simp

@[simp] theorem enterClearing_steady : s.enterClearing.steady = s.steady := by
  simp only [enterClearing]
  split <;> simp

@[simp] theorem enterLost_steady : s.enterLost.steady = s.steady := by simp [enterLost]

@[simp] theorem clearRequest_steady : s.clearRequest.steady = s.steady := by
  unfold clearRequest
  split <;> simp

@[simp] theorem endClearing_steady : s.endClearing.steady = s.steady := by simp [endClearing]

theorem adoptLineType_steady {s t : State} (h : s.adoptLineType = some t) : t.steady = s.steady := by
  unfold adoptLineType at h
  split at h <;> cases h
  simp

theorem adoptRate_steady {s t : State} (h : s.adoptRate = some t) : t.steady = s.steady := by
  unfold adoptRate at h
  split at h <;> cases h
  rfl

@[simp] theorem makeDeferred_steady (c r : Bool) : (s.makeDeferred c r).steady = s.steady := by
  simp only [makeDeferred]
  split <;> split <;> simp

@[simp] theorem emptyQueue_steady : s.emptyQueue.steady = s.steady := by simp [emptyQueue]

@[simp] theorem removeHead_steady : s.removeHead.steady = s.steady := by
  unfold removeHead
  split <;> simp

/-! ### The arbiter -/

@[simp] theorem replySent_steady : s.replySent.steady = s.steady := by
  simp only [replySent]
  repeat' split
  all_goals simp

@[simp] theorem codeDone_steady (i : TxItem) : (s.codeDone i).steady = s.steady := by
  unfold codeDone
  repeat' split
  all_goals first | rfl | simp | exact steady_of_outer (advanceSend_outer _ _)

@[simp] theorem countSendSkip_steady : s.countSendSkip.steady = s.steady := rfl

@[simp] theorem sendCode_steady (i : TxItem) (c : Code) : (s.sendCode i c).steady = s.steady := by
  unfold sendCode
  split <;> simp

@[simp] theorem sendCell_steady (i : TxItem) (e : Nat) : (s.sendCell i e).steady = s.steady := by simp [sendCell]

@[simp] theorem sendAnswerback_steady (cs : List Code) : (s.sendAnswerback cs).steady = s.steady := by
  cases cs <;> simp [sendAnswerback]

@[simp] theorem sendReply_steady (cs : List Code) : (s.sendReply cs).steady = s.steady := by
  cases cs <;> simp [sendReply]

@[simp] theorem setRetrieval_steady (t : Retrieval) : (s.setRetrieval t).steady = s.steady := rfl

@[simp] theorem endRetrieval_steady (t : Retrieval) : (s.endRetrieval t).steady = s.steady :=
  steady_of_outer (endRetrieval_outer s t)

@[simp] theorem sendRetrieval_steady (t : Retrieval) : (s.sendRetrieval t).steady = s.steady := by
  unfold sendRetrieval
  split
  · simp
  · dsimp only
    generalize (if t.part = RetrievalPart.cells then t.entry.filter fun e => !s.allSent e else none) = cell
    cases cell with
    | some e => simp
    | none =>
      dsimp only
      split <;> simp

theorem sendText_steady {s t : State} (h : s.sendText = some t) : t.steady = s.steady := by
  unfold sendText at h
  repeat' split at h
  all_goals cases h
  all_goals simp

theorem arbitrate_steady {s t : State} (h : s.arbitrate = some t) : t.steady = s.steady := by
  unfold arbitrate at h
  split at h
  · cases h
    exact steady_of_outer (startBreak_outer s)
  · split at h
    · cases h; simp
    · cases h; simp
    · cases h; simp
    · split at h
      · cases h; simp
      · exact sendText_steady h

theorem sendStep_steady {s t : State} (h : s.sendStep = some t) : t.steady = s.steady := by
  unfold sendStep at h
  split at h
  · cases h
  · split at h
    · cases h
      exact steady_of_outer (endKeyboardText_outer s _)
    · split at h
      · cases h
      · split at h
        · rename_i hi
          cases h
          exact steady_of_outer (settleItems_outer hi)
        · split at h
          · cases h
          · exact arbitrate_steady h

@[simp] theorem characterComplete_steady : s.characterComplete.steady = s.steady := by
  unfold characterComplete
  split <;> simp

@[simp] theorem breakComplete_steady : s.breakComplete.steady = s.steady := by
  unfold breakComplete
  split <;> simp

/-! ### What follows an event -/

theorem motorStep_steady {s t : State} (h : s.motorStep = some t) : t.steady = s.steady := by
  unfold motorStep at h
  repeat' split at h
  all_goals cases h
  all_goals simp

/-- What `firstOf` answers, one of its alternatives answered. -/
theorem firstOf_some {fs : List (State → Option State)} {s t : State} (h : firstOf fs s = some t) :
    ∃ f ∈ fs, f s = some t := by
  induction fs with
  | nil => cases h
  | cons f fs ih =>
    simp only [firstOf] at h
    split at h
    · rename_i u hu
      cases h
      exact ⟨f, List.mem_cons_self, hu⟩
    · obtain ⟨g, hg, ht⟩ := ih h
      exact ⟨g, List.mem_cons_of_mem f hg, ht⟩

/-- One step of what follows an event is a step of one of the six blocks. -/
theorem settleStep_cases {s t : State} (h : s.settleStep = some t) :
    s.adoptLineType = some t ∨ s.adoptRate = some t ∨ s.sendStep = some t ∨ s.printStep = some t ∨ s.punchStep = some t ∨
      s.motorStep = some t := by
  simpa [or_assoc] using firstOf_some h

theorem settleStep_steady {s t : State} (h : s.settleStep = some t) : t.steady = s.steady := by
  rcases settleStep_cases h with h | h | h | h | h | h
  · exact adoptLineType_steady h
  · exact adoptRate_steady h
  · exact sendStep_steady h
  · exact steady_of_outer (printStep_outer h)
  · exact steady_of_outer (punchStep_outer h)
  · exact motorStep_steady h

/-- What each repetition keeps, the repetition keeps. -/
theorem repeatStep_keeps {P : State → Prop} {f : State → Option State} (hf : ∀ s t, f s = some t → P s → P t) (n : Nat)
    (hs : P s) : P (repeatStep f n s) := by
  induction n generalizing s with
  | zero => exact hs
  | succ n ih =>
    unfold repeatStep
    split
    · rename_i t ht
      exact ih t (hf s t ht hs)
    · exact hs

/-- What each step that follows an event keeps, all that follows it keeps. -/
theorem settle_keeps {P : State → Prop} (hf : ∀ s t : State, s.settleStep = some t → P s → P t) (hs : P s) :
    P s.settle := repeatStep_keeps s hf _ hs

end State
end Sys2Proof.Machine
end

