-- ==== Sys2Proof/Laws/Directives.lean ====
section
/-! SUPPORT. What no directive and no assembler changes. `State.rooted` blanks, beyond `State.steady`, the statistics, access, the
directive counters and the commit in progress; what it keeps is the power, the waiting commands, the inputs, the attended flag,
the keys, the receive shift state and the image. -/

namespace Sys2Proof.Machine
namespace State

/-- The state with all that a directive may change blanked. -/
def rooted (s : State) : State :=
  { s.steady with
    rx := { s.steady.rx with stats := .zero }
    dir := .start
    access := .start
    profile := { s.steady.profile with commit := none } }

/-- What leaves `steady` alone leaves `rooted` alone. -/
theorem rooted_of_steady {s t : State} (h : t.steady = s.steady) : t.rooted = s.rooted := of_steady rooted (fun _ => rfl) h

/-- What leaves `outer` alone leaves `rooted` alone. -/
theorem rooted_of_outer {s t : State} (h : t.outer = s.outer) : t.rooted = s.rooted := rooted_of_steady (steady_of_outer h)

/-- A part of the state that `rooted` keeps is unchanged where `rooted` is. -/
theorem of_rooted {α : Type} (f : State → α) (hf : ∀ s, f s.rooted = f s) {s t : State} (h : t.rooted = s.rooted) :
    f t = f s := by rw [← hf t, ← hf s, h]

theorem pending_of_rooted {s t : State} (h : t.rooted = s.rooted) : t.pending = s.pending :=
  of_rooted State.pending (fun _ => rfl) h
theorem powered_of_rooted {s t : State} (h : t.rooted = s.rooted) : t.powered = s.powered :=
  of_rooted State.powered (fun _ => rfl) h
theorem attended_of_rooted {s t : State} (h : t.rooted = s.rooted) : t.conn.attended = s.conn.attended :=
  of_rooted (fun s => s.conn.attended) (fun _ => rfl) h
theorem keys_of_rooted {s t : State} (h : t.rooted = s.rooted) : t.kb.keys = s.kb.keys :=
  of_rooted (fun s => s.kb.keys) (fun _ => rfl) h
theorem image_of_rooted {s t : State} (h : t.rooted = s.rooted) : t.profile.image = s.profile.image :=
  of_rooted (fun s => s.profile.image) (fun _ => rfl) h

variable (s : State)

@[simp] theorem onStore_rooted (f : StoreBlock → StoreBlock) : (s.onStore f).rooted = s.rooted := rfl
@[simp] theorem onDir_rooted (f : DirBlock → DirBlock) : (s.onDir f).rooted = s.rooted := rfl
@[simp] theorem onAccess_rooted (f : AccessBlock → AccessBlock) : (s.onAccess f).rooted = s.rooted := rfl
@[simp] theorem onWorking_rooted (f : Profile → Profile) : (s.onWorking f).rooted = s.rooted := rfl
@[simp] theorem enqueue_rooted (r : ReplyEntry) : (s.enqueue r).rooted = s.rooted := rfl
@[simp] theorem setOpen_rooted (src : DirSource) (o : OpenState) : (s.setOpen src o).rooted = s.rooted := rfl
@[simp] theorem setFrozen_rooted : s.setFrozen.rooted = s.rooted := rfl
@[simp] theorem setAccessNumber_rooted (w : Nat) (n : Option (List Code)) :
    (s.setAccessNumber w n).rooted = s.rooted := rfl
@[simp] theorem notice_rooted (t : List Code) : (s.notice t).rooted = s.rooted := rooted_of_outer (notice_outer s t)
@[simp] theorem changeWorking_rooted (p : Profile) : (s.changeWorking p).rooted = s.rooted :=
  rooted_of_steady (changeWorking_steady s p)
@[simp] theorem stationResetEffect_rooted : s.stationResetEffect.rooted = s.rooted :=
  rooted_of_steady (stationResetEffect_steady s)
@[simp] theorem clearRequest_rooted : s.clearRequest.rooted = s.rooted := rooted_of_steady (clearRequest_steady s)
@[simp] theorem closeComposing_rooted : s.closeComposing.rooted = s.rooted := rooted_of_steady (closeComposing_steady s)

@[simp] theorem deselect_rooted : s.deselect.rooted = s.rooted := by
  unfold deselect
  split
  · exact rooted_of_steady (by simp)
  · rfl

@[simp] theorem select_rooted : (s.onConn fun b => { b with selected := true }).rooted = s.rooted :=
  rooted_of_steady (by simp)

/-! ### Answers -/

@[simp] theorem answerWith_rooted (c : DirCall) (r : Reply) (d : Deferred) : (s.answerWith c r d).rooted = s.rooted := by
  unfold answerWith
  split
  · simp
  · split <;> simp

@[simp] theorem answer_rooted (c : DirCall) (r : Reply) : (s.answer c r).rooted = s.rooted := by simp [answer]

/-- An answered effect leaves `rooted` alone where the effect does. -/
theorem answered_rooted (x : State × Reason) (c : DirCall) (h : x.1.rooted = s.rooted) : (answered x c).rooted = s.rooted := by
  simp [answered, h]

/-! ### Access -/

@[simp] theorem tryNumber_rooted (src : DirSource) (w : Nat) (n : List Code) : (s.tryNumber src w n).1.rooted = s.rooted := by
  unfold tryNumber
  repeat' split
  all_goals rfl

@[simp] theorem directiveO_rooted (src : DirSource) (fs : List (List Code)) : (s.directiveO src fs).1.rooted = s.rooted := by
  unfold directiveO
  repeat' split
  all_goals simp

@[simp] theorem changeNumber_rooted (src : DirSource) (w : Nat) (n : Option (List Code)) :
    (s.changeNumber src w n).1.rooted = s.rooted := by
  unfold changeNumber
  repeat' split
  all_goals simp

@[simp] theorem directiveK_rooted (src : DirSource) (fs : List (List Code)) : (s.directiveK src fs).1.rooted = s.rooted := by
  unfold directiveK
  repeat' split
  all_goals simp

@[simp] theorem eraseAccess_rooted (src : DirSource) : (s.eraseAccess src).rooted = s.rooted := by
  unfold eraseAccess
  split <;> simp

@[simp] theorem erase_rooted : s.erase.rooted = s.rooted := by
  simp only [erase]
  rw [rooted_of_outer (forRecords_outer _ _ fun s e => deleteRecord_outer s e), closeComposing_rooted,
    rooted_of_outer (setStack_outer _ _)]
  exact rooted_of_outer (foldl_outer s _ (fun s e => closeEntry_outer s e) _)

/-! ### The effects and the execution -/

theorem effect_rooted (k : DirKind) (c : DirCall) (fs : List (List Code)) : (s.effect k c fs).rooted = s.rooted := by
  cases k <;> simp only [effect]
  case select => unfold doSelect; split <;> simp
  case deselect => unfold doDeselect; split <;> simp
  case heading =>
    unfold doHeading
    split
    · exact rooted_of_outer (heading_outer _ _ _)
    · rfl
  case endMsg => exact rooted_of_outer (endMessage_outer s)
  case punch =>
    refine answered_rooted s _ c (rooted_of_outer ?_)
    split <;> simp
  case printSwitch => simp [doPrintSwitch]
  case identify => simp [doIdentify]
  case status => simp [doStatus]
  case openSrc => exact answered_rooted s _ c (by simp)
  case closeSrc => simp [doClose]
  case freeze => simp
  case number => exact answered_rooted s _ c (by simp)
  case list =>
    simp only [doList]
    repeat' split
    all_goals simp
  case retrieve => exact answered_rooted s _ c (rooted_of_outer (by simp))
  case delete => exact answered_rooted s _ c (rooted_of_outer (by simp))
  case erase => simp [doErase]
  case setPar =>
    unfold doSetPar
    repeat' split
    all_goals simp
  case load =>
    unfold doLoad
    split <;> simp
  case commit =>
    have h (t : State) : (t.onProfile fun b => { b with commit := some ⟨.written b.working, fromLine c.src⟩ }).rooted = t.rooted := rfl
    simp only [doCommit]
    split
    · simp
    · split <;> simp [h]
  case reset => unfold doReset; split <;> simp
  case hangUp => unfold doHangUp; split <;> simp
  case clearStats =>
    have h (t : State) : (t.onRx fun b => { b with stats := .zero }).rooted = t.rooted := rfl
    simp [doClearStats, h]
  case copy => exact answered_rooted s _ c (rooted_of_outer (by simp))

@[simp] theorem badFields_rooted (k : DirKind) (c : DirCall) : (s.badFields k c).rooted = s.rooted := by
  unfold badFields
  split <;> simp

@[simp] theorem carryOut_rooted (k : DirKind) (c : DirCall) : (s.carryOut k c).rooted = s.rooted := by
  unfold carryOut
  split
  · simp
  · split
    · simp
    · split
      · exact effect_rooted s k c _
      · simp

@[simp] theorem checkLetter_rooted (c : DirCall) : (s.checkLetter c).rooted = s.rooted := by
  unfold checkLetter
  split
  · simp
  · generalize (if fromLine c.src = true then DirKind.onLine _ else DirKind.onKeyboard _) = b
    split <;> simp

/-- A directive's execution leaves `rooted` alone. -/
@[simp] theorem execute_rooted (c : DirCall) : (s.execute c).rooted = s.rooted := by
  simp only [execute]
  split
  · split
    · unfold doSelect
      split <;> simp
    · rfl
  · repeat' split
    all_goals simp

/-- A directive command leaves `rooted` alone. -/
@[simp] theorem directive_rooted (k : DirKind) (src : DirSource) (body : List Code) :
    (s.directive k src body).rooted = s.rooted := by
  simp only [directive]
  split <;> simp

/-! ### The assemblers -/

@[simp] theorem setLineAsm_rooted (a : Assembler) : (s.setLineAsm a).rooted = s.rooted := rfl
@[simp] theorem setLocalAsm_rooted (a : Assembler) : (s.setLocalAsm a).rooted = s.rooted := rfl
@[simp] theorem countMalformed_rooted : s.countMalformed.rooted = s.rooted := rfl
@[simp] theorem countOverlong_rooted : s.countOverlong.rooted = s.rooted := rfl

@[simp] theorem lineHold_rooted (a : Assembler) (c : Code) : (s.lineHold a c).rooted = s.rooted := by
  unfold lineHold
  repeat' split
  all_goals simp

@[simp] theorem lineEnd_rooted (a : Assembler) : (s.lineEnd a).rooted = s.rooted := by
  simp only [lineEnd]
  repeat' split
  all_goals simp

/-- A character handed to the line assembler leaves `rooted` alone. -/
@[simp] theorem handLine_rooted (c : Code) (q : Quality) : (s.handLine c q).rooted = s.rooted := by
  simp only [handLine]
  repeat' split
  all_goals simp

@[simp] theorem localHold_rooted (a : Assembler) (c : Code) : (s.localHold a c).rooted = s.rooted := by
  unfold localHold
  split <;> simp

@[simp] theorem localEnd_rooted (a : Assembler) : (s.localEnd a).rooted = s.rooted := by
  simp only [localEnd]
  repeat' split
  all_goals simp

/-- A character handed to the local assembler leaves `rooted` alone. -/
@[simp] theorem handLocal_rooted (c : Code) : (s.handLocal c).rooted = s.rooted := by
  simp only [handLocal]
  repeat' split
  all_goals simp

end State
end Sys2Proof.Machine
end

