-- ==== Sys2Proof/Laws/Memory.lean ====
section
/-! SUPPORT. The laws of the store's cells: a write keeps the canonical form, a read after a write to the same address gives what was
written, and a write leaves every other address alone. -/

namespace Sys2Proof.Machine.Memory

/-- A lower bound that holds may be lowered. -/
theorem wfFrom_mono {lo lo' : Nat} {m : Memory} (h : wfFrom lo m = true) (hl : lo' ≤ lo) : wfFrom lo' m = true := by
  cases m with
  | nil => rfl
  | cons p m =>
    simp only [wfFrom, Bool.and_eq_true, decide_eq_true_eq] at h ⊢
    exact ⟨⟨by omega, h.1.2⟩, h.2⟩

/-- A cell put in front keeps the form. -/
theorem wfFrom_consCell {lo x : Nat} (c : Cell) {m : Memory} (hx : lo ≤ x) (h : wfFrom (x + 1) m = true) :
    wfFrom lo (consCell x c m) = true := by
  unfold consCell
  split
  · exact wfFrom_mono h (by omega)
  · rename_i hc
    simp [wfFrom, hx, hc, h]

/-- A write at or above the bound keeps the form. -/
theorem wfFrom_write {lo : Nat} {m : Memory} (x : Nat) (c : Cell) (h : wfFrom lo m = true) (hx : lo ≤ x) :
    wfFrom lo (write m x c) = true := by
  induction m generalizing lo with
  | nil => exact wfFrom_consCell c hx rfl
  | cons p m ih =>
    obtain ⟨a, d⟩ := p
    simp only [wfFrom, Bool.and_eq_true, decide_eq_true_eq] at h
    simp only [write]
    split
    · refine wfFrom_consCell c hx ?_
      simp only [wfFrom, Bool.and_eq_true, decide_eq_true_eq]
      exact ⟨⟨by omega, h.1.2⟩, h.2⟩
    · split
      · rename_i _ hxa
        subst hxa
        exact wfFrom_consCell c hx h.2
      · simp only [wfFrom, Bool.and_eq_true, decide_eq_true_eq]
        exact ⟨⟨h.1.1, h.1.2⟩, ih h.2 (by omega)⟩

/-- Every write keeps the canonical form. -/
theorem wf_write {m : Memory} (x : Nat) (c : Cell) (h : m.wf = true) : (m.write x c).wf = true :=
  wfFrom_write x c h (Nat.zero_le x)

/-- The empty memory, the contents after power-on, is in the canonical form. -/
theorem wf_nil : wf [] = true := rfl

/-- Below its bound a memory reads as blank. -/
theorem read_below {lo x : Nat} {m : Memory} (h : wfFrom lo m = true) (hx : x < lo) : read m x = .blank := by
  cases m with
  | nil => rfl
  | cons p m =>
    obtain ⟨a, c⟩ := p
    simp only [wfFrom, Bool.and_eq_true, decide_eq_true_eq] at h
    simp only [read]
    rw [if_neg (by omega), if_pos (by omega)]

/-- A cell put in front reads back. -/
theorem read_consCell_self {x : Nat} (c : Cell) {m : Memory} (h : wfFrom (x + 1) m = true) :
    read (consCell x c m) x = c := by
  unfold consCell
  split
  · rename_i hc
    rw [hc]
    exact read_below h (by omega)
  · simp [read]

/-- A cell put in front leaves the other addresses alone. -/
theorem read_consCell_ne {x y : Nat} (c : Cell) {m : Memory} (h : wfFrom (x + 1) m = true) (hy : y ≠ x) :
    read (consCell x c m) y = read m y := by
  unfold consCell
  split
  · rfl
  · simp only [read]
    rw [if_neg hy]
    split
    · exact (read_below h (by omega)).symm
    · rfl

/-- A read after a write, at any address. -/
theorem read_write_from {lo : Nat} {m : Memory} (x y : Nat) (c : Cell) (h : wfFrom lo m = true) :
    read (write m x c) y = if y = x then c else read m y := by
  induction m generalizing lo with
  | nil =>
    simp only [write]
    split
    · rename_i hy
      subst hy
      exact read_consCell_self c rfl
    · rename_i hy
      exact read_consCell_ne c rfl hy
  | cons p m ih =>
    obtain ⟨a, d⟩ := p
    have hm := h
    simp only [wfFrom, Bool.and_eq_true, decide_eq_true_eq] at h
    simp only [write]
    split
    · rename_i hxa
      have hw : wfFrom (x + 1) ((a, d) :: m) = true := by
        simp only [wfFrom, Bool.and_eq_true, decide_eq_true_eq]
        exact ⟨⟨by omega, h.1.2⟩, h.2⟩
      split
      · rename_i hy
        subst hy
        exact read_consCell_self c hw
      · rename_i hy
        exact read_consCell_ne c hw hy
    · split
      · rename_i _ hxa
        subst hxa
        split
        · rename_i hy
          subst hy
          exact read_consCell_self c h.2
        · rename_i hy
          rw [read_consCell_ne c h.2 hy]
          simp only [read]
          rw [if_neg hy]
          split
          · exact read_below h.2 (by omega)
          · rfl
      · simp only [read]
        rw [ih h.2]
        split
        · rename_i hya
          rw [if_neg (by omega)]
        · split
          · rw [if_neg (by omega)]
          · rfl

/-- A read after a write to the same address gives what was written. -/
theorem read_write_self {m : Memory} (x : Nat) (c : Cell) (h : m.wf = true) : (m.write x c).read x = c := by
  rw [read_write_from x x c h, if_pos rfl]

/-- A write leaves every other address alone. -/
theorem read_write_ne {m : Memory} {x y : Nat} (c : Cell) (h : m.wf = true) (hy : y ≠ x) :
    (m.write x c).read y = m.read y := by
  rw [read_write_from x y c h, if_neg hy]

end Sys2Proof.Machine.Memory
end

