-- ==== Sys2Proof/Tests/Slice0.lean ====
section
/-! SUPPORT. The model's own tests: the well-formedness smoke, one-step tests whose expected values are the manual's, and a witness
for every statement that has hypotheses. -/

namespace Sys2Proof.Tests

open Sys2Proof.Machine

set_option Elab.async false

/-! ### Well-formedness: a command each check passes, and one it refuses -/

theorem test_wf_tick : (Instr.lineConditionChange .mark 3072).wf = true := by decide
theorem test_wf_tick_beyond_the_longest_character : (Instr.lineConditionChange .mark 3073).wf = false := by decide
theorem test_wf_body : (Instr.setParameter .keyboard [0o067#7, 0o040#7, 0o061#7]).wf = true := by decide
theorem test_wf_body_with_nul : (Instr.setParameter .keyboard [0o000#7]).wf = false := by decide
theorem test_wf_body_with_cr : (Instr.setParameter .keyboard [0o015#7]).wf = false := by decide
theorem test_wf_body_with_lead : (Instr.setParameter .keyboard [0o033#7]).wf = false := by decide
theorem test_wf_longest_line_body : (Instr.loadTableEntry (.line 0o113#7 0o124#7) (List.replicate 45 0o060#7)).wf = true := by
  decide
theorem test_wf_line_body_too_long : (Instr.loadTableEntry (.line 0o113#7 0o124#7) (List.replicate 46 0o060#7)).wf = false := by
  decide
theorem test_wf_longest_keyboard_body : (Instr.loadTableEntry .keyboard (List.replicate 47 0o060#7)).wf = true := by decide
theorem test_wf_keyboard_body_too_long : (Instr.loadTableEntry .keyboard (List.replicate 48 0o060#7)).wf = false := by decide
theorem test_wf_call_code_with_cr : (Instr.select (.line 0o015#7 0o124#7) []).wf = false := by decide

/-- The table gives no row bits. -/
theorem test_no_word_spells_a_command : decodeTableWord 0 0 = none ∧ decodeTableWord 8 255 = none := by decide

/-! ### Small states -/

/-- A state as it stands after a command. -/
def after (c : Instr) (s : State) : State :=
  match exec c s with
  | .next t => t
  | .fault _ => s
  | .refused _ => s

/-- The call code KT in the working copy. -/
def ktProfile : Profile := { Profile.factory with callCode := some (0o113#7, 0o124#7) }

/-- On hook, attended, with the call code KT. -/
def onHook : State :=
  { State.reset with
    conn := { State.reset.conn with attended := true }
    profile := { State.reset.profile with working := ktProfile } }

/-- CONNECTED on a switched line, selected and attended, with the call code KT. -/
def base : State :=
  { onHook with
    conn := { onHook.conn with state := .connected, loop := true, selected := true }
    rx := { onHook.rx with state := .hunting } }

/-- The line directive source of KT. -/
def kt : DirSource := .line 0o113#7 0o124#7

/-- `base` with the working copy changed. -/
def withProfile (f : Profile → Profile) (s : State) : State :=
  { s with profile := { s.profile with working := f s.profile.working } }

/-- Security enabled with the operator number 4417. -/
def secured : State := withProfile (fun p => { p with operatorNumber := some [0o064#7, 0o064#7, 0o061#7, 0o067#7] }) base

/-- Every place of the reply queue taken by a reply. -/
def fullQueue : State := { base with dir := { base.dir with queue := List.replicate 4 ⟨.lineReply, [], .none, [], 0⟩ } }

/-- A received character in SAMPLING with these samples and transitions, the line as given. -/
def sampling (samples : List LineCond) (ts : List Transition) (be : Int) (line : LineCond) : State :=
  { base with
    conn := { base.conn with lineCond := line }
    rx := { base.rx with state := .sampling, sample := 33, tick := 353, be := be, samples := samples, transitions := ts } }

/-- The transitions of the character of section 2.6. -/
def workedTransitions : List Transition :=
  [measure 61 false, measure 135 true, measure 250 false, measure 327 true, measure 380 false]

/-- The character of section 2.6 before its stop sample. -/
def workedCharacter : State := sampling [.mark, .space, .space, .mark, .space] workedTransitions 40 .mark

/-- `base` with a record in entry 1, of the state, origin and serial given, at precedence 1, holding nothing. -/
def withRecord (st : RecState) (o : Origin) (n : Option Nat) (s : State) : State :=
  { s with
    store :=
      { s.store with
        dir := { Record.empty with state := st, origin := o, serial := n, precedence := 1, retained := true } ::
          List.replicate 31 Record.empty
        arrival := [1] } }

/-- A printer operation in flight. -/
def printing (op : PrinterOp) : State :=
  { base with
    print := { base.print with inFlight := some op, faultTimer := some 2000 }, motor := { base.motor with state := .running } }

/-- A punch row in flight. -/
def punching (due : Bool) : State :=
  { base with
    punch := { base.punch with inFlight := some 31#5, faultTimer := some 2000, newTapeDue := due }
    motor := { base.motor with state := .running } }

/-- A character of a reply in flight, with the rest of its unit. -/
def sending (rest : List Row) : State := { base with tx := { base.tx with inFlight := some (.character 31#5 rest .letters .orphan) } }

/-- A key held in the pair, live, and REPEAT held with the key repeated. -/
def repeating (k : KeyPos) : State :=
  { base with
    kb :=
      { base.kb with
        keys := (base.kb.keys.set k.toNat ⟨.down, .pairMember⟩).set 62 ⟨.down, .repeatModifier true⟩
        pair := [⟨k, true⟩]
        repeatKey := some k
        repeatTimer := some 500 } }

/-- The pair full. -/
def pairFull : State := { base with kb := { base.kb with pair := [⟨28#6, true⟩, ⟨4#6, true⟩] } }

/-- An image with the profile of KT, which passes its check. -/
def ktImage : Image := ⟨ktProfile, [1#8, 2#8], 65532#16⟩

/-- A commit being written. -/
def committing (line : Bool) : State := { base with profile := { base.profile with commit := some ⟨ktImage, line⟩ } }

/-- `base` with that image. -/
def imaged : State := { base with profile := { base.profile with image := ktImage } }

/-! ### One-step tests -/

/-- Section 0.7, R66: power-on gives the free-block list 0 to 255. -/
theorem test_power_on_frees_every_block : (after .powerOn base).store.free = List.range 256 := by decide +kernel
/-- R186: a hard reset closes the open states and clears the attempts. -/
theorem test_hard_reset_clears_attempts :
    (after .hardReset { base with access := ⟨3, false, true, .operator, .supervisor⟩ }).access = ⟨0, false, false, .closed, .closed⟩ := by
  decide +kernel
/-- R192: the loss of power moves no block. -/
theorem test_power_removal_only_takes_the_power : (after .powerRemoval base).powered = false ∧ (after .powerRemoval base).store = base.store := by
  decide +kernel

/-- Section 2.6: BE 40 latches S = 33; BE 63 latches S = 34. -/
theorem test_sample_points_of_section_2_6 : samplePoint true 40 = 33 ∧ samplePoint true 63 = 34 := by decide
/-- Section 2.6: BE goes 40, 41, 50, 56, 63, 63. -/
theorem test_bias_of_section_2_6 :
    (List.range 6).map (fun n => updateBias 40 (workedTransitions.take n)) = [40, 41, 50, 56, 63, 63] := by decide
/-- Section 2.6: the start transition. -/
theorem test_start_transition_latches_the_sample_point :
    (after (.lineConditionChange .space 0) { base with rx := { base.rx with be := 40 } }).rx.sample = 33 := by decide +kernel
/-- Section 2.6: the first transition, at tick 61, mark-going, has k = 1, d = −3, e = +3. -/
theorem test_transition_of_section_2_6 : measure 61 false = ⟨1, -3, false, 3⟩ := by decide
/-- Section 2.6: statistics 1, 7, 7 and BE 63. -/
theorem test_stop_sample_of_section_2_6 :
    (after .stopSample workedCharacter).rx.stats = ⟨1, 0, 0, 0, 0, 7, 7⟩ ∧ (after .stopSample workedCharacter).rx.be = 63 := by
  decide +kernel
/-- Section 2.6: 111 (I) delivered GOOD. -/
theorem test_stop_sample_stores_the_character : (after .stopSample workedCharacter).cellOf 1 0 = ⟨0o111#7, .good⟩ := by decide +kernel
/-- Section 2.6: the line code is 1 + 8 = 9. -/
theorem test_line_code_of_section_2_6 : lineCode [.mark, .space, .space, .mark, .space] = 9#5 := by decide
/-- R20: mark at tick S. -/
theorem test_false_start_is_counted : (after .falseStart (sampling [] [] 0 .mark |> fun s => { s with rx := { s.rx with tick := 0 } })).rx.stats.falseStarts = 1 := by
  decide +kernel
/-- R21, section 2.6: the second sample lies at tick 161 with S = 33. -/
theorem test_data_element_sample_tick : (after .dataElementSample (sampling [.mark] [] 0 .space)).rx.tick = 161 := by decide +kernel
/-- Section 2.13: a break declared counts 1 and sets LETTERS. -/
theorem test_break_declared :
    (after .breakDeclared { sampling [] [] 0 .space with rx := { base.rx with state := .candidate, plane := .figures } }).rx.stats.breaks = 1 := by
  decide +kernel
/-- R18: the adoption of a rate sets the bias estimate to 0. -/
theorem test_rate_adoption_clears_the_bias :
    (after .rateAdoption (withProfile (·.setPar 1 3) { base with rx := { base.rx with be := 100 } })).rx.be = 0 := by decide +kernel

/-- Section 1.7: 061 sent from LETTERS is 30, 1. -/
theorem test_sent_under_a_shift : ktProfile.convert .letters 0o061#7 = some ([30#5, 1#5], .figures) := by decide +kernel
/-- Section 1.7: 122 from UNKNOWN is 31, 18. -/
theorem test_sent_from_unknown : ktProfile.convert .unknown 0o122#7 = some ([31#5, 18#5], .letters) := by decide +kernel
/-- R133: the second character of a unit follows its shift code. -/
theorem test_character_sent_goes_on_with_its_unit :
    (after .characterSent (sending [18#5])).tx.inFlight = some (.character 18#5 [] .letters .orphan) := by decide +kernel
/-- R135: the shift state after a break is UNKNOWN. -/
theorem test_break_sent_leaves_unknown :
    (after .breakSent { base with tx := { base.tx with shift := .letters, inFlight := some (.brk 16) } }).tx.shift = .unknown := by
  decide +kernel
/-- R176: the clear deferred in the head entry is made. -/
theorem test_deferred_clear :
    (after .deferredClear { base with dir := { base.dir with queue := [⟨.lineReply, [], .clear, [], 0⟩] } }).conn.state = .clearing := by
  decide +kernel
/-- R176: the station reset deferred in the head entry is made. -/
theorem test_deferred_reset :
    (after .deferredReset { base with dir := { base.dir with queue := [⟨.lineReply, [], .reset, [], 0⟩] } }).conn.selected = false := by
  decide +kernel

/-- R116: a scan that sees key 6 closed makes it PRESSING. -/
theorem test_scan_presses : ((after (.scan 64) base).keyCell 6#6).debounce = .pressing := by decide +kernel
/-- R116, section 6.8: a second such scan is G's key-down. -/
theorem test_scan_recognises_a_key_down : (after (.scan 64) (after (.scan 64) base)).cellOf 1 0 = ⟨0o107#7, .good⟩ := by decide +kernel
/-- Section 6.8: G creates a COMPOSING record, its send PENDING while CONNECTED in LINE. -/
theorem test_first_character_of_section_6_8 :
    ((after (.characterKeyDown 6#6) base).record 1).state = .composing ∧ ((after (.characterKeyDown 6#6) base).record 1).send.status = .pending := by
  decide +kernel
/-- Section 6.8: with the pair full N is blocked and counted. -/
theorem test_third_key_is_blocked : (after (.characterKeyDown 13#6) pairFull).kb.blockedCount = 1 := by decide +kernel
/-- R129: LEAD begins directive entry. -/
theorem test_lead : (after (.lead 48#6) base).kb.entryFlag = true ∧ (after (.lead 48#6) base).dir.localAsm.state = .letter := by
  decide +kernel
/-- R128: HERE-IS requests an answerback; the factory answerback is empty, so it ends at once. -/
theorem test_here_is_with_no_answerback : (after (.hereIs 49#6) base).tx.answerback = .none := by decide +kernel
/-- R135: the break is B + 4 = 16 UI by default. -/
theorem test_break_key_starts_a_break : (after (.breakKey 50#6) base).tx.inFlight = some (.brk 16) := by decide +kernel
/-- R127. -/
theorem test_line_local : (after (.lineLocal 51#6) base).kb.mode = .loc := by decide +kernel
/-- Section 5.8: TAPE claims a free punch. -/
theorem test_tape_claims : (after (.tape 52#6) base).punch.keyboardClaim = ⟨.holding, 1⟩ := by decide +kernel
/-- R114: FEED makes 8 blank rows. -/
theorem test_feed : (after (.feed 53#6) base).punch.rows = List.replicate 8 0#5 := by decide +kernel
/-- R113: NEW TAPE sets the counter to the reel length. -/
theorem test_new_tape : (after (.newTape 54#6) { base with punch := { base.punch with tapeSupply := 0 } }).punch.tapeSupply = 40000 := by
  decide +kernel
/-- Section 6.8: END closes the record. -/
theorem test_end : ((after (.endKey 55#6) (withRecord .composing .keyboard (some 42) base)).record 1).state = .complete := by
  decide +kernel
/-- R127. -/
theorem test_attend_under_the_unattended_lock : (after (.attend 56#6) State.reset).conn.attended = true := by decide +kernel
/-- R127, R179. -/
theorem test_unattend :
    (after (.unattend 57#6) { base with access := { base.access with localOpen := .operator } }).access.localOpen = .closed := by
  decide +kernel
/-- R147. -/
theorem test_answer :
    (after (.answer 58#6) { onHook with conn := { onHook.conn with callAnswerable := true } }).conn.state = .answering := by decide +kernel
/-- R148: SEIZE starts the call timer at 60 s. -/
theorem test_seize : (after (.seize 59#6) onHook).conn.callTimer = some 60000 := by decide +kernel
/-- R152. -/
theorem test_clear_line : (after (.clearLine 60#6) base).conn.state = .clearing := by decide +kernel
/-- R70: the failed operation is ready again. -/
theorem test_clear_fault :
    (after (.clearFault 61#6) { base with print := { base.print with fault := true, failedOp := some .ret } }).print.ops = [.ret] := by
  decide +kernel
/-- R119: REPEAT begins at 500 ms. -/
theorem test_repeat : (after (.repeatKey 62#6) { base with kb := { base.kb with pair := [⟨17#6, true⟩] } }).kb.repeatTimer = some 500 := by
  decide +kernel
/-- R118, section 6.8: SHIFT raises the level. -/
theorem test_shift : (after (.shiftKey 63#6) base).shiftLevel = 1 := by decide +kernel
/-- Section 6.8: a repetition stores 122 and the timer runs 100 ms. -/
theorem test_repetition :
    (after .repetition (repeating 17#6)).cellOf 1 0 = ⟨0o122#7, .good⟩ ∧ (after .repetition (repeating 17#6)).kb.repeatTimer = some 100 := by
  decide +kernel
/-- R121. -/
theorem test_break_lock_ends : (after .breakLockTimerExpiry { base with kb := { base.kb with breakTimer := some 1000 } }).breakLock = false := by
  decide +kernel
/-- R125. -/
theorem test_close_timer :
    ((after .closeTimerExpiry (withRecord .composing .keyboard (some 1) { base with kb := { base.kb with closeTimer := some 30000 } })).record 1).state =
      .complete := by decide +kernel

/-- R169: an S for another station deselects. -/
theorem test_foreign_select_deselects : (after (.select (.line 0o101#7 0o102#7) []) base).conn.selected = false := by decide +kernel
/-- R169: a D for ZZ deselects. -/
theorem test_broadcast_deselect : (after (.deselect (.line 0o132#7 0o132#7) []) base).conn.selected = false := by decide +kernel
/-- Section 3.8: M 2 18 opens a record of precedence 2. -/
theorem test_heading : (after (.messageHeading kt [0o062#7, 0o040#7, 0o061#7, 0o070#7]) base).store.openStack = [⟨2, some 1⟩] := by
  decide +kernel
/-- R50: an E with no message open is a stray end. -/
theorem test_stray_end : (after (.endOfMessage kt []) base).store.strayEndCount = 1 := by decide +kernel
/-- Section 5.8: P 1 waits behind the KEYBOARD. -/
theorem test_punch_claim_waits :
    (after (.punchClaim kt [0o061#7]) { base with punch := { base.punch with keyboardClaim := ⟨.holding, 1⟩ } }).punch.lineClaim = ⟨.waiting, 1⟩ := by
  decide +kernel
/-- Section 9.12: Q0. -/
theorem test_line_print_off : (after (.linePrintSwitch kt [0o060#7]) base).store.linePrint = false := by decide +kernel
/-- Section 9.12: the I reply, A00 7720 1 256 32 4. -/
theorem test_identify :
    ((after (.identify kt []) { base with tx := { base.tx with inFlight := some (.brk 16) } }).dir.queue.map (·.text)) =
      [[0o015#7, 0o012#7, 0o113#7, 0o124#7, 0o040#7, 0o101#7, 0o060#7, 0o060#7, 0o040#7, 0o067#7, 0o067#7, 0o062#7, 0o060#7, 0o040#7,
        0o061#7, 0o040#7, 0o062#7, 0o065#7, 0o066#7, 0o040#7, 0o063#7, 0o062#7, 0o040#7, 0o064#7, 0o015#7, 0o012#7]] := by
  decide +kernel
/-- Section 2.13: mean 17 %, peak 39 %, bias −10 % at BE −100. -/
theorem test_percentages_of_section_2_13 :
    LineStats.meanPercent ⟨4, 1, 1, 1, 1, 25, 44⟩ = 17 ∧ LineStats.peakPercent ⟨4, 1, 1, 1, 1, 25, 44⟩ = 39 ∧ biasPercent (-100) = -10 := by
  decide
/-- Section 10.9: O1 4471 against 4417 is a mismatch. -/
theorem test_wrong_number :
    (after (.openSource kt [0o061#7, 0o040#7, 0o064#7, 0o064#7, 0o067#7, 0o061#7]) secured).access.attempts = 1 := by decide +kernel
/-- Section 10.9: O1 4417 opens the line as operator. -/
theorem test_right_number :
    (after (.openSource kt [0o061#7, 0o040#7, 0o064#7, 0o064#7, 0o061#7, 0o067#7]) secured).access.lineOpen = .operator := by decide +kernel
/-- R179. -/
theorem test_close_source :
    (after (.closeSource kt []) { base with access := { base.access with lineOpen := .operator } }).access.lineOpen = .closed := by
  decide +kernel
/-- R184. -/
theorem test_freeze : (after (.freeze kt []) base).access.frozen = true := by decide +kernel
/-- Section 10.9: K1 4417 enables security and opens its source. -/
theorem test_first_operator_number :
    (after (.accessNumber .keyboard [0o061#7, 0o040#7, 0o064#7, 0o064#7, 0o061#7, 0o067#7]) base).access.localOpen = .operator := by
  decide +kernel
/-- Section 9.12: a listing's head line names the number of entries. -/
theorem test_list :
    ((after (.listDirectory kt []) { withRecord .complete .line (some 17) base with tx := { base.tx with inFlight := some (.brk 16) } }).dir.queue.map
      (·.captured)) = [[⟨1, false⟩]] := by decide +kernel
/-- Section 7.10: an accepted R makes the send PENDING and attaches the record. -/
theorem test_retrieve :
    ((after (.retrieveEntry kt [0o061#7]) (withRecord .complete .line (some 20) base)).record 1).send = ⟨.pending, 0, true⟩ := by
  decide +kernel
/-- Section 3.8: X 3 frees a CUT record that nothing holds. -/
theorem test_delete :
    ((after (.deleteEntry kt [0o061#7]) (withRecord .cut .line (some 18) base)).record 1).state = .empty := by decide +kernel
/-- R61: an erase makes the stack's entries VOID. -/
theorem test_erase :
    (after (.eraseStore kt []) { withRecord .receiving .line (some 5) base with
      store := { (withRecord .receiving .line (some 5) base).store with openStack := [⟨1, some 1⟩] } }).store.openStack = [⟨1, none⟩] := by
  decide +kernel
/-- R175, R190: A4 99 sets the break threshold to the highest value it may have, 48. -/
theorem test_parameter_brought_within_range :
    (after (.setParameter .keyboard [0o064#7, 0o040#7, 0o071#7, 0o071#7]) base).working.breakThreshold = 48 := by decide +kernel
/-- R17: the call code is never ZZ. -/
theorem test_load_refuses_zz :
    (after (.loadTableEntry .keyboard
      [0o065#7, 0o040#7, 0o060#7, 0o040#7, 0o071#7, 0o060#7, 0o040#7, 0o071#7, 0o060#7]) base).working.callCode = some (0o113#7, 0o124#7) := by
  decide +kernel
/-- R192. -/
theorem test_commit_takes_a_snapshot : (after (.commitProfile .keyboard []) base).profile.commit = some ⟨.written ktProfile, false⟩ :=
  rfl
/-- R192: read back equal, the image is what was written. -/
theorem test_commit_completion : (after (.commitCompletion true) (committing false)).profile.image = ktImage := by
  decide +kernel
/-- R176: a local Y resets within its execution; the working copy is the image's again. -/
theorem test_local_reset : (after (.stationReset .keyboard []) base).working.callCode = none := by decide +kernel
/-- R176: a local H clears at once. -/
theorem test_local_hang_up : (after (.hangUp .keyboard []) base).conn.state = .clearing := by decide +kernel
/-- R37. -/
theorem test_clear_statistics :
    (after (.clearStatistics kt []) { base with rx := { base.rx with stats := ⟨4, 1, 1, 1, 1, 25, 44⟩ } }).rx.stats = ⟨0, 0, 0, 0, 0, 0, 0⟩ := by
  decide +kernel
/-- R107: an accepted G claims the punch for COPY. -/
theorem test_copy : (after (.copyEntryToTape .keyboard [0o061#7]) (withRecord .complete .line (some 20) base)).punch.copyClaim = ⟨.holding, 1⟩ := by
  decide +kernel
/-- R164: G from the line is refused, and claims nothing. -/
theorem test_copy_from_the_line : (after (.copyEntryToTape kt [0o061#7]) (withRecord .complete .line (some 20) base)).punch.copyClaim = ⟨.idle, 0⟩ := by
  decide +kernel

/-- `base` with the motor so, and with a printer operation ready where one is asked for. -/
def motorIn (m : MotorBlock) (ops : List PrinterOp) : State := { base with motor := m, print := { base.print with ops := ops } }

/-- R72, R67: with L = 72 and offset 8 the bell rings when a PRINT brings the column to 65. -/
theorem test_margin_bell :
    (after .printerDone { printing (.print 1 true) with print := { (printing (.print 1 true)).print with column := 64 } }).print.inFlight = some .bell := by
  decide +kernel
/-- R69. -/
theorem test_printer_fault : (after .printerFaultTimerExpiry (printing .ret)).print.failedOp = some .ret := by decide +kernel
/-- R79: paper present ends a hold. -/
theorem test_paper_present_ends_a_hold :
    (after (.paperOutChange false false) { base with print := { base.print with held := true, paperOut := true } }).print.held = false := by
  decide +kernel
/-- R187, R79: PAPER OUT in the run-up holds the FEED that waits and withdraws its demand, and the run-up goes on. -/
theorem test_paper_out_in_the_run_up :
    (let t := after (.paperOutChange true false) (motorIn ⟨.starting, some 500, none, false⟩ [.feed])
     t.print.held = true ∧ t.demand = false ∧ t.motor.state = .starting) := by decide +kernel
/-- R187, R188: the motor is RUNNING all the same at the end of that run-up, nothing is issued, and the idle timer starts. -/
theorem test_run_up_with_a_held_printer :
    (let s := motorIn ⟨.starting, some 500, none, false⟩ [.feed]
     let t := after .runUpTimerExpiry { s with print := { s.print with paperOut := true, held := true } }
     t.print.inFlight = none ∧ t.motor.state = .running ∧ t.motor.idle = some 30000) := by decide +kernel
/-- R111: a completed row takes one off the counter. -/
theorem test_punch_done : (after .punchDone (punching false)).punch.tapeSupply = 39999 := by decide +kernel
/-- R97. -/
theorem test_punch_fault : (after .punchFaultTimerExpiry (punching false)).punch.failedRow = some 31#5 := by decide +kernel
/-- R187: at the end of the run-up the ready operation is issued. -/
theorem test_run_up :
    (after .runUpTimerExpiry { base with motor := { base.motor with state := .starting, runUp := some 500 }, print := { base.print with ops := [.ret] } }).print.inFlight =
      some .ret := by decide +kernel
/-- R188. -/
theorem test_idle_timer : (after .idleTimerExpiry { base with motor := ⟨.running, none, some 60000, true⟩ }).motor.state = .stopped := by
  decide +kernel

/-- Section 8.12: CALL present is answered, with 10 s allowed; the line at space leaves the stable mark timer stopped. -/
theorem test_call_of_section_8_12 :
    (after (.callInputChange true) { onHook with conn := { onHook.conn with lineCond := .space } }).conn.answerTimer = some 10000 ∧
      (after (.callInputChange true) { onHook with conn := { onHook.conn with lineCond := .space } }).conn.stableMark = none := by
  decide +kernel
/-- Section 8.12: stable mark enters CONNECTED, selects, and starts 120 s. -/
theorem test_stable_mark_of_section_8_12 :
    (after .stableMarkTimerExpiry (after (.callInputChange true) onHook)).conn.selected = true ∧
      (after .stableMarkTimerExpiry (after (.callInputChange true) onHook)).conn.lineIdle = some 120000 := by decide +kernel
/-- R148: the answer timer ends in CLEARING. -/
theorem test_answer_timer : (after .answerTimerExpiry (after (.callInputChange true) onHook)).conn.state = .clearing := by decide +kernel
/-- R148. -/
theorem test_call_timer : (after .callTimerExpiry (after (.seize 59#6) onHook)).conn.state = .clearing := by decide +kernel
/-- Section 8.13: sustained space takes a permanent line to LOST. -/
theorem test_sustained_space_of_section_8_13 :
    (after .sustainedSpaceTimerExpiry
      { withProfile (·.setPar 7 1) base with
        conn := { base.conn with lineType := .permanent, loop := false, lineCond := .space, sustainedSpace := some 2000 } }).conn.state =
      .lost := by decide +kernel
/-- Section 8.12: the line idle timer clears the connection, for 1 s. -/
theorem test_line_idle_of_section_8_12 :
    (after .lineIdleTimerExpiry { base with conn := { base.conn with lineIdle := some 120000 } }).conn.clearingTimer = some 1000 := by
  decide +kernel
/-- Section 8.12: the end of CLEARING releases LOOP. -/
theorem test_clearing_timer :
    (after .clearingTimerExpiry { onHook with conn := onHook.conn.cleared }).conn.loop = false := by decide +kernel
/-- R145: the adopted line type. -/
theorem test_line_type_adoption : (after .lineTypeAdoption (withProfile (·.setPar 7 1) onHook)).conn.lineType = .permanent := by
  decide +kernel

/-! ### Witnesses: states and operands that meet the hypotheses of the statements -/

/-- `base` without power. -/
def unpowered : State := { base with powered := false }

/-- CONNECTED with the space of a break candidate on the line. -/
def candidateSpace : State :=
  { sampling [] [] 0 .space with rx := { base.rx with state := .candidate, tick := 417, peak := 7, limit := 768 } }

/-- A permanent line. -/
def permanent (st : ConnState) : State :=
  withProfile (·.setPar 7 1) { onHook with conn := { onHook.conn with state := st, lineType := .permanent } }

theorem witness_StepRunsTheFrontCommand :
    (base.withPending [.falseStart, .stopSample]).pending = .falseStart :: [.stopSample] ∧ base.pending = [] := by decide

theorem witness_WithoutPowerOnlyInputsMove :
    unpowered.powered = false ∧ Instr.hardReset ≠ .powerOn ∧ (∀ d t, Instr.hardReset ≠ .lineConditionChange d t) ∧
      (∀ p, Instr.hardReset ≠ .callInputChange p) ∧ ∀ o l, Instr.hardReset ≠ .paperOutChange o l :=
  ⟨by decide, by decide, by simp, by simp, by simp⟩

theorem witness_StartUpGivesInitialValues :
    (Instr.hardReset = .hardReset ∧ base.powered = true) ∧ base.profile.commit = none ∧ (after .hardReset base).profile.image.passes = false ∧
      (after .powerOn imaged).profile.image.passes = true := by decide +kernel

theorem witness_PowerRemovalCutsTheCommit :
    base.powered = true ∧ base.profile.commit = none ∧ (committing true).powered = true ∧
      (committing true).profile.commit = some ⟨ktImage, true⟩ := by decide +kernel

theorem witness_WhatOnlyItsOwnCommandsChange :
    ∃ t, exec .falseStart { base with access := ⟨5, true, true, .closed, .closed⟩ } = .next t ∧ Instr.falseStart ≠ .powerOn ∧
      Instr.falseStart ≠ .hardReset ∧ (∀ k, Instr.falseStart ≠ .attend k) ∧ (∀ k, Instr.falseStart ≠ .unattend k) ∧
      (∀ m, Instr.falseStart ≠ .scan m) ∧ (∀ b, Instr.falseStart ≠ .commitCompletion b) ∧ Instr.falseStart ≠ .powerRemoval :=
  ⟨_, rfl, by decide, by decide, by simp, by simp, by simp, by simp, by decide⟩

/-- CONNECTED, a line message in reception that is printed and punched, and a command waiting. -/
def busy : State :=
  { base.withPending [.callInputChange true] with
    store :=
      { base.store with
        free := (List.range 256).drop 1
        dir :=
          { Record.empty with
            state := .receiving, serial := some 17, precedence := 1, length := 1, blocks := [0], print := ⟨.pending, 0, true⟩
            punch := ⟨.pending, 0, true⟩ } :: List.replicate 31 Record.empty
        arrival := [1]
        openStack := [⟨1, some 1⟩] }
    print := { base.print with contexts := [⟨1, 0, false⟩] }
    punch := { base.punch with lineClaim := ⟨.holding, 1⟩, current := some 1 } }

/-- A property of the entry numbers, from a check of each. -/
theorem each_entry {Holds : Nat → Prop} (checked : ∀ entry < 33, 1 ≤ entry → Holds entry) (entry : Nat) (low : 1 ≤ entry)
    (high : entry ≤ 32) : Holds entry := checked entry (Nat.lt_succ_of_le high) low

theorem busy_inUse (e : Nat) : busy.InUse e ↔ e = 1 := by
  have h : ∀ e, e < 33 → 1 ≤ e → (busy.record e).state ≠ .empty → e = 1 := by decide +kernel
  exact ⟨fun u => h e (by have := u.2.1; omega) u.1 u.2.2, by rintro rfl; unfold State.InUse; decide +kernel⟩

theorem busy_storeSound : busy.StoreSound := by
  refine ⟨by decide +kernel, by decide +kernel, fun e => ?_, ?_, each_entry (by decide +kernel), fun d e hd he _ _ => ?_⟩
  · rw [busy_inUse]; show e ∈ [1] ↔ e = 1; simp
  · decide +kernel
  · rw [busy_inUse] at hd he; omega

theorem busy_storeAndPrinterSound : busy.StoreAndPrinterSound := by
  refine ⟨⟨by decide +kernel, by decide +kernel, ?_⟩, ⟨by decide +kernel, by decide +kernel⟩, busy_storeSound, ⟨by decide +kernel, ?_, ?_, ?_⟩,
    ⟨by decide +kernel, by decide +kernel, ?_, each_entry (by decide +kernel), by decide +kernel⟩, ?_⟩
  · intro c h; simp [busy, base, onHook, State.withPending, State.reset, State.start, ProfileBlock.start] at h
  · simp only [busy_inUse]; simp [busy]; decide +kernel
  · simp [busy]
  · intro e h _; rw [busy_inUse] at h; subst h; decide +kernel
  · simp only [busy_inUse]; simp [busy]; decide +kernel
  · refine ⟨by decide +kernel, by decide +kernel, ?_, by decide +kernel, ?_⟩ <;>
      simp [busy, base, onHook, State.withPending, State.reset, State.start, TxBlock.start]

theorem busy_claimsSound : busy.ClaimsSound := by
  refine ⟨fun x y hx hy => ?_, fun x => ?_, ?_, ?_, ?_, ?_, fun h => absurd h (by decide +kernel)⟩
  · revert hx hy; cases x <;> cases y <;> decide +kernel
  · cases x <;> decide +kernel
  · decide +kernel
  · decide +kernel
  · decide +kernel
  · simp [busy, base, onHook, State.withPending, State.reset, State.start, PunchBlock.start]

theorem busy_readersSound : busy.ReadersSound := by
  refine ⟨each_entry (by decide +kernel), ?_, ?_, ?_, ?_, ?_, each_entry (by decide +kernel)⟩
  · simp only [busy_inUse]; simp [busy]; decide +kernel
  all_goals simp [busy, base, onHook, State.withPending, State.reset, State.start, TxBlock.start]

/-- This state has every property that steps keep, and steps. -/
theorem witness_StepsKeep :
    ∃ s t : State, s.CellsCanonical ∧ s.StackRises ∧ s.AttemptsBounded ∧ s.ProfilesWellFormed ∧ s.ReceiverBounded ∧
      s.CarriageOnForm ∧ s.ConnectionCoherent ∧ s.StoreAndPrinterSound ∧ s.ClaimsSound ∧ s.ReadersSound ∧ step s = .next t := by
  refine ⟨busy, _, rfl, busy_storeAndPrinterSound.2.1, ?_, busy_storeAndPrinterSound.1, ?_, ?_, ?_, busy_storeAndPrinterSound,
    busy_claimsSound, busy_readersSound, rfl⟩
  · unfold State.AttemptsBounded; decide +kernel
  · unfold State.ReceiverBounded; decide +kernel
  · unfold State.CarriageOnForm; decide +kernel
  · unfold State.ConnectionCoherent; decide +kernel

theorem witness_SamplePointAndBiasEstimate : (0 : Int) ≤ 16 * 7 - 41 ∧ 16 * (-3 : Int) - 40 < 0 := by decide

theorem witness_TransitionsStartAndShapeCharacters :
    (base.powered = true ∧ base.conn.state = .connected ∧ base.conn.lineCond = .mark ∧ base.rx.state = .hunting) ∧
    (let s := { sampling [.mark] [] 0 .mark with rx := { (sampling [.mark] [] 0 .mark).rx with tick := 97 } }
     s.powered = true ∧ s.conn.state = .connected ∧ s.rx.state = .sampling ∧ LineCond.space ≠ s.conn.lineCond ∧ s.rx.tick < 161 ∧
       161 ≤ s.rx.nextSample s.conn.lineCond) := by decide +kernel

theorem witness_FalseStartsAndDataElements :
    (let s := { sampling [] [] 0 .mark with rx := { (sampling [] [] 0 .mark).rx with tick := 33 } }
     s.powered = true ∧ s.rx.state = .sampling ∧ s.rx.samples = [] ∧ s.rx.tick ≤ s.rx.sample ∧ s.conn.lineCond = .mark) ∧
    (let s := sampling [] [] 0 .space
     s.powered = true ∧ s.rx.state = .sampling ∧ s.rx.samples.length < 5 ∧ s.rx.falseStartDue s.conn.lineCond = false) := by
  decide +kernel

/-- With the margin at 8: a peak of 8, and a peak of 9. -/
theorem witness_StopSampleClassifies :
    (let s := withProfile (·.setPar 3 8) (sampling [.mark, .space, .space, .mark, .space] [measure 72 true] 0 .mark)
     s.powered = true ∧ s.rx.state = .sampling ∧ s.rx.samples.length = 5 ∧ s.conn.lineCond = .mark ∧
       peakDistortion s.rx.transitions ≤ s.working.doubtfulMargin) ∧
    (let s := withProfile (·.setPar 3 8) (sampling [.mark, .space, .space, .mark, .space] [measure 73 true] 0 .mark)
     s.conn.lineCond = .mark ∧ s.working.doubtfulMargin < peakDistortion s.rx.transitions) ∧
    (let s := sampling [.space, .space, .space, .space, .mark] [] 0 .space
     s.conn.lineCond = .space ∧ LineCond.mark ∈ s.rx.samples) ∧
    (let s := sampling [.space, .space, .space, .space, .space] [] 0 .space
     s.conn.lineCond = .space ∧ LineCond.mark ∉ s.rx.samples) := by decide +kernel

theorem witness_DecodeAndDelivery :
    base.working.rxEntry .letters 31#5 = .shiftLetters ∧ base.working.rxEntry .letters 30#5 = .shiftFigures ∧
    base.working.rxEntry .letters 0#5 = .ignore ∧ base.working.rxEntry .letters 9#5 = .character 0o111#7 ∧
    ((0o033#7 : Code) ≠ 0o005#7 ∧ Quality.good ≠ .mutilated) ∧
    { base with dir := { base.dir with lineAsm := ⟨.call, .none, []⟩ } }.dir.lineAsm.state ≠ .idle ∧
    ((0o101#7 : Code) ≠ 0o033#7 ∧ base.dir.lineAsm.state = .idle ∧ base.conn.selected = true) ∧ onHook.conn.selected = false := by
  decide +kernel

theorem witness_WruGoesToTheTransmitter :
    Quality.doubtful ≠ .mutilated ∧ (base.tx.answerback = .none ∧ base.conn.state = .connected) ∧
      (onHook.tx.answerback = .none ∧ onHook.conn.state ≠ .connected) ∧
      { base with tx := { base.tx with answerback := .pending } }.tx.answerback ≠ .none := by decide

/-- Mark at the candidate's limit itself. -/
theorem witness_CandidatesAndBreaks :
    (candidateSpace.powered = true ∧ candidateSpace.conn.state = .connected ∧ candidateSpace.conn.lineCond = .space ∧
      candidateSpace.rx.state = .candidate ∧ candidateSpace.rx.tick < 768 ∧ 768 ≤ candidateSpace.rx.limit) ∧
    (∀ q ∈ candidateSpace.dir.queue, q.deferred = .none) ∧
    (let s := { sampling [] [] 0 .space with rx := { base.rx with state := .spacing } }
     s.powered = true ∧ s.conn.state = .connected ∧ s.conn.lineCond = .space ∧ s.rx.state = .spacing) := by decide +kernel

/-- The statistics full, and not full (R36). -/
theorem witness_CandidatesAndBreaks_counted :
    (let s : State := { candidateSpace with rx := { candidateSpace.rx with stats := ⟨65535, 0, 0, 0, 7, 0, 0⟩ } }
     s.powered = true ∧ s.conn.lineCond = .space ∧ s.rx.state = .candidate ∧ s.rx.stats.characters = 65535) ∧
    (let s : State := { candidateSpace with rx := { candidateSpace.rx with stats := ⟨65534, 0, 0, 0, 65535, 0, 0⟩ } }
     s.powered = true ∧ s.conn.lineCond = .space ∧ s.rx.state = .candidate ∧ s.rx.stats.characters ≠ 65535) := by decide +kernel

/-- R36: a break is not counted once 65535 characters are, and is before. -/
theorem test_break_with_full_statistics :
    (after .breakDeclared { candidateSpace with rx := { candidateSpace.rx with stats := ⟨65535, 0, 0, 0, 7, 0, 0⟩ } }).rx.stats.breaks = 7 ∧
    (after .breakDeclared { candidateSpace with rx := { candidateSpace.rx with stats := ⟨65534, 0, 0, 0, 7, 0, 0⟩ } }).rx.stats.breaks = 8 := by
  decide +kernel

theorem witness_AdoptionsOfRateAndLineType :
    (let s := withProfile (·.setPar 1 3) base
     s.powered = true ∧ s.working.rateIndex ≠ s.rx.rate ∧ s.rx.state ≠ .sampling ∧ s.rx.state ≠ .candidate ∧ s.tx.inFlight = none) ∧
    (let s := withProfile (·.setPar 7 1) onHook
     s.powered = true ∧ (s.conn.state = .idle ∨ s.conn.state = .lost) ∧ s.conn.lineType = .switched ∧ s.working.lineTypeParam = 1) ∧
    (let s := withProfile (·.setPar 7 0) (permanent .lost)
     s.powered = true ∧ (s.conn.state = .idle ∨ s.conn.state = .lost) ∧ s.conn.lineType = .permanent ∧ s.working.lineTypeParam = 0) := by
  decide +kernel

theorem witness_StableMarkTimeoutsAndClearing :
    (let s := { onHook with conn := { onHook.conn with state := .answering, loop := true, answerTimer := some 10000 } }
     s.powered = true ∧ s.rx.state = .watching ∧ LineCond.space ≠ s.conn.lineCond ∧ s.conn.lineType = .switched ∧
       s.conn.state = .answering ∧ s.conn.answerTimer.isSome = true ∧ s.conn.state ≠ .connected) ∧
    (let s := permanent .lost
     s.powered = true ∧ s.rx.state = .watching ∧ LineCond.space ≠ s.conn.lineCond ∧ s.conn.lineType = .permanent ∧
       s.conn.state = .lost) ∧
    (let s := { onHook with conn := { onHook.conn with state := .calling, loop := true, callTimer := some 60000 } }
     s.conn.callTimer.isSome = true ∧ s.conn.state ≠ .connected) ∧
    { onHook with conn := onHook.conn.cleared }.conn.clearingTimer.isSome = true := by decide +kernel

theorem witness_CallsArriveAndGo :
    (onHook.powered = true ∧ onHook.conn.callInput = false ∧ onHook.conn.state = .idle ∧ onHook.conn.lineType = .switched ∧
      onHook.working.autoAnswer = true) ∧
    (withProfile (·.setPar 8 0) onHook).working.autoAnswer = false ∧ base.conn.state ≠ .idle ∧
    (permanent .idle).conn.lineType = .permanent := by decide +kernel

theorem witness_StableMarkEntersConnected :
    (permanent .idle).powered = true ∧
      { permanent .idle with conn := { (permanent .idle).conn with stableMark := some 1000 } }.conn.stableMark.isSome = true := by
  decide +kernel

theorem witness_LeavingConnectedTellsEveryBlock :
    (let s := { base with conn := { base.conn with lineCond := .space, sustainedSpace := some 2000, lineIdle := some 120000 } }
     s.powered = true ∧ s.conn.state = .connected ∧ s.conn.sustainedSpace.isSome = true ∧ s.conn.lineIdle.isSome = true ∧
       s.conn.lineType = .switched ∧ ∀ q ∈ s.dir.queue, q.deferred ≠ .reset) ∧
    (let s := { permanent .connected with
        conn := { (permanent .connected).conn with lineCond := .space, sustainedSpace := some 2000 } }
     s.powered = true ∧ s.conn.state = .connected ∧ s.conn.sustainedSpace.isSome = true ∧ s.conn.lineType = .permanent) := by
  decide +kernel

/-- A sound store with a record in use, CONNECTED on a switched line; and the other states a clear request meets. -/
theorem witness_LeavingConnectedTellsEveryBlock_records :
    busy.StoreAndPrinterSound ∧ busy.InUse 1 ∧ (1 ≤ 2 ∧ (busy.record 2).state = .empty) ∧ busy.conn.lineType = .switched ∧
      busy.conn.state = .connected ∧ ({ onHook with conn := { onHook.conn with state := .calling } }.conn.state = .calling) ∧
      onHook.conn.state = .idle ∧ (permanent .connected).conn.lineType = .permanent :=
  ⟨busy_storeAndPrinterSound, (busy_inUse 1).2 rfl, by decide +kernel⟩

/-- `base` with the UNATTENDED lock. -/
def lockedBase : State := { base with conn := { base.conn with attended := false } }

theorem witness_KeysLockedOrBlocked :
    (lockedBase.Offers 6#6 (.character 0o107#7) ∧ lockedBase.locked = true) ∧
    (lockedBase.Offers 48#6 (.function .lead) ∧ KeyFn.lead.isModifier = false ∧ KeyFn.lead.exempt = false) ∧
    lockedBase.Presents 63#6 (.function .shiftFn) ∧ lockedBase.Presents 62#6 (.function .repeatFn) ∧
    (pairFull.Presents 13#6 (.character 0o116#7) ∧ 2 ≤ pairFull.kb.pair.length) ∧ pairFull.Presents 56#6 (.function .attend) ∧
    KeyFn.attend.isModifier = false := by decide +kernel

theorem witness_KeysLockedOrBlocked_composing : busy.StoreSound := busy_storeSound

/-- R121: SEND-LAG at 64 unsent cells, and not at 63. -/
theorem test_send_lag :
    let s := withRecord .composing .keyboard (some 42) base
    let lagging (n : Nat) : State := s.setRecord 1 { s.record 1 with length := n, send := ⟨.pending, 1, false⟩ }
    (lagging 65).sendLagLock = true ∧ (lagging 64).sendLagLock = false := by decide +kernel

theorem witness_ConnectionKeys :
    lockedBase.Offers 56#6 (.function .attend) ∧ (base.Offers 57#6 (.function .unattend) ∧ base.locked = false) ∧
    (onHook.Offers 58#6 (.function .answer) ∧ onHook.locked = false) ∧ onHook.Offers 59#6 (.function .seize) ∧
    (let s := { onHook with conn := { onHook.conn with state := .calling, loop := true, callTimer := some 60000 } }
     s.Offers 60#6 (.function .clearLine) ∧ s.locked = false ∧ s.conn.lineType = .switched ∧ s.conn.state = .calling) ∧
    (base.Offers 60#6 (.function .clearLine) ∧ base.conn.lineType = .switched ∧ base.conn.state = .connected ∧
      ∀ q ∈ base.dir.queue, q.deferred ≠ .reset) ∧
    ((permanent .connected).Offers 60#6 (.function .clearLine) ∧ (permanent .connected).locked = false ∧
      (permanent .connected).conn.lineType = .permanent) := by decide +kernel

theorem witness_KeysOfTheKeyboardAndTheLine :
    (base.Offers 48#6 (.function .lead) ∧ base.Offers 49#6 (.function .hereIs) ∧ base.Offers 50#6 (.function .brk) ∧
      base.Offers 51#6 (.function .lineLocal) ∧ base.Offers 55#6 (.function .endFn) ∧ base.locked = false) ∧
    (base.conn.state = .connected ∧ base.tx.breakPending = false ∧ ∀ n, base.tx.inFlight ≠ some (.brk n)) ∧
    (onHook.Offers 50#6 (.function .brk) ∧ onHook.locked = false ∧ onHook.conn.state ≠ .connected) :=
  ⟨by decide +kernel, ⟨by decide, by decide, fun _ => by simp [base, onHook, State.reset, State.start, TxBlock.start]⟩, by decide +kernel⟩

theorem witness_KeysOfTheMechanisms :
    (base.Offers 52#6 (.function .tape) ∧ base.Offers 53#6 (.function .feed) ∧ base.locked = false) ∧
    (let s := { base with punch := { base.punch with fault := true } }
     s.Offers 54#6 (.function .newTape) ∧ s.punch.fault = true) ∧
    ((punching false).Offers 54#6 (.function .newTape) ∧ (punching false).punch.fault = false ∧
      (punching false).punch.inFlight.isSome = true) ∧
    (base.Offers 54#6 (.function .newTape) ∧ base.punch.fault = false ∧ base.punch.inFlight = none) ∧
    base.Offers 61#6 (.function .clearFault) := by decide +kernel

theorem witness_ModifiersAndRepetition :
    (base.Presents 63#6 (.function .shiftFn) ∧ base.locked = false ∧ base.kb.keys.length = 64) ∧
    (let s := { base with kb := { base.kb with pair := [⟨17#6, true⟩] } }
     s.Presents 62#6 (.function .repeatFn) ∧ s.locked = false ∧ s.kb.repeatKey = none ∧ s.lastLive = some 17#6) ∧
    (base.Presents 62#6 (.function .repeatFn) ∧ base.lastLive = none) ∧
    ((repeating 40#6).powered = true ∧ (repeating 40#6).kb.repeatKey = some 40#6 ∧ (repeating 40#6).entryNow 40#6 = .none) ∧
    (let s := { repeating 17#6 with conn := { base.conn with attended := false } }
     s.powered = true ∧ s.kb.repeatKey = some 17#6 ∧ s.entryNow 17#6 = .character 0o122#7 ∧ s.locked = true) ∧
    (let s := withRecord .composing .keyboard (some 42) (repeating 17#6)
     s.powered = true ∧ s.kb.repeatKey = some 17#6 ∧ s.entryNow 17#6 = .character 0o122#7 ∧ s.locked = false ∧
       s.kb.entryFlag = false ∧ s.working.storeCode 0o122#7 = some 0o122#7 ∧ s.composing = some 1 ∧
       (s.append 1 ⟨0o122#7, .good⟩).isSome = true) := by decide +kernel

theorem witness_ModifiersAndRepetition_no_character : ∀ c, (repeating 40#6).entryNow 40#6 ≠ .character c := by
  have h : (repeating 40#6).entryNow 40#6 = .none := by decide +kernel
  simp [h]

theorem witness_ModifiersAndRepetition_key_up :
    (repeating 17#6).kb.repeatKey = some 17#6 ∧
    ((repeating 17#6).kb.repeatKey ≠ some 4#6 ∧ ∃ c ∈ (repeating 17#6).kb.keys.set 4 ⟨.up, .none⟩, c.role = .repeatModifier true) ∧
    ((repeating 17#6).kb.repeatKey.isSome = true ∧
      ∀ c ∈ (repeating 17#6).kb.keys.set 62 ⟨.down, .none⟩, c.role ≠ .repeatModifier true) ∧
    (base.kb.repeatKey ≠ some 4#6 ∧ base.kb.repeatKey = none) := by decide +kernel

/-- A repetition during directive entry, dropped, of a first character, and refused for room. -/
theorem witness_ModifiersAndRepetition_ways :
    ((repeating 17#6).powered = true ∧ (repeating 17#6).kb.repeatKey = some 17#6 ∧ (repeating 17#6).locked = false ∧
      (repeating 17#6).entryNow 17#6 = .character 0o122#7 ∧ (repeating 17#6).kb.entryFlag = false ∧
      (repeating 17#6).working.storeCode 0o122#7 = some 0o122#7 ∧ (repeating 17#6).composing = none ∧
      ((repeating 17#6).createKeyboard 0o122#7).isSome = true) ∧
    (let s := { repeating 37#6 with kb := { (repeating 37#6).kb with entryFlag := true } }
     s.entryNow 37#6 = .character 0o015#7 ∧ s.locked = false ∧ s.kb.entryFlag = true) ∧
    (let s := withProfile (fun p => { p with keyTable := p.keyTable.set 17 (.character 0o001#7) }) (repeating 17#6)
     s.entryNow 17#6 = .character 0o001#7 ∧ s.locked = false ∧ s.working.storeCode 0o001#7 = none) ∧
    (let s := { repeating 17#6 with store := { base.store with free := [] } }
     s.locked = false ∧ s.kb.entryFlag = false ∧ s.offerKey 0o122#7 = none) := by decide +kernel

/-- Each way a character key goes: directive entry, dropped, first, next, and no room. -/
theorem witness_CharacterKeysAreTaken :
    (let s := { base with kb := { base.kb with entryFlag := true } }
     s.Offers 37#6 (.character 0o015#7) ∧ s.locked = false ∧ s.kb.entryFlag = true) ∧
    (let s := withProfile (fun p => { p with keyTable := p.keyTable.set 6 (.character 0o001#7) }) base
     s.Offers 6#6 (.character 0o001#7) ∧ s.locked = false ∧ s.kb.entryFlag = false ∧ s.working.storeCode 0o001#7 = none) ∧
    (base.Offers 6#6 (.character 0o107#7) ∧ base.locked = false ∧ base.kb.entryFlag = false ∧
      base.working.storeCode 0o107#7 = some 0o107#7 ∧ base.composing = none ∧ ((base.joined 6#6).createKeyboard 0o107#7).isSome = true) ∧
    (let s := withRecord .composing .keyboard (some 42) base
     s.Offers 6#6 (.character 0o107#7) ∧ s.locked = false ∧ s.composing = some 1 ∧
       ((s.joined 6#6).append 1 ⟨0o107#7, .good⟩).isSome = true) ∧
    (let s := { base with store := { base.store with free := [] } }
     s.Offers 6#6 (.character 0o107#7) ∧ s.locked = false ∧ s.kb.entryFlag = false ∧ (s.joined 6#6).offerKey 0o107#7 = none) := by
  decide +kernel

theorem witness_CharacterKeysAreTaken_restart_and_repeat :
    (let s := withRecord .composing .keyboard (some 42) base
     1 ∈ s.store.arrival ∧ (s.record 1).state = .composing) ∧
    (∀ e ∈ (withRecord .complete .line (some 42) base).store.arrival,
      ((withRecord .complete .line (some 42) base).record e).state ≠ .composing) ∧
    (∃ c ∈ (repeating 17#6).kb.keys, c.role = .repeatModifier true) ∧
    ∀ c ∈ base.kb.keys, c.role ≠ .repeatModifier true := by decide +kernel

theorem witness_FirstCharacterMakesTheKeyboardRecord :
    base.store.dir.length = 32 ∧ (base.createKeyboard 0o107#7).isSome = true ∧ base.store.cells.wf = true := by decide +kernel

theorem witness_FirstCharacterMakesTheKeyboardRecord_offer :
    base.composing = none ∧ (withRecord .composing .keyboard (some 42) base).composing = some 1 := by decide +kernel

theorem witness_ScansDebounceEveryKey :
    base.powered = true ∧ base.kb.keys.length = 64 ∧
      ∀ k, k < 64 → ¬((base.kb.keys.getD k ⟨.up, .none⟩).debounce = .pressing ∧ (5#64).getLsbD k = true) ∧
        ¬((base.kb.keys.getD k ⟨.up, .none⟩).debounce = .releasing ∧ (5#64).getLsbD k = false) := by decide +kernel

/-- `base` with a key in this debounce state. -/
def keyIn (k : Nat) (d : Debounce) : State := { base with kb := { base.kb with keys := base.kb.keys.set k ⟨d, .none⟩ } }

/-- Key 0 and key 63, the first and the last that a scan comes to. -/
theorem witness_ScansDebounceEveryKey_recognised :
    ((keyIn 0 .pressing).kb.keys.length = 64 ∧ (∀ k, k < 64 → k ≠ 0 → (keyIn 0 .pressing).recognises 1#64 k = false) ∧
      ((keyIn 0 .pressing).kb.keys.getD 0 ⟨.up, .none⟩).debounce = .pressing ∧ (1#64).getLsbD 0 = true) ∧
    ((∀ k, k < 64 → k ≠ 63 → (keyIn 63 .releasing).recognises 0#64 k = false) ∧
      ((keyIn 63 .releasing).kb.keys.getD 63 ⟨.up, .none⟩).debounce = .releasing ∧ (0#64).getLsbD 63 = false) ∧
    (base.Presents 40#6 .none ∧ base.kb.pair.length < 2) ∧ (pairFull.Presents 40#6 .none ∧ 2 ≤ pairFull.kb.pair.length) ∧
    base.Presents 63#6 (.function .shiftFn) ∧ base.Presents 6#6 (.character 0o107#7) := by decide +kernel

theorem witness_KeyboardAndMotorTimersExpire :
    (let s := withRecord .composing .keyboard (some 42) { base with kb := { base.kb with closeTimer := some 30000 } }
     s.powered = true ∧ s.kb.closeTimer.isSome = true ∧ s.composing = some 1) ∧
    (let s := { base with kb := { base.kb with closeTimer := some 30000 } }
     s.kb.closeTimer.isSome = true ∧ s.composing = none) ∧
    { base with motor := ⟨.starting, some 500, none, false⟩ }.motor.runUp.isSome = true ∧
    { base with motor := ⟨.running, none, some 60000, true⟩ }.motor.idle.isSome = true := by decide +kernel

theorem witness_KeyboardAndMotorTimersExpire_demand :
    (motorIn base.motor [.ret]).motor.state = .stopped ∧ (motorIn base.motor [.ret]).demand = true ∧
    (base.motor.state = .stopped ∧ base.demand = false ∧ base.settleStep = none) ∧
    (motorIn ⟨.starting, some 500, none, false⟩ []).motor.state = .starting ∧
    (let s := motorIn ⟨.running, none, none, false⟩ []
     s.motor.state = .running ∧ s.motor.quiet = false ∧ s.print.inFlight = none ∧ s.punch.inFlight = none ∧ s.demand = false) ∧
    (let s := motorIn ⟨.running, none, some 60000, true⟩ [.ret]
     s.motor.state = .running ∧ s.motor.quiet = true ∧ s.demand = true) ∧
    (let s := motorIn ⟨.running, none, some 60000, true⟩ []
     s.motor.state = .running ∧ s.motor.quiet = true ∧ s.print.inFlight = none ∧ s.punch.inFlight = none ∧ s.demand = false) := by
  decide +kernel

theorem witness_KeyboardAndMotorTimersExpire_settle :
    (motorIn base.motor [.ret]).settleStep.isSome = true ∧ base.settleStep = none := by decide +kernel

/-- The line assembler in a state, with a result and what it holds. -/
def assembling (st : AsmState) (r : MatchResult) (buf : List Code) : State :=
  { base with dir := { base.dir with lineAsm := ⟨st, r, buf⟩ } }

theorem witness_CallCodesAreMatched :
    ((assembling .call .none [0o113#7]).dir.lineAsm.state = .call ∧ (assembling .call .none [0o113#7]).dir.lineAsm.buffer = [0o113#7]) ∧
    ((assembling .letter .foreign [0o101#7, 0o102#7]).dir.lineAsm.state = .letter ∧
      (assembling .letter .foreign [0o101#7, 0o102#7]).dir.lineAsm.buffer = [0o101#7, 0o102#7]) ∧
    ((assembling .body .own (List.replicate 47 0o060#7)).dir.lineAsm.state = .body ∧
      (assembling .body .own (List.replicate 47 0o060#7)).dir.lineAsm.buffer.length < 48) ∧
    (assembling .body .own [0o113#7, 0o124#7, 0o111#7]).dir.lineAsm.buffer = 0o113#7 :: 0o124#7 :: 0o111#7 :: [] ∧
    bodyCodeOk 0o124#7 = true ∧ Quality.doubtful ≠ .mutilated := by decide +kernel

/-- The local assembler in a state, with what it holds. -/
def typing (st : AsmState) (buf : List Code) : State := { base with dir := { base.dir with localAsm := ⟨st, .none, buf⟩ } }

/-- Each state of the two assemblers, at the limit of 48 characters and below it. -/
theorem witness_DirectivesAreRefused_assemblers :
    ((assembling .call .none []).dir.lineAsm.state = .call ∧ (assembling .call .none []).dir.lineAsm.buffer = []) ∧
    (assembling .letter .foreign [0o101#7, 0o102#7]).dir.lineAsm.state = .letter ∧
    ((assembling .body .own (List.replicate 48 0o060#7)).dir.lineAsm.state = .body ∧
      48 ≤ (assembling .body .own (List.replicate 48 0o060#7)).dir.lineAsm.buffer.length) ∧
    (assembling .body .own [0o113#7, 0o124#7, 0o111#7]).dir.lineAsm.buffer = 0o113#7 :: 0o124#7 :: 0o111#7 :: [] ∧
    (assembling .discard .none []).dir.lineAsm.state = .discard ∧ base.dir.lineAsm.state = .idle ∧
    ((typing .letter []).dir.localAsm.state = .letter ∧ (typing .letter []).dir.localAsm.buffer = []) ∧
    ((typing .body (List.replicate 47 0o060#7)).dir.localAsm.state = .body ∧
      (typing .body (List.replicate 47 0o060#7)).dir.localAsm.buffer.length < 48) ∧
    48 ≤ (typing .body (List.replicate 48 0o060#7)).dir.localAsm.buffer.length ∧
    (typing .body [0o101#7, 0o062#7]).dir.localAsm.buffer = 0o101#7 :: [0o062#7] ∧
    (typing .discard []).dir.localAsm.state = .discard ∧ base.dir.localAsm.state = .idle := by decide +kernel

/-- A directive of the own call code, a foreign S, and a local directive. -/
theorem witness_DirectivesAreRefused_execution :
    (base.powered = true ∧ base.sourceLive kt = true ∧ directiveOk kt [] = true ∧ base.matchOf kt ≠ .foreign) ∧
    (base.sourceLive (.line 0o101#7 0o102#7) = true ∧ directiveOk (.line 0o101#7 0o102#7) [] = true) ∧
    (base.sourceLive .keyboard = true ∧ directiveOk .keyboard [] = true ∧ base.matchOf .keyboard ≠ .foreign) := by
  decide +kernel

theorem witness_AnswersGoToQueueOrNotice :
    { base with store := { base.store with free := [] } }.noticeFits [0o101#7] = false ∧ base.noticeFits [0o101#7] = true := by
  decide +kernel

/-- 65 codes take two blocks. -/
theorem witness_AnswersGoToQueueOrNotice_notice :
    (let text := List.replicate 65 0o101#7
     base.noticeFits text = true ∧ base.store.dir.length = 32 ∧ base.store.cells.wf = true ∧
       text.filterMap base.working.storeCode ≠ [] ∧ (text.filterMap base.working.storeCode).length ≤ 16383) ∧
    base.store.free.Nodup ∧ (0o040#7 : Code) ∉ [0o061#7] := by
  refine ⟨by decide +kernel, ?_, by decide⟩
  have h : base.store.free = List.range 256 := by decide +kernel
  rw [h]; exact List.nodup_range

theorem witness_SelectAndDeselect :
    (base.LineBrings 0o113#7 0o124#7 [] ∧ base.working.callCode = some (0o113#7, 0o124#7)) ∧ base.LineBrings 0o132#7 0o132#7 [] ∧
    (base.LineBrings 0o101#7 0o102#7 [] ∧ base.working.callCode ≠ some (0o101#7, 0o102#7) ∧
      ((0o101#7 : Code), (0o102#7 : Code)) ≠ (0o132#7, 0o132#7)) := by decide +kernel

/-- The body "3 9999": the highest precedence and serial. -/
def topHeading : List Code := [0o063#7, 0o040#7, 0o071#7, 0o071#7, 0o071#7, 0o071#7]

theorem witness_HeadingsOpenMessages :
    base.LineBrings 0o113#7 0o124#7 topHeading ∧ base.conn.selected = true ∧ base.working.callCode = some (0o113#7, 0o124#7) ∧
      FieldsAre topHeading [3, 9999] ∧ base.store.dir.length = 32 := by unfold FieldsAre; decide +kernel

/-- Every entry of the directory in use. -/
def fullDirectory : State :=
  { base with store := { base.store with dir := List.replicate 32 { Record.empty with state := .complete, retained := true } } }

theorem witness_HeadingsOpenMessages_stack :
    ((State.cutFrom 1 base.store.openStack base).topTakes .suspended).lowestEmpty = some 1 ∧
    (fullDirectory.store.dir.length = 32 ∧
      ((State.cutFrom 1 fullDirectory.store.openStack fullDirectory).topTakes .suspended).lowestEmpty = none) ∧
    (StackEntry.mk 1 (some 1)).precedence < 2 ∧ (1 ≤ (StackEntry.mk 1 none).precedence ∧ (StackEntry.mk 1 none).entry = none) ∧
    (1 ≤ (StackEntry.mk 1 (some 1)).precedence ∧ (StackEntry.mk 1 (some 1)).entry = some 1) ∧
    busy.store.openStack = ⟨1, some 1⟩ :: [] ∧ base.store.openStack = [] := by decide +kernel

/-- A message open over another. -/
def nested : State :=
  let s := withRecord .suspended .line (some 17) base
  { s with
    store :=
      { s.store with
        dir := (s.store.dir.set 1 { Record.empty with state := .receiving, serial := some 18, precedence := 2 })
        arrival := [1, 2]
        openStack := [⟨2, some 2⟩, ⟨1, some 1⟩] } }

theorem witness_EndsCloseTheTopMessage :
    (base.LineBrings 0o113#7 0o124#7 [] ∧ base.conn.selected = true ∧ base.working.callCode = some (0o113#7, 0o124#7) ∧
      base.store.openStack = []) ∧
    (nested.LineBrings 0o113#7 0o124#7 [] ∧ nested.conn.selected = true ∧ nested.working.callCode = some (0o113#7, 0o124#7) ∧
      nested.store.openStack = ⟨2, some 2⟩ :: [⟨1, some 1⟩]) ∧
    { base with store := { base.store with openStack := [⟨3, none⟩] } }.store.openStack = ⟨3, none⟩ :: [] := by decide +kernel

theorem witness_SettingsIdentityAndStatus :
    (base.Brings kt [0o061#7] ∧ FieldsAre [0o061#7] [1] ∧ base.Brings .keyboard [0o061#7]) ∧
    (base.Brings kt [] ∧ base.openCheck kt false = none ∧ base.Brings .keyboard [] ∧ base.openCheck .keyboard false = none) ∧
    (base.Brings kt [0o065#7] ∧ FieldsAre [0o065#7] [5]) := by unfold FieldsAre; decide +kernel

/-- P 1 and Q 1 for ZZ; J is the letter of no directive. -/
theorem witness_SettingsIdentityAndStatus_broadcast_and_unknown :
    (base.LineBrings 0o132#7 0o132#7 [0o061#7] ∧ base.working.callCode ≠ some (0o132#7, 0o132#7) ∧ FieldsAre [0o061#7] [1]) ∧
    DirKind.ofLetter 0o112#7 = none ∧ base.dir.queue.length < 4 ∧ 4 ≤ fullQueue.dir.queue.length := by
  unfold FieldsAre; decide +kernel

/-- The body "1 4417". -/
def operatorBody : List Code := [0o061#7, 0o040#7, 0o064#7, 0o064#7, 0o061#7, 0o067#7]

theorem witness_AccessNumbersAreTriedAndSet :
    (secured.Brings kt operatorBody ∧ readFields operatorBody = some [[0o061#7], [0o064#7, 0o064#7, 0o061#7, 0o067#7]] ∧
      fieldValue [0o061#7] = 1) ∧
    { secured with access := ⟨5, true, false, .closed, .closed⟩ }.access.expired = true ∧
    { secured with access := ⟨0, false, true, .closed, .closed⟩ }.access.frozen = true ∧
    (base.access.expired = false ∧ base.access.frozen = false ∧ base.working.operatorNumber = none) ∧
    (∃ h, secured.working.operatorNumber = some h ∧ h ≠ [0o071#7]) ∧
    secured.working.operatorNumber = some [0o064#7, 0o064#7, 0o061#7, 0o067#7] ∧
    (base.Brings .keyboard operatorBody ∧
      readFields operatorBody = some ([0o061#7] :: (some [0o064#7, 0o064#7, 0o061#7, 0o067#7]).toList)) ∧
    (base.Brings .keyboard [0o062#7] ∧ readFields [0o062#7] = some ([0o062#7] :: (none : Option (List Code)).toList) ∧
      fieldValue [0o062#7] = 2 ∧ base.passesOpen .keyboard false = true) ∧
    (secured.Brings .keyboard [0o062#7] ∧ secured.passesOpen .keyboard false = false) := by
  refine ⟨?_, ?_, ?_, ?_, ⟨_, rfl, ?_⟩, ?_⟩ <;> decide +kernel

/-- The bodies "3 1" and "3", whose w is neither 1 nor 2; and each row of the open check's table. -/
theorem witness_AccessNumbersAreTriedAndSet_fields_and_table :
    (base.Brings .keyboard [0o063#7, 0o040#7, 0o061#7] ∧ readFields [0o063#7, 0o040#7, 0o061#7] = some [[0o063#7], [0o061#7]] ∧
      fieldValue [0o063#7] ≠ 1 ∧ fieldValue [0o063#7] ≠ 2) ∧
    (base.Brings .keyboard [0o063#7] ∧ readFields [0o063#7] = some [[0o063#7]]) ∧
    (secured.working.operatorNumber.isSome = true ∧ secured.access.lineOpen = .closed ∧ secured.working.strict = false) ∧
    { secured with access := { secured.access with lineOpen := .operator } }.access.lineOpen ≠ .closed ∧
    (let s := withProfile (·.setPar 34 1) { secured with access := { secured.access with lineOpen := .operator } }
     s.working.operatorNumber.isSome = true ∧ s.access.lineOpen = .operator ∧ s.working.strict = true) ∧
    (let s := withProfile (·.setPar 34 1) { secured with access := { secured.access with lineOpen := .supervisor } }
     s.working.operatorNumber.isSome = true ∧ s.access.lineOpen = .supervisor ∧ s.working.strict = true) := by decide +kernel

/-- `base` with the LINE claim given, and the KEYBOARD's. -/
def claiming (l k : Claim) : State := { base with punch := { base.punch with lineClaim := l, keyboardClaim := k } }

theorem witness_ClaimsAndReleases :
    (base.Brings kt [0o061#7] ∧ FieldsAre [0o061#7] [1] ∧ fromLine kt = true) ∧
    ((base.punch.claim .line).state = .idle ∧ base.punch.holder = none) ∧ (claiming ⟨.idle, 0⟩ ⟨.holding, 1⟩).punch.holder ≠ none ∧
    (let s := { claiming ⟨.draining, 0⟩ ⟨.idle, 0⟩ with punch := { (claiming ⟨.draining, 0⟩ ⟨.idle, 0⟩).punch with piece := .trailer } }
     (s.punch.claim .line).state = .draining ∧ s.punch.piece = .trailer) ∧
    ((claiming ⟨.holding, 14⟩ ⟨.idle, 0⟩).punch.claim .line).count < 15 ∧
    15 ≤ ((claiming ⟨.holding, 15⟩ ⟨.idle, 0⟩).punch.claim .line).count ∧
    1 < ((claiming ⟨.holding, 2⟩ ⟨.idle, 0⟩).punch.claim .line).count ∧
    (((claiming ⟨.holding, 1⟩ ⟨.idle, 0⟩).punch.claim .line).state = .holding ∧
      ((claiming ⟨.holding, 1⟩ ⟨.idle, 0⟩).punch.claim .line).count ≤ 1) ∧
    (((claiming ⟨.waiting, 1⟩ ⟨.holding, 1⟩).punch.claim .line).state = .waiting ∧
      ((claiming ⟨.waiting, 1⟩ ⟨.holding, 1⟩).punch.claim .line).count ≤ 1) := by unfold FieldsAre; decide +kernel

/-- A record waits for LINE, marked; and one is marked for nothing. -/
theorem witness_ClaimsAndReleases_abandoned :
    (busy.store.dir.length = 32 ∧ 1 ∈ busy.store.arrival ∧ (busy.record 1).punch.status = .pending ∧
      (busy.record 1).punchSource = .line) ∧
    (busy.record 2).punch.status ≠ .pending ∧
    (claiming ⟨.waiting, 1⟩ ⟨.holding, 1⟩).punch.lineClaim.state = .waiting ∧
    ((claiming ⟨.draining, 0⟩ ⟨.idle, 0⟩).punch.lineClaim.state = .draining ∧
      (claiming ⟨.draining, 0⟩ ⟨.idle, 0⟩).punch.piece ≠ .trailer) := by decide +kernel

theorem witness_ListingsOfTheDirectory :
    (base.Brings kt [] ∧ base.openCheck kt false = none ∧ fromLine kt = true ∧ base.dir.queue.any (fun q => q.kind == .listing) = false) ∧
    (let s := { base with dir := { base.dir with queue := [⟨.listing, [], .none, [], 0⟩] } }
     s.Brings kt [] ∧ s.dir.queue.any (fun q => q.kind == .listing) = true) ∧
    (base.Brings .keyboard [] ∧ fromLine .keyboard = false ∧ base.noticeFits [0o114#7] = true) ∧
    { base with store := { base.store with free := [] } }.noticeFits [0o114#7] = false := by decide +kernel

theorem witness_ListingsOfTheDirectory_lines :
    ((withRecord .complete .line (some 20) base).record 1).state ≠ .empty ∧
    (let h : ReplyEntry := ⟨.listing, [], .none, [⟨1, false⟩, ⟨2, true⟩], 1⟩
     { base with dir := { base.dir with queue := [h] } }.dir.queue = h :: [] ∧ h.captured[h.sent]? = some ⟨2, true⟩) ∧
    (let h : ReplyEntry := ⟨.listing, [], .none, [⟨1, false⟩, ⟨2, true⟩], 2⟩
     { base with dir := { base.dir with queue := [h] } }.dir.queue = h :: [] ∧ h.captured[h.sent]? = none) := by decide +kernel

theorem witness_RetrievalsAndCopiesBegin :
    (let s := withRecord .complete .line (some 20) base
     s.Brings kt [0o061#7] ∧ fromLine kt = true ∧ s.openCheck kt false = none ∧ FieldsAre [0o061#7] [1] ∧
       (s.record 1).state = .complete ∧ (s.record 1).deletePending = false ∧ (s.record 1).send.status ≠ .pending ∧
       s.tx.retrieval = none ∧ s.Brings .keyboard [0o061#7] ∧ s.openCheck .keyboard false = none ∧
       (s.record 1).punch.status ≠ .pending ∧ s.punch.copyList.length < 8) ∧
    (base.Brings kt [0o063#7, 0o062#7] ∧ FieldsAre [0o063#7, 0o062#7] [32] ∧ (base.record 32).state = .empty) ∧
    (let s := withRecord .receiving .line (some 20) base
     s.Brings kt [0o061#7] ∧ (s.record 1).state ≠ .empty ∧ (s.record 1).deletePending = false ∧ (s.record 1).state.isOpen = true) ∧
    (let s := withRecord .complete .line (some 20) { base with punch := { base.punch with copyList := [2, 3, 4, 5, 6, 7, 8, 9] } }
     s.Brings .keyboard [0o061#7] ∧ 8 ≤ s.punch.copyList.length) := by unfold FieldsAre; decide +kernel

/-- A retrieval in progress, with this part of it left. -/
def retrieving (part : RetrievalPart) : State :=
  { base with tx := { base.tx with retrieval := some ⟨none, false, part, [0o015#7, 0o012#7], []⟩ } }

theorem witness_RetrievalsAndCopiesBegin_busy :
    ((retrieving .crlf).Brings kt [0o063#7, 0o062#7] ∧ fromLine kt = true ∧ (retrieving .crlf).openCheck kt false = none ∧
      FieldsAre [0o063#7, 0o062#7] [32] ∧ (retrieving .crlf).tx.retrieval.isSome = true) ∧
    base.tx.retrieval = none := by unfold FieldsAre; decide +kernel

/-- R140: an R taken during the closing part is refused with N08, also for an EMPTY entry. -/
theorem test_retrieval_during_the_closing_part :
    after (.retrieveEntry kt [0o063#7, 0o062#7]) (retrieving .crlf) =
      ((retrieving .crlf).answer ((retrieving .crlf).call .retrieve kt [0o063#7, 0o062#7]) Reason.n08.alone).settle := by
  decide +kernel

theorem witness_DeletionsLetRecordsGo :
    (base.Brings kt [0o063#7, 0o062#7] ∧ base.openCheck kt false = none ∧ FieldsAre [0o063#7, 0o062#7] [32] ∧
      (base.record 32).state = .empty) ∧
    (withRecord .suspended .line (some 1) base |> fun s => s.Brings kt [0o061#7] ∧ (s.record 1).state.isOpen = true) ∧
    (withRecord .cut .line (some 1) base |> fun s =>
      s.Brings kt [0o061#7] ∧ (s.record 1).state.isClosed = true ∧ s.store.dir.length = 32 ∧ (s.record 1).deletePending = false) := by
  unfold FieldsAre; decide +kernel

/-- Two closed records, one on top of the print context stack and one beneath it that is also on the copy list. -/
def copied : State :=
  { base with
    store :=
      { base.store with
        free := (List.range 256).drop 2
        dir :=
          [{ Record.empty with
              state := .complete, serial := some 17, precedence := 2, length := 1, blocks := [0], print := ⟨.pending, 0, true⟩ },
            { Record.empty with
              state := .cut, serial := some 18, precedence := 1, length := 1, blocks := [1], print := ⟨.pending, 0, true⟩
              punch := ⟨.pending, 0, true⟩, punchSource := .copy }] ++ List.replicate 30 Record.empty
        arrival := [2, 1] }
    print := { base.print with contexts := [⟨1, 0, false⟩, ⟨2, 0, true⟩] }
    punch := { base.punch with copyClaim := ⟨.waiting, 1⟩, copyList := [2] } }

theorem copied_inUse (e : Nat) : copied.InUse e ↔ e = 1 ∨ e = 2 := by
  have h : ∀ e, e < 33 → 1 ≤ e → (copied.record e).state ≠ .empty → e = 1 ∨ e = 2 := by decide +kernel
  exact ⟨fun u => h e (by have := u.2.1; omega) u.1 u.2.2, by rintro (rfl | rfl) <;> (unfold State.InUse; decide +kernel)⟩

theorem copied_storeSound : copied.StoreSound := by
  refine ⟨by decide +kernel, by decide +kernel, fun e => ?_, ?_, each_entry (by decide +kernel), fun d e hd he cd _ => ?_⟩
  · rw [copied_inUse]; show e ∈ [2, 1] ↔ _; simp; omega
  · decide +kernel
  · rw [copied_inUse] at hd; exfalso; revert cd; rcases hd with rfl | rfl <;> decide +kernel

theorem copied_storeAndPrinterSound : copied.StoreAndPrinterSound := by
  refine ⟨⟨by decide +kernel, by decide +kernel, ?_⟩, ⟨by decide +kernel, by decide +kernel⟩, copied_storeSound, ⟨by decide +kernel, ?_, ?_, ?_⟩,
    ⟨by decide +kernel, by decide +kernel, ?_, each_entry (by decide +kernel), by decide +kernel⟩, ?_⟩
  · intro c h; simp [copied, base, onHook, State.reset, State.start, ProfileBlock.start] at h
  · intro t h; exact absurd (show t ∈ ([] : List StackEntry).head? from h) (by simp)
  · intro t h; exact absurd (show t ∈ ([] : List StackEntry).tail from h) (by simp)
  · intro e h r; rw [copied_inUse] at h; exfalso; revert r; rcases h with rfl | rfl <;> decide +kernel
  · simp only [copied_inUse]; simp [copied]; decide +kernel
  · refine ⟨by decide +kernel, by decide +kernel, ?_, by decide +kernel, ?_⟩ <;>
      simp [copied, base, onHook, State.reset, State.start, TxBlock.start]

theorem copied_claimsSound : copied.ClaimsSound := by
  refine ⟨fun x y hx hy => ?_, fun x => ?_, by decide +kernel, by decide +kernel, by decide +kernel, ?_, fun h => absurd h (by decide +kernel)⟩
  · revert hx hy; cases x <;> cases y <;> decide +kernel
  · cases x <;> decide +kernel
  · simp only [copied_inUse]; simp [copied]; decide +kernel

/-- A record beneath the top and on the copy list, and the record on top. -/
theorem witness_DeletionsLetRecordsGo_sound :
    copied.StoreAndPrinterSound ∧ copied.ClaimsSound ∧ copied.InUse 1 ∧ copied.InUse 2 ∧
      ((copied.record 1).state.isClosed = true ∧ (copied.record 1).deletePending = false ∧ 1 ∉ copied.punch.copyList) ∧
      ((copied.record 2).state.isClosed = true ∧ (copied.record 2).deletePending = false ∧ 2 ∈ copied.punch.copyList) ∧
      ((copied.record 1).punch.status = .pending → (copied.record 1).punchSource = .copy → 1 ∈ copied.punch.copyList) :=
  ⟨copied_storeAndPrinterSound, copied_claimsSound, (copied_inUse 1).2 (.inl rfl), (copied_inUse 2).2 (.inr rfl), by decide +kernel⟩

theorem witness_DeletionsLetRecordsGo_delete_pending :
    ((copied.deleteRecord 1).record 1).state.isClosed = true ∧ ((copied.deleteRecord 1).record 1).deletePending = true := by
  decide +kernel

/-- R58, R93, R107: beneath the top and on the copy list, the record is freed at once, and the COPY claim goes. -/
theorem test_delete_beneath_and_copied :
    (copied.deleteRecord 2).record 2 = .empty ∧ (copied.deleteRecord 2).print.contexts = [⟨1, 0, false⟩] ∧
      (copied.deleteRecord 2).punch.copyClaim = ⟨.idle, 0⟩ := by decide +kernel

/-- Under STRICT, the line open as supervisor. -/
def strictSupervisor : State :=
  withProfile (·.setPar 34 1) { secured with access := { secured.access with lineOpen := .supervisor } }

theorem witness_ErasesVoidTheStack :
    (strictSupervisor.Brings kt [] ∧ strictSupervisor.openCheck kt true = none ∧
      strictSupervisor.working.operatorNumber.isSome = true ∧ strictSupervisor.working.strict = true ∧
      strictSupervisor.openState kt = .supervisor) ∧
    (let s := { base with access := { base.access with frozen := true } }
     s.Brings kt [] ∧ s.passesOpen kt true = true ∧ s.access.frozen = true) ∧ base.working.operatorNumber = none := by decide +kernel

theorem witness_ErasesVoidTheStack_records :
    (let s := withRecord .complete .line (some 20) base
     s.store.dir.length = 32 ∧ 1 ∈ s.store.arrival ∧ (s.record 1).state.isClosed = true ∧ (s.record 1).deletePending = false) ∧
    (busy.store.dir.length = 32 ∧ 1 ∈ busy.store.arrival ∧ (∃ t ∈ busy.store.openStack, t.entry = some 1) ∧
      (busy.record 1).deletePending = false) ∧
    (let s := withRecord .composing .keyboard (some 42) base
     1 ∈ s.store.arrival ∧ s.composing = some 1 ∧ (s.record 1).deletePending = false) ∧
    strictSupervisor.openState kt = .supervisor ∧ secured.working.strict = false := by decide +kernel

theorem witness_ErasesVoidTheStack_sound :
    (busy.StoreAndPrinterSound ∧ busy.ClaimsSound ∧ busy.InUse 1 ∧ (busy.record 1).deletePending = false) ∧
    copied.StoreAndPrinterSound ∧ copied.ClaimsSound ∧ copied.InUse 2 ∧ (copied.record 2).deletePending = false ∧
      ∀ e ∈ copied.punch.copyList, (copied.record e).deletePending = false :=
  ⟨⟨busy_storeAndPrinterSound, busy_claimsSound, (busy_inUse 1).2 rfl, by decide +kernel⟩, copied_storeAndPrinterSound,
    copied_claimsSound, (copied_inUse 2).2 (.inr rfl), by decide +kernel⟩

/-- The bodies "34 1" and "31 127" (parameter 32 being 126), and B's "5 0". -/
theorem witness_ParametersAndTableLoads :
    (base.Brings kt [0o063#7, 0o064#7, 0o040#7, 0o061#7] ∧ base.openCheck kt false = none ∧
      FieldsAre [0o063#7, 0o064#7, 0o040#7, 0o061#7] [34, 1]) ∧
    (let s := withProfile (·.setPar 32 126) base
     s.Brings .keyboard [0o063#7, 0o061#7, 0o040#7, 0o061#7, 0o062#7, 0o067#7] ∧
       FieldsAre [0o063#7, 0o061#7, 0o040#7, 0o061#7, 0o062#7, 0o067#7] [31, 127] ∧
       (s.working.setPar 31 (clampPar 31 127)).activeHigh < (s.working.setPar 31 (clampPar 31 127)).activeLow) ∧
    (base.Brings kt [0o065#7, 0o040#7, 0o060#7] ∧ FieldsAre [0o065#7, 0o040#7, 0o060#7] [5, 0] ∧
      base.working.load [5, 0] = some { ktProfile with callCode := none }) ∧
    (base.Brings kt [0o071#7] ∧ FieldsAre [0o071#7] [9] ∧ base.working.load [9] = none) ∧
    (ktProfile.lineLength = base.working.lineLength ∧ ktProfile.formLength = base.working.formLength ∧
      ktProfile.lineIdleS = base.working.lineIdleS) := by unfold FieldsAre; decide +kernel

theorem witness_CommitsAreWrittenAndReadBack :
    (base.Brings kt [] ∧ base.openCheck kt false = none ∧ base.profile.commit = none ∧ fromLine kt = true ∧ base.Brings .keyboard []) ∧
    ((committing true).Brings kt [] ∧ (committing true).profile.commit.isSome = true) ∧
    ((committing false).powered = true ∧ (committing false).profile.commit = some ⟨ktImage, false⟩) := by decide +kernel

theorem witness_CommitsAreWrittenAndReadBack_images :
    ktImage.passes = true ∧ base.profile.image.passes = false ∧ ktProfile.wf = true := by decide +kernel

theorem witness_ResetsAndHangUps :
    (base.Brings kt [] ∧ base.openCheck kt false = none ∧ base.Brings .keyboard []) ∧
    (let s := { base with dir := { base.dir with queue := [⟨.lineReply, [], .reset, [], 0⟩] } }
     s.powered = true ∧ s.dir.queue = ⟨.lineReply, [], .reset, [], 0⟩ :: [] ∧
       (⟨.lineReply, [], .reset, [], 0⟩ : ReplyEntry).deferred = .reset) ∧
    (⟨.lineReply, [], .clear, [], 0⟩ : ReplyEntry).deferred = .clear := by decide +kernel

theorem witness_StationResetSetsAndKeeps :
    base.profile.image.passes = false ∧ imaged.profile.image.passes = true := by
  decide +kernel

theorem witness_StationResetSetsAndKeeps_records : busy.StoreAndPrinterSound ∧ busy.InUse 1 :=
  ⟨busy_storeAndPrinterSound, (busy_inUse 1).2 rfl⟩

theorem witness_DirectivesAreRefused :
    (base.Brings .keyboard [] ∧ (if fromLine .keyboard = true then DirKind.select.onLine else DirKind.select.onKeyboard) = false) ∧
    (base.Brings kt [] ∧ (if fromLine kt = true then DirKind.copy.onLine else DirKind.copy.onKeyboard) = false) ∧
    (secured.Brings kt [] ∧ DirKind.freeze.needsOpen = true ∧ secured.openCheck kt (DirKind.freeze == .erase) = some .n01) := by
  decide +kernel

theorem witness_DirectivesAreRefused_frozen_and_fields :
    (let s := { base with access := { base.access with frozen := true } }
     s.Brings kt [] ∧ s.openCheck kt (DirKind.erase == .erase) = some .n02) ∧
    (base.Brings kt [0o101#7] ∧ readFields [0o101#7] = none ∧ DirKind.freeze.needsOpen = true ∧
      base.openCheck kt (DirKind.freeze == .erase) = none) ∧
    (base.Brings kt [0o062#7] ∧ FieldsAre [0o062#7] [2] ∧ DirKind.punch.fieldsOk [2] = false ∧ DirKind.punch.needsOpen = false) := by
  unfold FieldsAre; decide +kernel

theorem witness_DirectivesAreRefused_dropped_and_overrun :
    (base.Brings kt [0o064#7, 0o040#7, 0o061#7] ∧ base.conn.selected = true ∧ FieldsAre [0o064#7, 0o040#7, 0o061#7] [4, 1] ∧
      DirKind.heading.fieldsOk [4, 1] = false) ∧
    (fullQueue.LineBrings 0o113#7 0o124#7 [] ∧ fullQueue.working.callCode = some (0o113#7, 0o124#7) ∧
      DirKind.identify.answered = true ∧ 4 ≤ fullQueue.dir.queue.length) := by unfold FieldsAre; decide +kernel

/-- A FOREIGN S with a body, a BROADCAST I, an M while not selected, and bad fields of a BROADCAST Q and M. -/
theorem witness_DirectivesAreRefused_ignored :
    ([0o061#7] : List Code) ≠ [] ∧ DirKind.identify.broadcast = false ∧
      { base with conn := { base.conn with selected := false } }.conn.selected = false ∧ readFields [0o101#7] = none ∧
      (FieldsAre [0o062#7] [2] ∧ DirKind.printSwitch.fieldsOk [2] = false) ∧ base.conn.selected = true := by
  unfold FieldsAre; decide +kernel

/-- A record of 64 cells, all its block full. -/
def fullBlock : State :=
  let s := withRecord .complete .line (some 1) base
  { s with
    store := { s.store with dir := s.store.dir.set 0 { s.record 1 with length := 64, blocks := [0] }, free := (List.range 256).drop 1 } }

theorem witness_AppendWritesOneCell :
    fullBlock.store.cells.wf = true ∧ fullBlock.store.dir.length = 32 ∧
      (fullBlock.record 1).blocks.length = ((fullBlock.record 1).length + 63) / 64 ∧
      (fullBlock.append 1 ⟨0o101#7, .doubtful⟩).isSome = true := by decide +kernel

/-- No block for the cell; no message open, with an entry EMPTY and with none. -/
theorem witness_AppendWritesOneCell_line_text :
    ({ fullBlock with store := { fullBlock.store with free := [] } }.append 1 ⟨0o101#7, .good⟩).isNone = true ∧
    (base.store.openStack = [] ∧ base.lowestEmpty = some 1) ∧
    (fullDirectory.store.openStack = [] ∧ fullDirectory.lowestEmpty = none) := by decide +kernel

theorem witness_PrinterOperationsComplete :
    (base.powered = true ∧ base.print.inFlight = none) ∧ (printing .ret).print.inFlight = some .ret ∧
      (printing .space).print.inFlight = some .space ∧ (printing .bell).print.inFlight = some .bell ∧
      (printing .feed).print.inFlight = some .feed ∧ (printing (.print 1 false)).print.inFlight = some (.print 1 false) ∧
      (printing (.print 1 true)).print.inFlight = some (.print 1 true) := by decide +kernel

/-- `base` with the printer, the punch or the transmitter changed. -/
def onPrint (f : PrintBlock → PrintBlock) (s : State) : State := { s with print := f s.print }
def onPunch (f : PunchBlock → PunchBlock) (s : State) : State := { s with punch := f s.punch }
def onTx (f : TxBlock → TxBlock) (s : State) : State := { s with tx := f s.tx }

/-- Past the last column, with auto new line and without; at it. -/
theorem witness_PrinterOperationsComplete_conversion :
    (Cell.mk 0o101#7 .mutilated).quality = .mutilated ∧
    ((Cell.mk 0o101#7 .good).quality ≠ .mutilated ∧ (0o101#7 : Code) ∉ [0o015#7, 0o012#7, 0o040#7, 0o007#7, 0o014#7, 0o000#7]) ∧
    72 ≤ ktProfile.lineLength ∧ ktProfile.lineLength < 73 ∧ ktProfile.autoNewLine = true ∧ (ktProfile.setPar 15 0).autoNewLine = false := by
  decide +kernel

theorem witness_PrinterOperationsComplete_headers :
    { busy.record 1 with started := true }.started = true ∧
    ((busy.record 1).started = false ∧ (busy.record 1).origin = .line ∧ (busy.record 1).serial = some 17) ∧
    (withProfile (·.setPar 17 1) busy).working.printHeadings = true ∧ (withProfile (·.setPar 17 0) busy).working.printHeadings = false ∧
    (let r := (withRecord .complete .keyboard (some 42) base).record 1
     r.started = false ∧ r.origin ≠ .line) := by decide +kernel

/-- Two line records, entry 1 RECEIVING at precedence 1 with two cells, `f` applied, and entry 2 COMPLETE at the precedence given with
one, its print PENDING; entry 1 the top context. -/
def overlaid (f : Record → Record) (p : Nat) : State :=
  { busy with
    store :=
      { busy.store with
        dir :=
          f { busy.record 1 with length := 2 } ::
            { busy.record 1 with
              state := .complete, serial := some 18, precedence := p, length := 1, blocks := [1], print := ⟨.pending, 0, false⟩
              punch := ⟨.none, 0, false⟩ } :: List.replicate 30 Record.empty
        free := (List.range 256).drop 2
        arrival := [1, 2] } }

/-- An abandoned top; a finished one. -/
theorem witness_PrinterOperationsComplete_pops :
    base.print.contexts = [] ∧ busy.print.contexts = ⟨1, 0, false⟩ :: [] ∧
    ((overlaid (fun r => { r with print := ⟨.abandoned, 0, true⟩ }) 1).record 1).print.status = .abandoned ∧
    (let r := (overlaid (fun r => { r with state := .complete, print := ⟨.pending, 2, true⟩ }) 1).record 1
     r.print.status ≠ .abandoned ∧ r.print.cursor = r.length ∧ r.state = .complete) ∧
    (2 ∈ ([⟨2, 0, false⟩] : List PrintContext).map (·.entry)) := by decide +kernel

/-- A candidate of precedence 3; one of 2 after a FEED at column 1, at the end of the cells, and in neither case; and none. -/
theorem witness_PrinterOperationsComplete_boundary :
    (let s := overlaid id 3
     (s.record 1).print.status ≠ .abandoned ∧ (s.record 1).print.cursor ≠ (s.record 1).length ∧ s.exceeding 1 = some 2 ∧
       (s.record 2).precedence = 3) ∧
    (let s := onPrint (fun b => { b with lastFeed := true }) (overlaid id 2)
     s.exceeding 1 = some 2 ∧ s.print.lastFeed = true ∧ s.print.column = 1) ∧
    (let s := overlaid (fun r => { r with print := ⟨.pending, 2, true⟩ }) 2
     s.exceeding 1 = some 2 ∧ (s.record 1).print.cursor = (s.record 1).length ∧ (s.record 1).state.isOpen = true) ∧
    (let s := overlaid id 2
     s.exceeding 1 = some 2 ∧ (s.record 2).precedence ≠ 3 ∧ s.print.lastFeed = false ∧ (s.record 1).print.cursor < (s.record 1).length) ∧
    (let s := overlaid (fun r => { r with print := ⟨.pending, 2, true⟩ }) 1
     s.exceeding 1 = none ∧ (s.record 1).length ≤ (s.record 1).print.cursor ∧ (s.record 1).state.isOpen = true) := by decide +kernel

theorem witness_PrinterOperationsComplete_sequences :
    (∀ k ∈ [SeqKind.cell, .opening, .resumption], (onPrint (fun b => { b with kind := k }) busy).print.kind = k) ∧
    (onPrint (fun b => { b with held := true }) busy).print.held = true ∧
    (let s := onPrint (fun b => { b with ops := [.feed], paperOut := true }) busy
     s.print.ops = .feed :: [] ∧ s.print.paperOut = true ∧ s.motor.state ≠ .running) ∧
    (let s := onPrint (fun b => { b with ops := [.ret], paperOut := true }) busy
     s.print.ops = .ret :: [] ∧ s.print.held = false ∧ ¬(PrinterOp.ret = .feed ∨ ∃ position advance, PrinterOp.ret = .print position advance)) ∧
    (let s := onPrint (fun b => { b with ops := [.ret] }) { busy with motor := { busy.motor with state := .running } }
     s.print.inFlight = none ∧ s.print.fault = false ∧ s.print.held = false ∧ s.print.ops = .ret :: [] ∧ s.motor.state = .running) ∧
    (let s := onPrint (fun b => { b with codes := [0o053#7], kind := .resumption }) busy
     s.print.ops = [] ∧ s.print.codes = 0o053#7 :: []) ∧
    (let s := onPrint (fun b => { b with kind := .resumption }) busy
     s.print.codes = [] ∧ s.print.kind ≠ .none) ∧
    (busy.print.ops = [] ∧ busy.print.codes = [] ∧ busy.print.kind = .none) := by
  simp only [reduceCtorEq, exists_const, or_self, not_false_eq_true]; decide +kernel

theorem witness_PunchRowsFaultsAndPaper :
    (base.powered = true ∧ base.punch.inFlight = none) ∧
    ((punching false).powered = true ∧ (punching false).punch.inFlight = some 31#5 ∧ (punching false).punch.newTapeDue = false) ∧
    ((punching true).punch.inFlight = some 31#5 ∧ (punching true).punch.newTapeDue = true) ∧
    ((printing .ret).powered = true ∧ (printing .ret).print.inFlight = some .ret) := by decide +kernel

/-- What a boundary meets: feed rows, a leader owed, a record, no holder, and a holder with a record to take and with none. -/
theorem witness_PunchRowsFaultsAndPaper_boundary :
    0 < (onPunch (fun b => { b with feedRows := 8 }) busy).punch.feedRows ∧
    (let s := onPunch (fun b => { b with leaderOwed := true }) busy
     s.punch.feedRows = 0 ∧ s.punch.leaderOwed = true) ∧
    (busy.punch.leaderOwed = false ∧ busy.punch.current = some 1) ∧
    (base.punch.feedRows = 0 ∧ base.punch.leaderOwed = false ∧ base.punch.current = none ∧ base.punch.holder = none) ∧
    (let s := onPunch (fun b => { b with current := none }) busy
     s.punch.holder = some .line ∧ s.nextToPunch .line = some 1) ∧
    (let s := claiming ⟨.draining, 0⟩ ⟨.idle, 0⟩
     s.punch.holder = some .line ∧ s.nextToPunch .line = none ∧ (s.punch.claim .line).state = .draining) ∧
    (claiming ⟨.holding, 1⟩ ⟨.idle, 0⟩).nextToPunch .line = none := by decide +kernel

/-- The current record abandoned; its heading owed; a cell left; none left, open and closed. -/
theorem witness_PunchRowsFaultsAndPaper_record :
    ((overlaid (fun r => { r with punch := ⟨.abandoned, 1, true⟩ }) 1).record 1).punch.status = .abandoned ∧
    (let s := onPunch (fun b => { b with framed := true }) busy
     (s.record 1).punch.status ≠ .abandoned ∧ s.punch.framed = true ∧ s.punch.headingDone = false ∧ (s.record 1).serial = some 17) ∧
    (busy.punch.framed = false ∧ (busy.record 1).punch.cursor < (busy.record 1).length) ∧
    (let r := (overlaid (fun r => { r with punch := ⟨.pending, 2, true⟩ }) 1).record 1
     r.punch.status ≠ .abandoned ∧ r.length ≤ r.punch.cursor ∧ r.state.isClosed = false) ∧
    (let r := (overlaid (fun r => { r with state := .complete, punch := ⟨.pending, 2, true⟩ }) 1).record 1
     r.length ≤ r.punch.cursor ∧ r.state.isClosed = true) := by decide +kernel

/-- `busy` with this cell as its record's first. -/
def holdingCell (c : Cell) : State := { busy with store := { busy.store with cells := busy.store.cells.write 0 c } }

/-- FORM FEED is sent as none. -/
theorem witness_PunchRowsFaultsAndPaper_cells :
    ((holdingCell ⟨0o101#7, .mutilated⟩).cellOf 1 0).quality = .mutilated ∧
    (let s := holdingCell ⟨0o014#7, .good⟩
     (s.cellOf 1 0).quality ≠ .mutilated ∧ s.working.convert s.punch.shift (s.cellOf 1 0).code = none) ∧
    (let s := holdingCell ⟨0o101#7, .good⟩
     (s.cellOf 1 0).quality ≠ .mutilated ∧ s.working.convert s.punch.shift (s.cellOf 1 0).code = some ([31#5, 1#5], .letters)) := by decide +kernel

theorem witness_PunchRowsFaultsAndPaper_pieces :
    (∀ p ∈ [Piece.none, .feed, .leader, .heading, .endRows], (onPunch (fun b => { b with piece := p }) busy).punch.piece = p) ∧
    (let s := onPunch (fun b => { b with piece := .cell }) busy
     s.punch.piece = .cell ∧ s.punch.current = some 1) ∧
    (let s := onPunch (fun b => { b with piece := .reelLeader }) busy
     s.punch.piece = .reelLeader ∧ s.punch.restart = false) ∧
    (let s := onPunch (fun b => { b with piece := .reelLeader, restart := true }) busy
     s.punch.piece = .reelLeader ∧ s.punch.restart = true ∧ s.punch.current = some 1) ∧
    (let s := onPunch (fun b => { b with piece := .trailer }) (claiming ⟨.draining, 0⟩ ⟨.waiting, 1⟩)
     s.punch.piece = .trailer ∧ s.punch.holder = some .line) := by decide +kernel

theorem witness_PunchRowsFaultsAndPaper_step :
    (onPunch (fun b => { b with tapeOut := true }) busy).punch.tapeOut = true ∧
    (let s := onPunch (fun b => { b with rows := [0#5], tapeSupply := 0 }) busy
     s.punch.inFlight = none ∧ s.punch.fault = false ∧ s.punch.tapeOut = false ∧ s.punch.rows = 0#5 :: [] ∧ s.punch.tapeSupply = 0) ∧
    (let s := onPunch (fun b => { b with rows := [0#5] }) busy
     s.punch.rows = 0#5 :: [] ∧ 0 < s.punch.tapeSupply ∧ s.motor.state ≠ .running) ∧
    ((punching false).motor.state = .running ∧ 0 < (punching false).punch.tapeSupply) ∧
    (onPunch (fun b => { b with shiftAfter := some .letters }) busy).punch.shiftAfter = some .letters ∧
    (let s := onPunch (fun b => { b with codes := [0o033#7], piece := .heading }) busy
     s.punch.rows = [] ∧ s.punch.shiftAfter = none ∧ s.punch.codes = 0o033#7 :: []) ∧
    (let s := onPunch (fun b => { b with piece := .heading }) busy
     s.punch.codes = [] ∧ s.punch.piece ≠ .none) ∧
    (busy.punch.rows = [] ∧ busy.punch.shiftAfter = none ∧ busy.punch.codes = [] ∧ busy.punch.piece = .none) := by decide +kernel

theorem witness_CharactersAndBreaksAreSent :
    ((sending [18#5]).powered = true ∧ (sending [18#5]).tx.inFlight = some (.character 31#5 (18#5 :: []) .letters .orphan)) ∧
    (sending []).tx.inFlight = some (.character 31#5 [] .letters .orphan) ∧
    { base with tx := { base.tx with inFlight := some (.brk 16) } }.tx.inFlight = some (.brk 16) := by decide +kernel

theorem witness_CharactersAndBreaksAreSent_send_data :
    { onHook with conn := onHook.conn.cleared }.conn.clearingSpace = true ∧
    (base.conn.clearingSpace = false ∧ base.tx.inFlight = none) ∧ (sending []).conn.clearingSpace = false := by decide +kernel

theorem witness_ArbiterAndConversion :
    { base with tx := { base.tx with breakPending := true } }.tx.breakPending = true ∧
    (base.tx.breakPending = false ∧ { base with tx := { base.tx with answerback := .sending [0o113#7] } }.tx.answerback = .sending (0o113#7 :: [])) ∧
    (∀ l, base.tx.answerback ≠ .sending l) ∧
    { base with tx := { base.tx with reply := some [0o113#7] } }.tx.reply = some (0o113#7 :: []) ∧
    { base with tx := { base.tx with answerback := .pending } }.tx.answerback = .pending ∧
    (base.tx.answerback = .none ∧ base.tx.reply = none ∧ fullQueue.dir.queue = ⟨.lineReply, [], .none, [], 0⟩ :: fullQueue.dir.queue.drop 1) ∧
    base.working.convert base.tx.shift 0o101#7 = some (31#5 :: [1#5], .letters) ∧
    base.working.convert base.tx.shift 0o014#7 = none ∧
    (ktProfile.codeRec 0o014#7).sendAs = .none ∧ (ktProfile.codeRec 0o040#7).sendAs = .both 29#5 ∧
    (ktProfile.codeRec 0o101#7).sendAs = .letters 1#5 ∧ (ktProfile.codeRec 0o061#7).sendAs = .figures 1#5 ∧
    ktProfile.shiftCode .letters = some 31#5 ∧ ktProfile.shiftCode .figures = some 30#5 ∧
    { ktProfile with rxMap := List.replicate 64 .ignore }.shiftCode .letters = none ∧
    { ktProfile with rxMap := List.replicate 64 .ignore }.shiftCode .figures = none := by
  refine ⟨?_, ?_, fun _ => by simp [base, onHook, State.reset, State.start, TxBlock.start], ?_⟩ <;> decide +kernel

/-- Entry 1 a closed record of two cells with its send PENDING at the cell given. -/
def toSend (cursor : Nat) : State :=
  overlaid (fun r => { r with state := .complete, origin := .keyboard, send := ⟨.pending, cursor, true⟩ }) 1

/-- A retrieval, keyboard text with a cell unsent and with none, and no item; a reserved head lets them go on. -/
theorem witness_ArbiterAndConversion_items :
    (let s := onTx (fun b => { b with retrieval := some ⟨some 1, true, .crlf, [], [.heading]⟩ }) (toSend 0)
     s.tx.breakPending = false ∧ s.tx.answerback = .none ∧ s.tx.reply = none ∧ s.dir.queue.head? = none ∧
       s.tx.retrieval = some ⟨some 1, true, .crlf, [], [.heading]⟩) ∧
    (let s := onTx (fun b => { b with keyboardText := some 1 }) (toSend 1)
     s.tx.retrieval = none ∧ s.tx.keyboardText = some 1 ∧ (s.record 1).send.cursor < (s.record 1).length) ∧
    (let s := onTx (fun b => { b with keyboardText := some 1 }) (toSend 2)
     s.tx.keyboardText = some 1 ∧ (s.record 1).length ≤ (s.record 1).send.cursor) ∧
    (base.tx.retrieval = none ∧ base.tx.keyboardText = none) ∧
    (onTx (fun b => { b with answerback := .sending [] }) base).tx.answerback = .sending [] ∧
    (onTx (fun b => { b with reply := some [] }) base).tx.reply = some [] ∧
    (ReplyEntry.mk .reserved [] .none [] 0).kind = .reserved := by decide +kernel

/-- Codes left; a cell to send; the cells all sent, with parts to come and without; a record let go. -/
theorem witness_ArbiterAndConversion_retrieval :
    (Retrieval.mk (some 1) true .crlf [0o012#7] [.heading]).codes = 0o012#7 :: [] ∧
    (let t : Retrieval := ⟨some 1, true, .cells, [], [.endRows]⟩
     t.codes = [] ∧ t.part = .cells ∧ t.entry = some 1 ∧ ((toSend 1).record 1).send.cursor < ((toSend 1).record 1).length ∧
       ((toSend 2).record 1).length ≤ ((toSend 2).record 1).send.cursor ∧ t.todo = .endRows :: []) ∧
    (Retrieval.mk (some 1) true .endRows [] []).todo = [] ∧ (Retrieval.mk none true .crlf [] [.endRows]).entry = none ∧
    ((toSend 0).record 1).serial = some 17 := by decide +kernel

/-- Abandoned items, a retrieval at its end, and a boundary with nothing to settle. -/
theorem witness_ArbiterAndConversion_settling :
    (let s := overlaid (fun r => { r with state := .complete, send := ⟨.abandoned, 1, true⟩ }) 1
     let u := onTx (fun b => { b with retrieval := some ⟨some 1, true, .cells, [], [.endRows]⟩ }) s
     let v := onTx (fun b => { b with keyboardText := some 1 }) s
     (u.tx.retrieval = some ⟨some 1, true, .cells, [], [.endRows]⟩ ∧ (u.record 1).send.status = .abandoned) ∧
       (v.tx.retrieval = none ∧ v.tx.keyboardText = some 1)) ∧
    (let s := onTx (fun b => { b with retrieval := some ⟨some 1, true, .endRows, [], []⟩ }) (toSend 2)
     (s.record 1).send.status ≠ .abandoned ∧ s.retrievalDone ⟨some 1, true, .endRows, [], []⟩ = true) ∧
    (let s := toSend 0
     s.retrievalDone ⟨some 1, true, .cells, [], [.endRows]⟩ = false ∧ s.tx.keyboardText = none ∧ s.settleItems = none) ∧
    onHook.conn.state ≠ .connected ∧
    (let s := onTx (fun b => { b with keyboardText := some 1 }) (toSend 2)
     s.conn.state = .connected ∧ (s.record 1).send.status = .pending ∧ (s.record 1).state.isClosed = true ∧
       (s.record 1).length ≤ (s.record 1).send.cursor) ∧
    (let s := onTx (fun b => { b with keyboardText := some 1 }) (toSend 1)
     (s.record 1).send.cursor < (s.record 1).length ∧ s.tx.inFlight = none ∧ s.settleItems = none ∧ s.working.rateIndex = s.rx.rate) ∧
    (sending []).tx.inFlight.isSome = true := by decide +kernel

/-! ### One-step tests of whole pieces of work -/

/-- R88, R89, R90: at a pop at column 10 the context beneath is preempted in the middle of a line. -/
theorem test_pop_preempts_mid_line :
    (let s := overlaid id 3
     let r : Record := { s.record 2 with serial := some 19, precedence := 2, print := ⟨.pending, 1, true⟩ }
     (onPrint (fun b => { b with column := 10, contexts := [⟨3, 0, false⟩, ⟨1, 0, false⟩] })
        { s with store := { s.store with dir := s.store.dir.set 2 r, arrival := [1, 2, 3] } }).printBoundary.map
      (·.print.contexts)) = some [⟨2, 0, false⟩, ⟨1, 0, true⟩] := by decide +kernel

/-- R140: a record without serial, abandoned with all its cells sent, is closed with CR, LF alone. -/
theorem test_abandoned_retrieval_closes_with_crlf :
    ((onTx (fun b => { b with retrieval := some ⟨some 1, false, .cells, [], []⟩ })
        (overlaid (fun r => { r with state := .complete, serial := none, send := ⟨.abandoned, 2, true⟩ }) 1)).sendStep.map
      (·.tx.retrieval)) = some (some ⟨none, false, .crlf, [0o015#7, 0o012#7], []⟩) := by decide +kernel

/-- R125: the CR key-down of a local A 23 5 still restarts the close timer with the value before it, 30 s. -/
theorem test_close_timer_value_at_the_key_down :
    (let s := withRecord .composing .keyboard (some 42) base
     let u := after (.characterKeyDown 37#6)
      { s with
        kb := { s.kb with entryFlag := true }
        dir := { s.dir with localAsm := ⟨.body, .none, [0o101#7, 0o062#7, 0o063#7, 0o040#7, 0o065#7]⟩ } }
     (u.kb.closeTimer, u.working.closeTimeS)) = (some 30000, 5) := by decide +kernel

/-- R113: a record PENDING at the key-down and deleted during the new reel's leader is gone back to all the same. -/
theorem test_new_reel_restarts_a_deleted_record :
    (let s := onPunch (fun b => { b with piece := .reelLeader, restart := true, headingDone := true })
      (overlaid (fun r => { r with punch := ⟨.abandoned, 1, true⟩ }) 1)
     (s.endPiece.punch.headingDone, (s.endPiece.record 1).punch.cursor)) = (false, 0) := by decide +kernel

/-- R189: the bytes 1 and 2, and two bytes of 255. -/
theorem test_check_word : checkWord [1#8, 2#8] = 65532#16 ∧ checkPasses [255#8, 255#8] 65025#16 = true := by decide

/-- R51: line text that finds no block is dropped, marked and counted. -/
theorem test_line_text_without_a_block :
    (let s := { withRecord .receiving .line (some 5) base with
        store := { (withRecord .receiving .line (some 5) base).store with openStack := [⟨1, some 1⟩], free := [] } }
     let t := s.lineText ⟨0o101#7, .good⟩
     ((t.record 1).overflowed, t.store.overflowCount, (t.record 1).length)) = (true, 1, 0) := by decide +kernel

/-- R51: text with no message open makes an implicit record of precedence 0. -/
theorem test_implicit_record :
    (let t := base.lineText ⟨0o101#7, .good⟩
     (t.store.openStack, (t.record 1).implicit, t.cellOf 1 0)) = ([⟨0, some 1⟩], true, ⟨0o101#7, .good⟩) := by decide +kernel

/-- R116: keys 6 and 13 in one scan are taken in ascending position, G before N. -/
theorem test_scan_takes_two_keys_in_order :
    (let s := { base with kb := { base.kb with keys := (base.kb.keys.set 6 ⟨.pressing, .none⟩).set 13 ⟨.pressing, .none⟩ } }
     let t := after (.scan 8256) s
     (t.cellOf 1 0, t.cellOf 1 1)) = (⟨0o107#7, .good⟩, ⟨0o116#7, .good⟩) := by decide +kernel

/-- R66, R115: a station reset abandons a line record's punch and cuts it; R95 keeps its print. -/
theorem test_station_reset_cuts_a_record :
    (let r := busy.stationResetEffect.record 1
     (r.state, r.punch, r.print)) = (.cut, ⟨.abandoned, 0, false⟩, ⟨.pending, 0, false⟩) := by decide +kernel

/-- R163, R162: a 49th character typed sends the local assembler to DISCARD. -/
theorem test_overlong_local_directive :
    (let t := (typing .body (List.replicate 48 0o060#7)).handLocal 0o060#7
     (t.dir.localAsm.state, t.dir.overlongCount)) = (.discard, 1) := by decide +kernel

/-- R17: B 3 k 2 16 gives key k SHIFT, and 17 is refused. -/
theorem test_key_function_load :
    ((ktProfile.load [3, 40, 2, 16]).map fun p => p.keyTable.getD 40 .none) = some (.function .shiftFn) ∧
      ktProfile.load [3, 40, 2, 17] = none := by decide +kernel

/-- R69, R191: the ALARM lamp. -/
theorem test_alarm_lamp :
    (after .printerFaultTimerExpiry (printing .ret)).alarmLamp = true ∧
      { base with profile := { base.profile with fault := false } }.alarmLamp = false := by decide +kernel

end Sys2Proof.Tests
end

section
/-! PROOF. How an E or another unanswered line directive reaches its effect (R165), what the operations on records leave of the
open-message stack, and the end request and line text in terms of the entry on top (R50). -/

namespace Sys2Proof.Machine

/-! ### A command as an event -/

/-- A part with power takes the event whole. -/
theorem event_of_powered {s : State} (f : State → State) (h : s.powered = true) : event s f = .next (f s).settle := by
  simp [event, h]

/-- END_OF_MESSAGE is the event of the directive E. -/
theorem exec_endOfMessage (src : DirSource) (body : List Code) (s : State) :
    exec (.endOfMessage src body) s = event s fun s => s.directive .endMsg src body := rfl

namespace DirKind

/-- No two directives share a letter (R164). -/
@[simp] theorem ofLetter_letter (k : DirKind) : ofLetter k.letter = some k := by
  cases k <;> decide

/-- The unanswered directives S, D, M and E may come from the line, and are carried out when BROADCAST (R164, R165). -/
theorem onLine_and_broadcast_of_unanswered {k : DirKind} (h : k.answered = false) : k.onLine = true ∧ k.broadcast = true := by
  cases k <;> revert h <;> decide

end DirKind

namespace State

/-! ### Reaching the effect of an unanswered directive -/

/-- A line directive for the own call code or for ZZ is OWN or BROADCAST (R161). -/
theorem matchOf_ne_foreign {s : State} {c1 c2 : Code} (h : s.working.callCode = some (c1, c2) ∨ (c1, c2) = (0o132#7, 0o132#7)) :
    s.matchOf (.line c1 c2) ≠ .foreign := by
  simp only [matchOf, matchCall]
  obtain hown | hzz := h
  · simp [hown]
  · rw [if_pos hzz]
    split <;> decide

/-- An unanswered directive that is not FOREIGN is carried out while selected: steps 1 to 6 of R165 let it pass. -/
theorem execute_unanswered {s : State} {k : DirKind} {c1 c2 : Code} {r : MatchResult} {body : List Code}
    (hk : k.answered = false) (hr : r ≠ .foreign) (hsel : s.conn.selected = true) :
    s.execute ⟨.line c1 c2, r, k.letter, body⟩ = s.carryOut k ⟨.line c1 c2, r, k.letter, body⟩ := by
  obtain ⟨hline, hbroadcast⟩ := DirKind.onLine_and_broadcast_of_unanswered hk
  simp [execute, checkLetter, overrun, fromLine, hk, hr, hsel, hline, hbroadcast]

/-- An unanswered directive that the line brings to this station while selected is carried out (R161, R165). -/
theorem directive_unanswered {s : State} {k : DirKind} {c1 c2 : Code} {body : List Code} (hk : k.answered = false)
    (hb : s.LineBrings c1 c2 body) (hsel : s.conn.selected = true)
    (haddr : s.working.callCode = some (c1, c2) ∨ (c1, c2) = (0o132#7, 0o132#7)) :
    s.directive k (.line c1 c2) body =
      s.carryOut k ⟨.line c1 c2, s.matchOf (.line c1 c2), k.letter, body⟩ := by
  obtain ⟨-, hconn, hok⟩ := hb
  have hr := matchOf_ne_foreign haddr
  rw [← execute_unanswered hk hr hsel]
  simp [directive, sourceLive, hconn, hok, hr]

/-- An E with no body is carried out as an end request. -/
theorem carryOut_endMsg (s : State) (src : DirSource) (r : MatchResult) (l : Code) :
    s.carryOut .endMsg ⟨src, r, l, []⟩ = s.endMessage := rfl

/-- An E executed while selected is an end request (R50). -/
theorem does_endMessage {s : State} {c1 c2 : Code} (hb : s.LineBrings c1 c2 []) (hsel : s.conn.selected = true)
    (haddr : s.working.callCode = some (c1, c2) ∨ (c1, c2) = (0o132#7, 0o132#7)) :
    Does (.endOfMessage (.line c1 c2) []) s s.endMessage := by
  have ⟨hpow, _, _⟩ := hb
  rw [Does, exec_endOfMessage, event_of_powered _ hpow, directive_unanswered rfl hb hsel haddr, carryOut_endMsg]

/-! ### The open-message stack under changes of records -/

section
variable (s : State)

@[simp] theorem setStack_openStack (st : List StackEntry) : (s.setStack st).store.openStack = st := rfl
@[simp] theorem setRecord_openStack (e : Nat) (r : Record) : (s.setRecord e r).store.openStack = s.store.openStack := rfl
@[simp] theorem freeRecord_openStack (e : Nat) : (s.freeRecord e).store.openStack = s.store.openStack := rfl

@[simp] theorem examine_openStack (e : Nat) : (s.examine e).store.openStack = s.store.openStack := by
  simp only [examine]
  split <;> split <;> simp

@[simp] theorem updRecord_openStack (e : Nat) (f : Record → Record) :
    (s.updRecord e f).store.openStack = s.store.openStack := by simp [updRecord]

end

/-- On an empty stack there is no record to take a state. -/
theorem topTakes_nil {s : State} (st : RecState) (h : s.store.openStack = []) : s.topTakes st = s := by simp [topTakes, h]

/-- A VOID on top takes no state. -/
theorem topTakes_void {s : State} {p : Nat} {rest : List StackEntry} (st : RecState)
    (h : s.store.openStack = ⟨p, none⟩ :: rest) : s.topTakes st = s := by simp [topTakes, h]

/-- The record on top takes the state and is examined. -/
theorem topTakes_record {s : State} {p e : Nat} {rest : List StackEntry} (st : RecState)
    (h : s.store.openStack = ⟨p, some e⟩ :: rest) : s.topTakes st = s.updRecord e fun r => { r with state := st } := by
  simp [topTakes, h]

/-! ### The end request and line text -/

/-- The record that a popped entry names, if any, becomes COMPLETE, whether explicit or implicit (R50). -/
def completeEntry (s : State) (t : StackEntry) : State :=
  match t.entry with
  | none => s
  | some e => s.updRecord e fun r => { r with state := .complete }

@[simp] theorem completeEntry_openStack (s : State) (t : StackEntry) :
    (s.completeEntry t).store.openStack = s.store.openStack := by
  unfold completeEntry
  split <;> simp

/-- An end request on an empty stack is a stray end. -/
theorem endMessage_nil {s : State} (h : s.store.openStack = []) :
    s.endMessage = s.onStore fun b => { b with strayEndCount := sat16 b.strayEndCount } := by simp [endMessage, h]

/-- An end request pops the top, completes its record, and lets the record then on top receive. -/
theorem endMessage_cons {s : State} {t : StackEntry} {rest : List StackEntry} (h : s.store.openStack = t :: rest) :
    s.endMessage = ((s.setStack rest).completeEntry t).topTakes .receiving := by
  simp only [endMessage, h]
  rfl

/-- Line text goes to the record on top. -/
theorem lineText_record {s : State} {p e : Nat} {rest : List StackEntry} (x : Cell)
    (h : s.store.openStack = ⟨p, some e⟩ :: rest) : s.lineText x = s.appendLine e x := by simp [lineText, h]

/-- A VOID on top discards line text. -/
theorem lineText_void {s : State} {p : Nat} {rest : List StackEntry} (x : Cell)
    (h : s.store.openStack = ⟨p, none⟩ :: rest) : s.lineText x = s := by simp [lineText, h]

end State

/-- Settles O41: the end request by what the stack holds beneath its top, the line text by its top. -/
theorem endsCloseTheTopMessage : Obligations.EndsCloseTheTopMessage := by
  refine ⟨fun s c1 c2 hb hsel haddr => ?_, fun _ x _ _ _ h => State.lineText_record x h, fun _ x _ _ h => State.lineText_void x h⟩
  have hdoes := State.does_endMessage hb hsel haddr
  refine ⟨fun hnil => ?_, fun t rest hcons => ?_⟩
  · rwa [State.endMessage_nil hnil] at hdoes
  · intro v w
    have hw : w = (s.setStack rest).completeEntry t := by
      obtain ⟨p, _ | e⟩ := t <;> rfl
    have htop : w.store.openStack = rest := by simp [hw]
    rw [State.endMessage_cons hcons, ← hw] at hdoes
    clear_value w
    match rest with
    | [] => rwa [State.topTakes_nil _ htop] at hdoes
    | ⟨_, none⟩ :: _ => rwa [State.topTakes_void _ htop] at hdoes
    | ⟨_, some e⟩ :: _ => rwa [State.topTakes_record _ htop] at hdoes

end Sys2Proof.Machine
end

section
/-! PROOF. What a character handed to the line assembler does in CALL, LETTER and BODY (R160, R161, R163). -/

namespace Sys2Proof

/-- A character an assembler holds is none of NUL, CR and LEAD (R160). -/
theorem bodyCodeOk_iff {c : Code} : bodyCodeOk c = true ↔ c ≠ 0o000#7 ∧ c ≠ 0o015#7 ∧ c ≠ 0o033#7 := by
  simp [bodyCodeOk, and_assoc]

end Sys2Proof

namespace Sys2Proof.Machine.State

/-! ### Where a character goes -/

/-- R161's comparison, the pair ZZ taken character by character. -/
theorem matchCall_eq (s : State) (c1 c2 : Code) :
    s.matchCall c1 c2 =
      if s.working.callCode = some (c1, c2) then .own
      else if c1 = 0o132#7 ∧ c2 = 0o132#7 then .broadcast else .foreign := by
  simp only [matchCall, Prod.mk.injEq]

/-- In CALL, LETTER and BODY a body character that is not MUTILATED is held. -/
theorem handLine_eq_lineHold {s : State} {c : Code} {q : Quality}
    (hstate : s.dir.lineAsm.state = .call ∨ s.dir.lineAsm.state = .letter ∨ s.dir.lineAsm.state = .body)
    (hc : bodyCodeOk c = true) (hq : q ≠ .mutilated) : s.handLine c q = s.lineHold s.dir.lineAsm c := by
  obtain ⟨hnul, hcr, hlead⟩ := bodyCodeOk_iff.mp hc
  obtain h | h | h := hstate <;> simp only [handLine, h, hq, hnul, hcr, hlead, false_and, if_false]

/-- In BODY a CR that is not MUTILATED ends the directive. -/
theorem handLine_cr_of_body {s : State} {q : Quality} (hstate : s.dir.lineAsm.state = .body) (hq : q ≠ .mutilated) :
    s.handLine 0o015#7 q = s.lineEnd s.dir.lineAsm := by
  simp [handLine, hstate, hq]

/-! ### What holding a character does -/

/-- The character goes to the end of what is held (R163). -/
theorem assembler_holding (a : Assembler) (st : AsmState) (c : Code) : a.holding st c = ⟨st, a.result, a.buffer ++ [c]⟩ := rfl

/-- The second call-code character is held, the pair compared, and LETTER entered (R161). -/
theorem lineHold_call {s : State} {a : Assembler} {c1 : Code} {rest : List Code} (c : Code) (hstate : a.state = .call)
    (hbuf : a.buffer = c1 :: rest) :
    s.lineHold a c = s.setLineAsm ⟨.letter, s.matchCall c1 c, a.buffer ++ [c]⟩ := by
  simp only [lineHold, hstate, hbuf, assembler_holding]

/-- The letter is held; a FOREIGN directive other than S goes to DISCARD, any other to BODY (R161). -/
theorem lineHold_letter {s : State} {a : Assembler} (c : Code) (hstate : a.state = .letter) :
    s.lineHold a c =
      s.setLineAsm ⟨if a.result = .foreign ∧ c ≠ 0o123#7 then .discard else .body, a.result, a.buffer ++ [c]⟩ := by
  have hS : chr 'S' = 0o123#7 := by decide
  simp only [lineHold, hstate, assembler_holding, hS]

/-- A BODY with room keeps its match result and holds the character (R161, R163). -/
theorem lineHold_body {s : State} {a : Assembler} (c : Code) (hstate : a.state = .body) (hroom : a.buffer.length < 48) :
    s.lineHold a c = s.setLineAsm ⟨.body, a.result, a.buffer ++ [c]⟩ := by
  simp only [lineHold, hstate, Nat.not_le.mpr hroom, if_false, assembler_holding]

/-- The CR executes a BODY with the match result as recorded (R160, R161). -/
theorem lineEnd_body {s : State} {a : Assembler} {c1 c2 l : Code} {body : List Code} (hstate : a.state = .body)
    (hbuf : a.buffer = c1 :: c2 :: l :: body) :
    s.lineEnd a = (s.setLineAsm .start).execute ⟨.line c1 c2, a.result, l, body⟩ := by
  simp only [lineEnd, hstate, hbuf]

end Sys2Proof.Machine.State

namespace Sys2Proof.Machine

/-- Settles O37: one case for each state the line assembler holds a character in, and one for the CR. -/
theorem callCodesAreMatched : Obligations.CallCodesAreMatched := by
  refine ⟨fun s c1 c q hstate hbuf hc hq => ?call, fun s c1 c2 c q hstate hbuf hc hq => ?letter,
    fun s c q hstate hroom hc hq => ?body, fun s c1 c2 l body q hstate hbuf hq => ?cr⟩
  case call =>
    rw [State.handLine_eq_lineHold (.inl hstate) hc hq, State.lineHold_call c hstate hbuf, State.matchCall_eq, hbuf]
    rfl
  case letter =>
    rw [State.handLine_eq_lineHold (.inr (.inl hstate)) hc hq, State.lineHold_letter c hstate, hbuf]
    rfl
  case body =>
    rw [State.handLine_eq_lineHold (.inr (.inr hstate)) hc hq, State.lineHold_body c hstate hroom]
    rfl
  case cr =>
    refine ⟨.start, rfl, ?_⟩
    rw [State.handLine_cr_of_body hstate hq, State.lineEnd_body hstate hbuf]
    rfl

end Sys2Proof.Machine
end

section
/-! PROOF. The commands by what they do: `EventOf c f` says that command `c` is the event `f` of a part with power. What a command
does of itself, with power and without it (sections 0.5 and 0.7). -/

namespace Sys2Proof.Machine

/-- Command `c`, none of the three of power and the RESET input, is the event `f`. -/
inductive EventOf : Instr → (State → State) → Prop
  | lineConditionChange (c : LineCond) (t : Nat) : EventOf (.lineConditionChange c t) (·.lineChange c t)
  | falseStart : EventOf .falseStart State.falseStartEvent
  | dataElementSample : EventOf .dataElementSample State.sampleElement
  | stopSample : EventOf .stopSample State.stopEvent
  | breakDeclared : EventOf .breakDeclared State.declareBreak
  | rateAdoption : EventOf .rateAdoption fun s => s.adoptRate.getD s
  | characterSent : EventOf .characterSent State.characterComplete
  | breakSent : EventOf .breakSent State.breakComplete
  | deferredReset : EventOf .deferredReset (·.deferredEvent .reset)
  | deferredClear : EventOf .deferredClear (·.deferredEvent .clear)
  | scan (closed : BitVec 64) : EventOf (.scan closed) (·.scanEvent closed)
  | characterKeyDown (k : KeyPos) : EventOf (.characterKeyDown k) (·.characterDown k)
  | functionKeyDown (k : KeyPos) (f : KeyFn) : EventOf (f.command k) (·.functionDown k f)
  | repetition : EventOf .repetition State.repetitionEvent
  | breakLockTimerExpiry : EventOf .breakLockTimerExpiry State.breakLockExpiry
  | closeTimerExpiry : EventOf .closeTimerExpiry State.closeExpiry
  | directive (k : DirKind) (src : DirSource) (body : List Code) : EventOf (k.command src body) (·.directive k src body)
  | printerDone : EventOf .printerDone State.operationDone
  | printerFaultTimerExpiry : EventOf .printerFaultTimerExpiry State.operationFault
  | paperOutChange (out low : Bool) : EventOf (.paperOutChange out low) (·.paperSensors out low)
  | punchDone : EventOf .punchDone State.rowDone
  | punchFaultTimerExpiry : EventOf .punchFaultTimerExpiry State.rowFault
  | runUpTimerExpiry : EventOf .runUpTimerExpiry State.runUpExpiry
  | idleTimerExpiry : EventOf .idleTimerExpiry State.idleExpiry
  | commitCompletion (same : Bool) : EventOf (.commitCompletion same) (·.commitDone same)
  | callInputChange (present : Bool) : EventOf (.callInputChange present) (·.callChange present)
  | stableMarkTimerExpiry : EventOf .stableMarkTimerExpiry fun s => s.atExpiry s.conn.stableMark State.enterConnected
  | answerTimerExpiry : EventOf .answerTimerExpiry fun s => s.atExpiry s.conn.answerTimer State.enterClearing
  | callTimerExpiry : EventOf .callTimerExpiry fun s => s.atExpiry s.conn.callTimer State.enterClearing
  | sustainedSpaceTimerExpiry : EventOf .sustainedSpaceTimerExpiry fun s => s.atExpiry s.conn.sustainedSpace State.loseLine
  | lineIdleTimerExpiry : EventOf .lineIdleTimerExpiry fun s => s.atExpiry s.conn.lineIdle State.enterClearing
  | clearingTimerExpiry : EventOf .clearingTimerExpiry fun s => s.atExpiry s.conn.clearingTimer State.endClearing
  | lineTypeAdoption : EventOf .lineTypeAdoption fun s => s.adoptLineType.getD s

/-- The commands of power and the RESET input, which are no events. -/
def Instr.ofPower (c : Instr) : Prop := c = .powerOn ∨ c = .hardReset ∨ c = .powerRemoval

/-- A command is one of power and the RESET input, or an event. -/
theorem ofPower_or_eventOf (c : Instr) : Instr.ofPower c ∨ ∃ f, EventOf c f := by
  cases c
  case powerOn => exact .inl (.inl rfl)
  case hardReset => exact .inl (.inr (.inl rfl))
  case powerRemoval => exact .inl (.inr (.inr rfl))
  case lead k => exact .inr ⟨_, .functionKeyDown k .lead⟩
  case hereIs k => exact .inr ⟨_, .functionKeyDown k .hereIs⟩
  case breakKey k => exact .inr ⟨_, .functionKeyDown k .brk⟩
  case lineLocal k => exact .inr ⟨_, .functionKeyDown k .lineLocal⟩
  case tape k => exact .inr ⟨_, .functionKeyDown k .tape⟩
  case feed k => exact .inr ⟨_, .functionKeyDown k .feed⟩
  case newTape k => exact .inr ⟨_, .functionKeyDown k .newTape⟩
  case endKey k => exact .inr ⟨_, .functionKeyDown k .endFn⟩
  case attend k => exact .inr ⟨_, .functionKeyDown k .attend⟩
  case unattend k => exact .inr ⟨_, .functionKeyDown k .unattend⟩
  case answer k => exact .inr ⟨_, .functionKeyDown k .answer⟩
  case seize k => exact .inr ⟨_, .functionKeyDown k .seize⟩
  case clearLine k => exact .inr ⟨_, .functionKeyDown k .clearLine⟩
  case clearFault k => exact .inr ⟨_, .functionKeyDown k .clearFault⟩
  case repeatKey k => exact .inr ⟨_, .functionKeyDown k .repeatFn⟩
  case shiftKey k => exact .inr ⟨_, .functionKeyDown k .shiftFn⟩
  case select src b => exact .inr ⟨_, .directive .select src b⟩
  case deselect src b => exact .inr ⟨_, .directive .deselect src b⟩
  case messageHeading src b => exact .inr ⟨_, .directive .heading src b⟩
  case endOfMessage src b => exact .inr ⟨_, .directive .endMsg src b⟩
  case punchClaim src b => exact .inr ⟨_, .directive .punch src b⟩
  case linePrintSwitch src b => exact .inr ⟨_, .directive .printSwitch src b⟩
  case identify src b => exact .inr ⟨_, .directive .identify src b⟩
  case statusSnapshot src b => exact .inr ⟨_, .directive .status src b⟩
  case openSource src b => exact .inr ⟨_, .directive .openSrc src b⟩
  case closeSource src b => exact .inr ⟨_, .directive .closeSrc src b⟩
  case freeze src b => exact .inr ⟨_, .directive .freeze src b⟩
  case accessNumber src b => exact .inr ⟨_, .directive .number src b⟩
  case listDirectory src b => exact .inr ⟨_, .directive .list src b⟩
  case retrieveEntry src b => exact .inr ⟨_, .directive .retrieve src b⟩
  case deleteEntry src b => exact .inr ⟨_, .directive .delete src b⟩
  case eraseStore src b => exact .inr ⟨_, .directive .erase src b⟩
  case setParameter src b => exact .inr ⟨_, .directive .setPar src b⟩
  case loadTableEntry src b => exact .inr ⟨_, .directive .load src b⟩
  case commitProfile src b => exact .inr ⟨_, .directive .commit src b⟩
  case stationReset src b => exact .inr ⟨_, .directive .reset src b⟩
  case hangUp src b => exact .inr ⟨_, .directive .hangUp src b⟩
  case clearStatistics src b => exact .inr ⟨_, .directive .clearStats src b⟩
  case copyEntryToTape src b => exact .inr ⟨_, .directive .copy src b⟩
  all_goals exact .inr ⟨_, by constructor⟩

/-! ### With power -/

/-- An event is taken by a part with power; three of them are inputs that a part without power has too. -/
theorem EventOf.exec_eq {c : Instr} {f : State → State} (h : EventOf c f) (s : State)
    (hin : s.powered = false → (∀ d t, c ≠ .lineConditionChange d t) ∧ (∀ p, c ≠ .callInputChange p) ∧
      ∀ o l, c ≠ .paperOutChange o l) : exec c s = event s f := by
  cases h
  case functionKeyDown k f => cases f <;> rfl
  case directive k src body => cases k <;> rfl
  case lineConditionChange c t =>
    exact if_pos (by by_contra hpow; exact (hin (by simpa using hpow)).1 c t rfl)
  case callInputChange p =>
    exact if_pos (by by_contra hpow; exact (hin (by simpa using hpow)).2.1 p rfl)
  case paperOutChange o l =>
    exact if_pos (by by_contra hpow; exact (hin (by simpa using hpow)).2.2 o l rfl)
  all_goals rfl

/-- With power an event is taken whole, and what follows it at once is done. -/
theorem EventOf.does {c : Instr} {f : State → State} (h : EventOf c f) {s : State} (hpow : s.powered = true) :
    Does c s (f s) := by
  rw [Does, h.exec_eq s (by simp [hpow]), event_of_powered _ hpow]

theorem exec_powerOn (s : State) : exec .powerOn s = .next s.startUp := rfl
theorem exec_hardReset (s : State) : exec .hardReset s = .next (if s.powered then s.startUp else s) := rfl
theorem exec_powerRemoval (s : State) : exec .powerRemoval s = .next (if s.powered then s.losePower else s) := rfl

/-! ### Without power -/

/-- Without power the line condition is only the input. -/
theorem exec_lineConditionChange_of_unpowered {s : State} (h : s.powered = false) (c : LineCond) (t : Nat) :
    exec (.lineConditionChange c t) s = .next (s.onConn fun b => { b with lineCond := c }) :=
  if_neg (by simp [h])

/-- Without power the CALL input is only the input. -/
theorem exec_callInputChange_of_unpowered {s : State} (h : s.powered = false) (p : Bool) :
    exec (.callInputChange p) s = .next (s.onConn fun b => { b with callInput := p }) :=
  if_neg (by simp [h])

/-- Without power the paper sensors are only inputs. -/
theorem exec_paperOutChange_of_unpowered {s : State} (h : s.powered = false) (o l : Bool) :
    exec (.paperOutChange o l) s = .next (s.onPrint fun b => { b with paperOut := o, paperLow := l }) :=
  if_neg (by simp [h])

/-- Without power no event is taken. -/
theorem event_of_unpowered {s : State} (f : State → State) (h : s.powered = false) : event s f = .next s := by
  simp [event, h]

/-- Without power a command that carries no input and is no POWER_ON does nothing. -/
theorem exec_of_unpowered {s : State} (h : s.powered = false) {c : Instr} (hon : c ≠ .powerOn)
    (hline : ∀ d t, c ≠ .lineConditionChange d t) (hcall : ∀ p, c ≠ .callInputChange p)
    (hpaper : ∀ o l, c ≠ .paperOutChange o l) : exec c s = .next s := by
  obtain (rfl | rfl | rfl) | ⟨f, hf⟩ := ofPower_or_eventOf c
  · exact absurd rfl hon
  · simp [exec_hardReset, h]
  · simp [exec_powerRemoval, h]
  · rw [hf.exec_eq s fun _ => ⟨hline, hcall, hpaper⟩, event_of_unpowered _ h]

/-! ### Every command -/

/-- What a command can do: start the part up, take the power, move an input of a part without power, be an event of a part
with power and what follows it, or nothing. -/
theorem exec_cases (c : Instr) (s : State) :
    (exec c s = .next s.startUp ∧ (c = .powerOn ∨ c = .hardReset)) ∨ (exec c s = .next s.losePower ∧ c = .powerRemoval) ∨
    (s.powered = false ∧
      ((∃ d, exec c s = .next (s.onConn fun b => { b with lineCond := d })) ∨
       (∃ p, exec c s = .next (s.onConn fun b => { b with callInput := p })) ∨
       ∃ o l, exec c s = .next (s.onPrint fun b => { b with paperOut := o, paperLow := l }))) ∨
    (s.powered = true ∧ ∃ f, EventOf c f ∧ exec c s = .next (f s).settle) ∨ exec c s = .next s := by
  cases hpow : s.powered with
  | true =>
    obtain (rfl | rfl | rfl) | ⟨f, hf⟩ := ofPower_or_eventOf c
    · exact .inl ⟨exec_powerOn s, .inl rfl⟩
    · exact .inl ⟨by simp [exec_hardReset, hpow], .inr rfl⟩
    · exact .inr (.inl ⟨by simp [exec_powerRemoval, hpow], rfl⟩)
    · exact .inr (.inr (.inr (.inl ⟨rfl, f, hf, hf.does hpow⟩)))
  | false =>
    by_cases hon : c = .powerOn
    · subst hon
      exact .inl ⟨exec_powerOn s, .inl rfl⟩
    by_cases hline : ∃ d t, c = .lineConditionChange d t
    · obtain ⟨d, t, rfl⟩ := hline
      exact .inr (.inr (.inl ⟨rfl, .inl ⟨d, exec_lineConditionChange_of_unpowered hpow d t⟩⟩))
    by_cases hcall : ∃ p, c = .callInputChange p
    · obtain ⟨p, rfl⟩ := hcall
      exact .inr (.inr (.inl ⟨rfl, .inr (.inl ⟨p, exec_callInputChange_of_unpowered hpow p⟩)⟩))
    by_cases hpaper : ∃ o l, c = .paperOutChange o l
    · obtain ⟨o, l, rfl⟩ := hpaper
      exact .inr (.inr (.inl ⟨rfl, .inr (.inr ⟨o, l, exec_paperOutChange_of_unpowered hpow o l⟩)⟩))
    push Not at hline hcall hpaper
    exact .inr (.inr (.inr (.inr (exec_of_unpowered hpow hon hline hcall hpaper))))

/-- Settles O1: the front command is taken by the definition of the step. -/
theorem stepRunsTheFrontCommand : Obligations.StepRunsTheFrontCommand := by
  constructor
  · intro c s rest h
    simp only [step, h]
    rfl
  · intro s h
    simp only [step, h]

/-- Settles O4: the three commands that carry an input by their own equations, and the rest by `exec_of_unpowered`. -/
theorem withoutPowerOnlyInputsMove : Obligations.WithoutPowerOnlyInputsMove := fun _ h =>
  ⟨exec_lineConditionChange_of_unpowered h, exec_callInputChange_of_unpowered h, exec_paperOutChange_of_unpowered h,
    fun _ => exec_of_unpowered h⟩

/-- Settles O6: the loss of power by whether a commit is writing. -/
theorem powerRemovalCutsTheCommit : Obligations.PowerRemovalCutsTheCommit := by
  intro s hpow
  refine ⟨fun hcommit => ?_, fun c hcommit => ⟨.spoilt s.spoilt, s.spoilt + 1, ?_⟩⟩
  · simp [exec_powerRemoval, hpow, State.losePower, State.cutCommit, hcommit]
  · rw [exec_powerRemoval, if_pos hpow, State.losePower, State.cutCommit, if_pos (by simp [hcommit])]
    rfl

end Sys2Proof.Machine
end

section
/-! PROOF. What a command can do, move by move. `Inner s t` is one operation of the store, the printer, the punch or the line
transmitter; `Move c s t` is that or one operation of another block, which command `c` may make. Each is as large as it must be for
what every step keeps to hold on both its sides. `Moves c` is a run of moves. -/

namespace Sys2Proof.Machine

/-- The item of a character in flight that is a cell's, with its entry. -/
def TxBlock.cellInFlight (b : TxBlock) : Option TxItem :=
  match b.inFlight with
  | some (.character _ _ _ (.retrievalCell e)) => some (.retrievalCell e)
  | some (.character _ _ _ (.keyboardCell e)) => some (.keyboardCell e)
  | _ => none

/-- The entry that the retrieval item refers to. -/
def TxBlock.retrieved (b : TxBlock) : Option Nat := b.retrieval.bind (·.entry)

/-- The retrieval or the keyboard-text item refers to entry `e`, and `item` is that item's cell. -/
def TxBlock.Sends (b : TxBlock) (item : TxItem) (e : Nat) : Prop :=
  (item = .retrievalCell e ∧ b.retrieved = some e) ∨ (item = .keyboardCell e ∧ b.keyboardText = some e)

/-- A change of the transmitter that leaves what its items refer to, and brings no cell in flight. -/
def TxBlock.SameRefs (b b' : TxBlock) : Prop :=
  b'.keyboardText = b.keyboardText ∧ b'.retrieved = b.retrieved ∧
    (b'.cellInFlight = none ∨ b'.cellInFlight = b.cellInFlight)

/-- A directive's source can bring it: the line where it is connected, or the receiver has delivered a character, and the keyboard
where it is attended. -/
def State.Live (s : State) : DirSource → Prop
  | .line _ _ => s.isConnected = true ∨ s.rx.state = .hunting
  | .keyboard => s.conn.attended = true

/-- One operation of the store, the printer, the punch or the line transmitter. -/
inductive Inner (s : State) : State → Prop
  -- the store
  | lineText (x : Cell) : Inner s (s.lineText x)
  | heading (p n : Nat) (hp : p ≤ 3) : Inner s (s.heading p n)
  | endMessage : Inner s s.endMessage
  | offerKey {t : State} (x : Code) (hlag : s.sendLagLock = false) (h : s.offerKey x = some t) : Inner s t
  | notice (text : List Code) : Inner s (s.notice text)
  | printSwitch (on : Bool) : Inner s (s.onStore fun b => { b with linePrint := on })
  -- requests for an entry
  | requestDelete (e : Nat) (he : 1 ≤ e ∧ e ≤ 32) : Inner s (s.requestDelete e).1
  | requestCopy (e : Nat) (he : 1 ≤ e ∧ e ≤ 32) : Inner s (s.requestCopy e).1
  | requestRetrieval (e : Nat) (he : 1 ≤ e ∧ e ≤ 32) : Inner s (s.requestRetrieval e).1
  -- the printer
  | printStep {t : State} (h : s.printStep = some t) : Inner s t
  | operationFault : Inner s s.operationFault
  | clearPrintFault : Inner s s.clearPrintFault
  -- the punch
  | claimRequest (src : PunchSource) (hsrc : src ≠ .copy) : Inner s (s.claimRequest src).1
  | releaseRequest (src : PunchSource) (hsrc : src ≠ .copy) : Inner s (s.releaseRequest src).1
  | tapeKey : Inner s s.tapeKey
  | feedRequest {t : State} (h : s.feedRequest = some t) : Inner s t
  | newTapeRequest {t : State} (h : s.newTapeRequest = some t) : Inner s t
  | punchStep {t : State} (h : s.punchStep = some t) : Inner s t
  | rowDone : Inner s s.rowDone
  | rowFault : Inner s s.rowFault
  | clearPunchFault : Inner s s.clearPunchFault
  -- the line transmitter
  | tx (f : TxBlock → TxBlock) (h : s.tx.SameRefs (f s.tx)) : Inner s (s.onTx f)
  | sendCell (item : TxItem) (e : Nat) (hitem : s.tx.Sends item e) (hfree : s.tx.inFlight = none)
      (hleft : s.allSent e = false) : Inner s (s.sendCell item e)
  | endRetrieval (t : Retrieval) (h : s.tx.retrieval = some t) (hfree : s.tx.inFlight = none) : Inner s (s.endRetrieval t)
  | settleItems {t : State} (h : s.settleItems = some t) (hfree : s.tx.inFlight = none) : Inner s t
  | endKeyboardText (e : Nat) (h : s.tx.keyboardText = some e) (hsent : s.keyboardTextSent e = true) :
      Inner s (s.endKeyboardText e)
  | discardSends : Inner s s.discardSends

/-- One move that command `c` may make. -/
inductive Move (c : Instr) (s : State) : State → Prop
  | inner {t : State} (h : Inner s t) : Move c s t
  -- what no property of the records or of the connection reads
  | kb (f : KbBlock → KbBlock) : Move c s (s.onKb f)
  | dir (f : DirBlock → DirBlock) : Move c s (s.onDir f)
  | motor (f : MotorBlock → MotorBlock) : Move c s (s.onMotor f)
  -- the line receiver
  | startCharacter (h : s.rx.state = .hunting) : Move c s s.startCharacter
  | measured (d : LineCond) (t : Nat) (h : s.rx.state = .sampling) : Move c s (s.measured d t)
  | falseStart : Move c s s.falseStartEvent
  | sampleElement : Move c s s.sampleElement
  | received (q : Quality) (p : Nat) (be : Int) (hstate : s.rx.state = .sampling ∨ s.rx.state = .candidate)
      (hp : p = s.rx.peak ∨ p = peakDistortion s.rx.transitions)
      (hbe : be = s.rx.be ∨ be = updateBias s.rx.be s.rx.transitions) : Move c s (s.received q p be)
  | holdCandidate (h : s.rx.state = .sampling) :
      Move c s ((s.onRx fun b => { b with be := updateBias b.be b.transitions }).holdCandidate
        (peakDistortion s.rx.transitions))
  | setPlane (p : Plane) : Move c s (s.setPlane p)
  | hunt (h : s.rx.state = .spacing) : Move c s s.hunt
  | spacing (h : s.rx.state = .candidate) :
      Move c s (s.onRx fun b => { b with state := .spacing, plane := .letters, stats := b.stats.countBreak })
  | clearStats : Move c s (s.onRx fun b => { b with stats := .zero })
  | adoptRate {t : State} (h : s.adoptRate = some t) : Move c s t
  -- the connection
  | conditionChange (d : LineCond) : Move c s (s.conditionChange d)
  | noticeTraffic : Move c s s.noticeTraffic
  | adoptLineType {t : State} (h : s.adoptLineType = some t) : Move c s t
  | enterClearing (h : (s.conn.lineType = .switched ∧ (s.conn.state ≠ .idle ∨ s.conn.sustainedSpace.isSome = true)) ∨
      s.conn.answerTimer.isSome = true ∨ s.conn.callTimer.isSome = true ∨ s.conn.lineIdle.isSome = true) :
      Move c s s.enterClearing
  | enterLost (h : s.conn.lineType = .permanent ∧ s.conn.sustainedSpace.isSome = true) : Move c s s.enterLost
  | enterConnected (h : s.conn.stableMark.isSome = true) : Move c s s.enterConnected
  | answerRequest : Move c s s.answerRequest
  | seizeRequest : Move c s s.seizeRequest
  | callChange (present : Bool) : Move c s (s.callChange present)
  | endClearing (h : s.conn.clearingTimer.isSome = true) : Move c s s.endClearing
  | stationReset : Move c s s.stationResetEffect
  | select (h : s.isConnected = true ∨ s.rx.state = .hunting) : Move c s (s.onConn fun b => { b with selected := true })
  | deselect : Move c s s.deselect
  | attend (hc : (∃ k, c = .attend k) ∨ ∃ m, c = .scan m) : Move c s (s.setAttended true)
  | unattend (hc : (∃ k, c = .unattend k) ∨ ∃ m, c = .scan m) : Move c s s.unattendEffect
  -- access
  | wrongNumber (h : s.access.expired = false) : Move c s s.wrongNumber
  | rightNumber (src : DirSource) (w : Nat) (hlive : s.Live src) (h : s.access.expired = false) :
      Move c s (s.rightNumber src w)
  | setFrozen : Move c s s.setFrozen
  | closeSource (src : DirSource) : Move c s (s.setOpen src .closed)
  | openOperator (src : DirSource) (hlive : s.Live src) : Move c s (s.setOpen src .operator)
  -- the profile
  | setAccessNumber (w : Nat) (n : Option (List Code)) (h : accessNumberOk n = true) : Move c s (s.setAccessNumber w n)
  | setParameter (n v : Nat) (hn : 1 ≤ n ∧ n ≤ 34) {p : Profile} {set : Nat}
      (h : s.working.setParameter n v = some (p, set)) : Move c s (s.changeWorking p)
  | load (vs : List Nat) {p : Profile} (h : s.working.load vs = some p) : Move c s (s.onWorking fun _ => p)
  | beginCommit (line : Bool) : Move c s (s.onProfile fun b => { b with commit := some ⟨.written b.working, line⟩ })
  | writtenBack (w : Commit) (hc : c = .commitCompletion true) (h : s.profile.commit = some w) :
      Move c s (s.onProfile fun b => { b with commit := none, fault := false, image := w.written })
  | notWrittenBack (hc : c = .commitCompletion false) :
      Move c s (s.onProfile fun b => { b with commit := none, fault := true }).spoilImage
  -- the keyboard record, the store as a whole, and the mechanisms' ports
  | closeComposing : Move c s s.closeComposing
  | erase : Move c s s.erase
  | cellSent (x : Row) (after : ShiftState) (item : TxItem) (e : Nat)
      (h : s.tx.inFlight = some (.character x [] after item)) (hitem : item = .retrievalCell e ∨ item = .keyboardCell e) :
      Move c s (((s.onTx fun b => { b with inFlight := none, shift := after }).noticeTraffic).advanceSend e)
  | operationDone : Move c s s.operationDone
  | paperSensors (out low : Bool) : Move c s (s.paperSensors out low)

/-- A run of moves that command `c` may make. -/
abbrev Moves (c : Instr) : State → State → Prop := Relation.ReflTransGen (Move c)

theorem Inner.moves {c : Instr} {s t : State} (h : Inner s t) : Moves c s t := .single (.inner h)
theorem Move.moves {c : Instr} {s t : State} (h : Move c s t) : Moves c s t := .single h

/-- What every move keeps, a run of them keeps. -/
theorem Moves.keeps {P : State → Prop} {c : Instr} (hP : ∀ s t, Move c s t → P s → P t) {s t : State} (h : Moves c s t)
    (hs : P s) : P t := by
  induction h with
  | refl => exact hs
  | tail _ hmove ih => exact hP _ _ hmove ih

/-- An operation of the store, the printer, the punch or the transmitter leaves the other blocks alone. -/
theorem Inner.outer {s t : State} (h : Inner s t) : t.outer = s.outer := by
  cases h
  case offerKey x _ h =>
    unfold State.offerKey at h
    split at h
    · exact State.createKeyboard_outer h
    · exact State.append_outer h
  case notice text => exact State.notice_outer s text
  case heading p n _ => exact State.heading_outer s p n
  case lineText x => exact State.lineText_outer s x
  case endMessage => exact State.endMessage_outer s
  case printStep h => exact State.printStep_outer h
  case feedRequest h => exact State.feedRequest_outer h
  case newTapeRequest h => exact State.newTapeRequest_outer h
  case punchStep h => exact State.punchStep_outer h
  case settleItems h => exact State.settleItems_outer h
  case sendCell item e hitem _ _ =>
    have hdone (u : State) : (u.codeDone item).outer = u.outer := by
      rcases hitem with ⟨rfl, -⟩ | ⟨rfl, -⟩ <;> exact State.advanceSend_outer u e
    simp only [State.sendCell, State.sendCode]
    split <;> simp [hdone]
  all_goals simp

end Sys2Proof.Machine
end

section
/-! PROOF. Every event of a part with power, and what follows it at once, is a run of moves: the operations of the model one by one, from
the deferred actions and the arbiter up to the commands. -/

namespace Sys2Proof.Machine
namespace State

variable {c : Instr} (s : State)

/-! ### Deferred actions -/

theorem moves_setQueue (q : List ReplyEntry) : Moves c s (s.setQueue q) := (Move.dir _).moves

theorem moves_clearRequest : Moves c s s.clearRequest := by
  unfold clearRequest
  split
  case h_4 => exact .refl
  all_goals rename_i ht hs; exact (Move.enterClearing (.inl ⟨ht, .inl (by simp [hs])⟩)).moves

theorem moves_makeDeferred (clear reset : Bool) : Moves c s (s.makeDeferred clear reset) := by
  have hclear : Moves c s (if clear then s.clearRequest else s) := by
    split
    · exact moves_clearRequest s
    · exact .refl
  simp only [makeDeferred]
  split
  · exact hclear.tail .stationReset
  · exact hclear

theorem moves_emptyQueue : Moves c s s.emptyQueue := (moves_setQueue s []).trans (moves_makeDeferred _ _ _)

theorem moves_removeHead : Moves c s s.removeHead := by
  unfold removeHead
  split
  · exact .refl
  · exact (moves_setQueue s _).trans (moves_makeDeferred _ _ _)

/-! ### The line transmitter -/

/-- A change of the transmitter that keeps what its items refer to and what is in flight. -/
theorem moves_tx (f : TxBlock → TxBlock) (hk : (f s.tx).keyboardText = s.tx.keyboardText)
    (hr : (f s.tx).retrieved = s.tx.retrieved) (hf : (f s.tx).inFlight = s.tx.inFlight) : Moves c s (s.onTx f) :=
  (Inner.tx f ⟨hk, hr, .inr (by simp only [TxBlock.cellInFlight, hf])⟩).moves

theorem moves_replySent : Moves c s s.replySent := by
  have h : Moves c s (s.onTx fun b => { b with reply := none }) := moves_tx s _ rfl rfl rfl
  simp only [replySent]
  split
  · exact h
  · split
    · exact h.trans (moves_setQueue _ _)
    · exact h.trans (moves_removeHead _)

/-- A code of an item other than a cell is done. -/
theorem moves_codeDone (item : TxItem) (h : ∀ e, item ≠ .retrievalCell e ∧ item ≠ .keyboardCell e) :
    Moves c s (s.codeDone item) := by
  cases item with
  | orphan => exact .refl
  | retrievalText => exact .refl
  | answerback =>
    simp only [codeDone]
    split
    · exact moves_tx s _ rfl rfl rfl
    · exact .refl
  | reply =>
    simp only [codeDone]
    split
    · exact moves_replySent s
    · exact .refl
  | retrievalCell e => exact absurd rfl (h e).1
  | keyboardCell e => exact absurd rfl (h e).2

/-- A code of an item other than a cell is taken. -/
theorem moves_sendCode (item : TxItem) (x : Code) (h : ∀ e, item ≠ .retrievalCell e ∧ item ≠ .keyboardCell e) :
    Moves c s (s.sendCode item x) := by
  simp only [sendCode]
  split
  · refine (Inner.tx _ ⟨rfl, rfl, .inl ?_⟩).moves
    cases item <;> simp_all [TxBlock.cellInFlight]
  · have hskip : Moves c s s.countSendSkip := moves_tx s _ rfl rfl rfl
    exact hskip.trans (moves_codeDone _ item h)

theorem moves_sendAnswerback (cs : List Code) : Moves c s (s.sendAnswerback cs) := by
  cases cs with
  | nil => exact moves_tx s (fun b => { b with answerback := .none }) rfl rfl rfl
  | cons x rest =>
    have htx : Moves c s (s.onTx fun b => { b with answerback := .sending rest }) := moves_tx s _ rfl rfl rfl
    exact htx.trans (moves_sendCode _ .answerback x (by simp))

theorem moves_sendReply (cs : List Code) : Moves c s (s.sendReply cs) := by
  cases cs with
  | nil => exact moves_replySent s
  | cons x rest =>
    have htx : Moves c s (s.onTx fun b => { b with reply := some rest }) := moves_tx s _ rfl rfl rfl
    exact htx.trans (moves_sendCode _ .reply x (by simp))

/-- The retrieval item set to one that refers to the same record. -/
theorem moves_setRetrieval (t : Retrieval) (h : s.tx.retrieved = t.entry) : Moves c s (s.setRetrieval t) :=
  moves_tx s _ rfl h.symm rfl

theorem moves_sendRetrieval (t : Retrieval) (h : s.tx.retrieval = some t) (hfree : s.tx.inFlight = none) :
    Moves c s (s.sendRetrieval t) := by
  have hentry : s.tx.retrieved = t.entry := by simp [TxBlock.retrieved, h]
  simp only [sendRetrieval]
  split
  · rename_i x rest _
    have hset : Moves c s (s.setRetrieval { t with codes := rest }) := moves_setRetrieval s _ hentry
    exact hset.trans (moves_sendCode _ .retrievalText x (by simp))
  · split
    · rename_i e hcell
      split at hcell
      · obtain ⟨he, hleft⟩ := Option.filter_eq_some_iff.mp hcell
        exact (Inner.sendCell (.retrievalCell e) e (.inl ⟨rfl, hentry.trans he⟩) hfree (by simpa using hleft)).moves
      · cases hcell
    · split
      · exact (Inner.endRetrieval t h hfree).moves
      · exact moves_setRetrieval s _ hentry

theorem moves_sendText {t : State} (h : s.sendText = some t) (hfree : s.tx.inFlight = none) : Moves c s t := by
  unfold sendText at h
  split at h
  · rename_i r hr
    cases h
    exact moves_sendRetrieval s r hr hfree
  · split at h
    · rename_i e he
      split at h
      · cases h
      · rename_i hleft
        cases h
        exact (Inner.sendCell (.keyboardCell e) e (.inr ⟨rfl, he⟩) hfree (by simpa using hleft)).moves
    · cases h

theorem moves_arbitrate {t : State} (h : s.arbitrate = some t) (hfree : s.tx.inFlight = none) : Moves c s t := by
  unfold arbitrate at h
  split at h
  · cases h
    exact (Inner.tx _ ⟨rfl, rfl, .inl rfl⟩).moves
  · split at h
    · cases h
      exact moves_sendAnswerback s _
    · cases h
      exact moves_sendReply s _
    · cases h
      exact moves_tx s _ rfl rfl rfl
    · split at h
      · cases h
        exact moves_tx s _ rfl rfl rfl
      · exact moves_sendText s h hfree

theorem moves_sendStep {t : State} (h : s.sendStep = some t) : Moves c s t := by
  unfold sendStep at h
  split at h
  · cases h
  · split at h
    · rename_i e he
      cases h
      obtain ⟨he, hsent⟩ := Option.filter_eq_some_iff.mp he
      exact (Inner.endKeyboardText e he hsent).moves
    · split at h
      · cases h
      · rename_i hfree
        have hfree : s.tx.inFlight = none := by simpa using hfree
        split at h
        · rename_i hi
          cases h
          exact (Inner.settleItems hi hfree).moves
        · split at h
          · cases h
          · exact moves_arbitrate s h hfree

theorem moves_noticeTraffic : Moves c s s.noticeTraffic := Move.noticeTraffic.moves

theorem moves_characterComplete : Moves c s s.characterComplete := by
  unfold characterComplete
  split
  · rename_i x c' rest after item h
    refine (Inner.tx _ ⟨rfl, rfl, .inr ?_⟩).moves.trans (moves_noticeTraffic _)
    cases item <;> simp [TxBlock.cellInFlight, h]
  · rename_i x after item h
    have htx : Moves c s ((s.onTx fun b => { b with inFlight := none, shift := after }).noticeTraffic) :=
      (Inner.tx _ ⟨rfl, rfl, .inl rfl⟩).moves.trans (moves_noticeTraffic _)
    cases item
    case retrievalCell e => exact (Move.cellSent x after _ e h (.inl rfl)).moves
    case keyboardCell e => exact (Move.cellSent x after _ e h (.inr rfl)).moves
    all_goals exact htx.trans (moves_codeDone _ _ (by simp))
  · exact .refl

theorem moves_breakComplete : Moves c s s.breakComplete := by
  unfold breakComplete
  split
  · exact (Inner.tx _ ⟨rfl, rfl, .inl rfl⟩).moves.trans (moves_noticeTraffic _)
  · exact .refl

theorem moves_deferredEvent (a : Deferred) : Moves c s (s.deferredEvent a) := by
  unfold deferredEvent
  split
  · exact .refl
  · split
    · refine (Inner.tx _ ⟨rfl, rfl, ?_⟩).moves.trans (moves_removeHead _)
      cases hf : s.tx.inFlight with
      | none => exact .inl (by simp [TxBlock.cellInFlight])
      | some f =>
        cases f with
        | brk ui => exact .inl (by simp [TxBlock.cellInFlight, releaseReply])
        | character x rest after item =>
          cases item <;> simp [TxBlock.cellInFlight, hf, releaseReply]
    · exact .refl

/-! ### What follows an event -/

theorem moves_settleStep {t : State} (h : s.settleStep = some t) : Moves c s t := by
  rcases settleStep_cases h with h | h | h | h | h | h
  · exact (Move.adoptLineType h).moves
  · exact (Move.adoptRate h).moves
  · exact moves_sendStep s h
  · exact (Inner.printStep h).moves
  · exact (Inner.punchStep h).moves
  · unfold motorStep at h
    repeat' split at h
    all_goals cases h
    all_goals exact (Move.motor _).moves

theorem moves_settle : Moves c s s.settle :=
  settle_keeps (P := Moves c s) s (fun u _ ht hu => hu.trans (moves_settleStep u ht)) .refl

/-! ### Answers, and directives letter by letter -/

theorem moves_answerWith (d : DirCall) (r : Reply) (a : Deferred) : Moves c s (s.answerWith d r a) := by
  unfold answerWith
  split
  · exact (Inner.notice _).moves
  · split
    · exact moves_setQueue s _
    · exact .refl

theorem moves_answer (d : DirCall) (r : Reply) : Moves c s (s.answer d r) := moves_answerWith s d r .none

theorem moves_answered (x : State × Reason) (d : DirCall) (h : Moves c s x.1) : Moves c s (answered x d) :=
  h.trans (moves_answer _ d _)

theorem moves_tryNumber (src : DirSource) (w : Nat) (n : List Code) (hlive : s.Live src) :
    Moves c s (s.tryNumber src w n).1 := by
  unfold tryNumber
  split
  · exact .refl
  · rename_i hexp
    have hexp : s.access.expired = false := by simpa using hexp
    split
    · exact .refl
    · split
      · exact .refl
      · split
        · exact (Move.rightNumber src w hlive hexp).moves
        · exact (Move.wrongNumber hexp).moves

theorem moves_directiveO (src : DirSource) (fs : List (List Code)) (hlive : s.Live src) :
    Moves c s (s.directiveO src fs).1 := by
  unfold directiveO
  split
  · split
    · exact moves_tryNumber s src _ _ hlive
    · exact .refl
  · exact .refl

theorem moves_changeNumber (src : DirSource) (w : Nat) (n : Option (List Code)) (hlive : s.Live src)
    (hn : accessNumberOk n = true) : Moves c s (s.changeNumber src w n).1 := by
  have hset : Moves c s (s.setAccessNumber w n) := (Move.setAccessNumber w n hn).moves
  unfold changeNumber
  split
  · exact .refl
  · split
    · refine hset.tail (.openOperator src ?_)
      cases src <;> exact hlive
    · split
      · exact hset
      · exact .refl

theorem moves_directiveK (src : DirSource) (fs : List (List Code)) (hlive : s.Live src)
    (hfs : ∀ f ∈ fs, fieldOk f = true) : Moves c s (s.directiveK src fs).1 := by
  unfold directiveK
  split
  · split
    · exact moves_changeNumber s src _ _ hlive rfl
    · exact .refl
  · split
    · exact moves_changeNumber s src _ _ hlive (hfs _ (by simp))
    · exact .refl
  · exact .refl

theorem moves_doSelect (d : DirCall) (hlive : s.Live d.src) : Moves c s (s.doSelect d) := by
  unfold doSelect
  split
  · rename_i h
    cases hsrc : d.src with
    | keyboard => simp [addressed, hsrc] at h
    | line c1 c2 => exact (Move.select (by simpa [Live, hsrc] using hlive)).moves
  · exact Move.deselect.moves

theorem moves_doHeading {vs : List Nat} (h : DirKind.heading.fieldsOk vs = true) : Moves c s (s.doHeading vs) := by
  unfold doHeading
  split
  · simp only [DirKind.fieldsOk, decide_eq_true_eq] at h
    exact (Inner.heading _ _ h.1).moves
  · exact .refl

theorem moves_doPunch (d : DirCall) (vs : List Nat) : Moves c s (s.doPunch d vs) := by
  unfold doPunch
  refine moves_answered s _ d ?_
  split
  · exact (Inner.claimRequest .line (by decide)).moves
  · exact (Inner.releaseRequest .line (by decide)).moves

theorem moves_doList (d : DirCall) : Moves c s (s.doList d) := by
  simp only [doList]
  split
  · split
    · exact (Inner.notice _).moves
    · exact moves_answer s d _
  · split
    · exact moves_answer s d _
    · exact moves_setQueue s _

theorem moves_doErase (d : DirCall) : Moves c s (s.doErase d) := by
  have h : Moves c s (s.erase.eraseAccess d.src) := by
    unfold eraseAccess
    split
    · exact Move.erase.moves.tail (.setAccessNumber 1 none rfl)
    · exact Move.erase.moves
  exact h.trans (moves_answer _ d _)

theorem moves_doSetPar (d : DirCall) {vs : List Nat} (h : DirKind.setPar.fieldsOk vs = true) : Moves c s (s.doSetPar d vs) := by
  unfold doSetPar
  split
  · simp only [DirKind.fieldsOk, decide_eq_true_eq] at h
    split
    · exact moves_answer s d _
    · rename_i hp
      exact (Move.setParameter _ _ h hp).moves.trans (moves_answer _ d _)
  · exact .refl

theorem moves_doLoad (d : DirCall) (vs : List Nat) : Moves c s (s.doLoad d vs) := by
  unfold doLoad
  split
  · exact moves_answer s d _
  · rename_i hp
    exact (Move.load vs hp).moves.trans (moves_answer _ d _)

theorem moves_doCommit (d : DirCall) : Moves c s (s.doCommit d) := by
  simp only [doCommit]
  split
  · exact moves_answer s d _
  · split
    · exact (Move.beginCommit _).moves.trans (moves_setQueue _ _)
    · exact (Move.beginCommit _).moves

theorem moves_doReset (d : DirCall) : Moves c s (s.doReset d) := by
  unfold doReset
  split
  · exact moves_answerWith s d _ _
  · exact (moves_answer s d _).tail .stationReset

theorem moves_doHangUp (d : DirCall) : Moves c s (s.doHangUp d) := by
  unfold doHangUp
  split
  · exact moves_answerWith s d _ _
  · exact (moves_clearRequest s).trans (moves_answer _ d _)

/-- The entry a directive of one entry number names. -/
theorem entryField_of_fieldsOk {k : DirKind} (hk : k = .retrieve ∨ k = .delete ∨ k = .copy) {vs : List Nat}
    (h : k.fieldsOk vs = true) : 1 ≤ vs.headD 0 ∧ vs.headD 0 ≤ 32 := by
  rcases hk with rfl | rfl | rfl
  all_goals match vs with
    | [] => simp [DirKind.fieldsOk] at h
    | [e] => simpa [DirKind.fieldsOk] using h
    | _ :: _ :: _ => simp [DirKind.fieldsOk] at h

theorem moves_effect (k : DirKind) (d : DirCall) (fs : List (List Code)) (hlive : s.Live d.src)
    (hfs : ∀ f ∈ fs, fieldOk f = true) (hok : k.fieldsOk (fs.map fieldValue) = true) : Moves c s (s.effect k d fs) := by
  cases k <;> simp only [effect]
  case select => exact moves_doSelect s d hlive
  case deselect =>
    unfold doDeselect
    split
    · exact Move.deselect.moves
    · exact .refl
  case heading => exact moves_doHeading s hok
  case endMsg => exact Inner.endMessage.moves
  case punch => exact moves_doPunch s d _
  case printSwitch => exact (Inner.printSwitch _).moves.trans (moves_answer _ d _)
  case identify => exact moves_answer s d _
  case status => exact moves_answer s d _
  case openSrc => exact moves_answered s _ d (moves_directiveO s _ _ hlive)
  case closeSrc => exact (Move.closeSource d.src).moves.trans (moves_answer _ d _)
  case freeze => exact Move.setFrozen.moves.trans (moves_answer _ d _)
  case number => exact moves_answered s _ d (moves_directiveK s _ _ hlive hfs)
  case list => exact moves_doList s d
  case retrieve =>
    exact moves_answered s _ d (Inner.requestRetrieval _ (entryField_of_fieldsOk (.inl rfl) hok)).moves
  case delete =>
    exact moves_answered s _ d (Inner.requestDelete _ (entryField_of_fieldsOk (.inr (.inl rfl)) hok)).moves
  case erase => exact moves_doErase s d
  case setPar => exact moves_doSetPar s d hok
  case load => exact moves_doLoad s d _
  case commit => exact moves_doCommit s d
  case reset => exact moves_doReset s d
  case hangUp => exact moves_doHangUp s d
  case clearStats => exact Move.clearStats.moves.trans (moves_answer _ d _)
  case copy => exact moves_answered s _ d (Inner.requestCopy _ (entryField_of_fieldsOk (.inr (.inr rfl)) hok)).moves

/-! ### The execution of a directive, and the assemblers -/

theorem moves_badFields (k : DirKind) (d : DirCall) : Moves c s (s.badFields k d) := by
  unfold badFields
  split
  · exact (Move.dir _).moves
  · exact moves_answer s d _

theorem moves_carryOut (k : DirKind) (d : DirCall) (hlive : s.Live d.src) : Moves c s (s.carryOut k d) := by
  unfold carryOut
  split
  · exact moves_answer s d _
  · split
    · exact moves_badFields s k d
    · rename_i fs hfs
      split
      · rename_i hok
        refine moves_effect s k d fs hlive ?_ hok
        unfold readFields at hfs
        split at hfs
        · rename_i hall
          cases hfs
          exact List.all_eq_true.mp hall
        · cases hfs
      · exact moves_badFields s k d

theorem moves_checkLetter (d : DirCall) (hlive : s.Live d.src) : Moves c s (s.checkLetter d) := by
  unfold checkLetter
  split
  · exact moves_answer s d _
  · generalize (if fromLine d.src = true then DirKind.onLine _ else DirKind.onKeyboard _) = b
    split
    · exact moves_carryOut s _ d hlive
    · exact moves_answer s d _

theorem moves_execute (d : DirCall) (hlive : s.Live d.src) : Moves c s (s.execute d) := by
  simp only [execute]
  split
  · split
    · exact moves_doSelect s d hlive
    · exact .refl
  · split
    · exact .refl
    · split
      · exact .refl
      · split
        · exact (Move.dir _).moves
        · exact moves_checkLetter s d hlive

theorem moves_directive (k : DirKind) (src : DirSource) (body : List Code) : Moves c s (s.directive k src body) := by
  simp only [directive]
  split
  · rename_i h
    simp only [Bool.and_eq_true] at h
    obtain ⟨⟨hlive, -⟩, -⟩ := h
    refine moves_execute s _ ?_
    cases src with
    | line c1 c2 => exact .inl hlive
    | keyboard => exact hlive
  · exact .refl

theorem moves_lineHold (a : Assembler) (x : Code) : Moves c s (s.lineHold a x) := by
  unfold lineHold
  split
  · exact (Move.dir _).moves
  · exact (Move.dir _).moves
  · exact (Move.dir _).moves
  · split
    · exact (Move.dir _).moves.tail (.dir _)
    · exact (Move.dir _).moves

theorem moves_lineEnd (a : Assembler) (hrx : s.rx.state = .hunting) : Moves c s (s.lineEnd a) := by
  have hset : Moves c s (s.setLineAsm .start) := (Move.dir _).moves
  simp only [lineEnd]
  split
  · exact hset.trans (moves_execute _ _ (.inr hrx))
  · split
    · exact hset
    · exact hset.tail (.dir _)
  · split
    · exact hset
    · exact hset.tail (.dir _)
  · exact hset

theorem moves_handLine (x : Code) (q : Quality) (hrx : s.rx.state = .hunting) : Moves c s (s.handLine x q) := by
  simp only [handLine]
  split
  · exact (Move.dir _).moves
  · split
    · exact .refl
    · split
      · exact (Move.dir _).moves
      · exact .refl
    all_goals
      split
      · exact (Move.dir _).moves.tail (.dir _)
      · split
        · exact .refl
        · split
          · exact moves_lineEnd s _ hrx
          · exact moves_lineHold s _ x

theorem moves_localEnd (a : Assembler) (hatt : s.conn.attended = true) : Moves c s (s.localEnd a) := by
  have hset : Moves c s (s.setLocalAsm .start) := (Move.dir _).moves
  simp only [localEnd]
  split
  · exact hset.trans (moves_execute _ _ hatt)
  · exact hset.tail (.dir _)
  · exact hset

theorem moves_handLocal (x : Code) (hatt : s.conn.attended = true) : Moves c s (s.handLocal x) := by
  simp only [handLocal]
  split
  · exact (Move.dir _).moves
  · split
    · exact .refl
    · exact .refl
    · split
      · exact (Move.dir _).moves
      · exact .refl
    all_goals
      split
      · exact .refl
      · split
        · exact moves_localEnd s _ hatt
        · unfold localHold
          split
          · exact (Move.dir _).moves.tail (.dir _)
          · exact (Move.dir _).moves

/-- A commit ends as the command of its completion says. -/
theorem moves_commitDone (same : Bool) : Moves (.commitCompletion same) s (s.commitDone same) := by
  unfold commitDone
  split
  · exact .refl
  · rename_i w hw
    have himage : Moves (.commitCompletion same) s
        (if same then (s.onProfile fun b => { b with commit := none, fault := !same }).onProfile fun b =>
          { b with image := w.written }
        else (s.onProfile fun b => { b with commit := none, fault := !same }).spoilImage) := by
      cases same with
      | true => exact (Move.writtenBack w rfl hw).moves
      | false => exact (Move.notWrittenBack rfl).moves
    dsimp only
    split
    · exact himage.trans (moves_setQueue _ _)
    · exact himage.trans (Inner.notice _).moves

/-! ### The keyboard -/

theorem moves_bell : Moves c s s.bell := (Move.kb _).moves

theorem moves_countNoRoom : Moves c s (s.onKb fun b => { b with noRoomCount := sat16 b.noRoomCount }) := (Move.kb _).moves

theorem moves_restartClose : Moves c s s.restartClose := by
  unfold restartClose
  split
  · exact (Move.kb _).moves
  · exact .refl

/-- With no lock reason the keyboard is attended and no send lag stands. -/
theorem of_not_locked {s : State} (h : ¬ s.locked = true) : s.conn.attended = true ∧ s.sendLagLock = false := by
  simp only [locked, unattendedLock, Bool.or_eq_true, not_or, Bool.not_eq_true, Bool.not_eq_false'] at h
  exact h.1

theorem attended_restartClose : s.restartClose.conn.attended = s.conn.attended := by
  unfold restartClose
  split <;> rfl

theorem moves_enterKey (x : Code) (hatt : s.conn.attended = true) : Moves c s (s.enterKey x) := by
  unfold enterKey
  split
  · exact (Move.kb _).moves.trans (moves_handLocal _ x hatt)
  · exact moves_handLocal s x hatt

theorem moves_charKey (x : Code) : Moves c s (s.charKey x).1 := by
  unfold charKey
  split
  · exact moves_bell s
  · rename_i hlock
    obtain ⟨hatt, hlag⟩ := of_not_locked hlock
    split
    · exact (moves_restartClose s).trans (moves_enterKey _ x (by rwa [attended_restartClose]))
    · split
      · exact .refl
      · split
        · exact (moves_bell s).trans (moves_countNoRoom _)
        · rename_i hoffer
          exact (Inner.offerKey _ hlag hoffer).moves.trans (moves_restartClose _)

theorem moves_answerbackRequest : Moves c s s.answerbackRequest := by
  unfold answerbackRequest
  split
  · split
    · exact moves_tx s _ rfl rfl rfl
    · exact .refl
  all_goals exact moves_tx s _ rfl rfl rfl

theorem moves_hereIsRequest : Moves c s s.hereIsRequest := by
  have h : Moves c s (if s.isConnected then s.answerbackRequest else s) := by
    split
    · exact moves_answerbackRequest s
    · exact .refl
  unfold hereIsRequest
  dsimp only
  generalize (if s.isConnected then s.answerbackRequest else s) = u at h
  split
  · exact h
  · exact h.trans (Inner.notice _).moves

theorem moves_breakRequest : Moves c s s.breakRequest := by
  simp only [breakRequest]
  split <;> split
  all_goals first | exact .refl | exact moves_tx s _ rfl rfl rfl

/-- The functions whose key-downs set or clear the attended flag come of their own commands or of a scan. -/
def MayAttend (c : Instr) (f : KeyFn) : Prop :=
  (f = .attend → (∃ k, c = .attend k) ∨ ∃ m, c = .scan m) ∧ (f = .unattend → (∃ k, c = .unattend k) ∨ ∃ m, c = .scan m)

theorem moves_functionEffect {f : KeyFn} {t : State} (h : s.functionEffect f = some t) (hf : MayAttend c f)
    (hatt : f = .lead → s.conn.attended = true) : Moves c s t := by
  cases f <;> simp only [functionEffect, Option.some.injEq] at h
  case feed => exact (Inner.feedRequest h).moves
  case newTape => exact (Inner.newTapeRequest h).moves
  all_goals subst h
  case lead => exact (Move.kb _).moves.trans (moves_handLocal _ _ (hatt rfl))
  case hereIs => exact moves_hereIsRequest s
  case brk => exact moves_breakRequest s
  case lineLocal => exact (Move.kb _).moves.tail .closeComposing
  case tape => exact Inner.tapeKey.moves
  case endFn => exact Move.closeComposing.moves
  case attend => exact (Move.attend (hf.1 rfl)).moves
  case unattend => exact (Move.unattend (hf.2 rfl)).moves
  case answer => exact Move.answerRequest.moves
  case seize => exact Move.seizeRequest.moves
  case clearLine => exact moves_clearRequest s
  case clearFault => exact Inner.clearPrintFault.moves.tail (.inner .clearPunchFault)
  case repeatFn => exact .refl
  case shiftFn => exact .refl

theorem moves_functionKey (f : KeyFn) (hf : MayAttend c f) : Moves c s (s.functionKey f) := by
  unfold functionKey
  split
  · exact moves_bell s
  · rename_i hlock
    split
    · exact moves_bell s
    · rename_i t ht
      refine (moves_functionEffect s ht hf fun hlead => ?_).trans (moves_restartClose t)
      subst hlead
      exact (of_not_locked (by simpa [KeyFn.exempt] using hlock)).1

theorem moves_setKey (k : KeyPos) (x : KeyCell) : Moves c s (s.setKey k x) :=
  (Move.kb fun b => { b with keys := b.keys.set k.toNat x }).moves
theorem moves_setRole (k : KeyPos) (r : KeyRole) : Moves c s (s.setRole k r) := moves_setKey s k _
theorem moves_setDebounce (k : KeyPos) (d : Debounce) : Moves c s (s.setDebounce k d) := moves_setKey s k _
theorem moves_setLive (k : KeyPos) (live : Bool) : Moves c s (s.setLive k live) := (Move.kb _).moves

theorem moves_endRepeat : Moves c s s.endRepeat := (Move.kb _).moves

theorem moves_stopRepeating (k : KeyPos) : Moves c s (s.stopRepeating k) := (moves_setLive s k false).trans (moves_endRepeat _)

theorem moves_repetitionEvent : Moves c s s.repetitionEvent := by
  unfold repetitionEvent
  split
  · exact .refl
  · split
    · rename_i x _
      have hkey : Moves c s (s.charKey x).1 := moves_charKey s x
      split
      all_goals
        rename_i h
        rw [h] at hkey
      · exact hkey.trans (moves_stopRepeating _ _)
      · exact hkey.tail (.kb _)
      · exact hkey.tail (.kb _)
    · exact moves_stopRepeating s _
    · exact moves_stopRepeating s _

theorem moves_acceptedChar (k : KeyPos) : Moves c s (s.acceptedChar k) := by
  simp only [acceptedChar]
  split
  · exact (moves_setLive s k true).tail (.kb _)
  · exact moves_setLive s k true

theorem moves_charDown (k : KeyPos) (x : Code) : Moves c s (s.charDown k x) := by
  have hkey : Moves c s (s.charKey x).1 := moves_charKey s x
  unfold charDown
  split
  all_goals
    rename_i h
    rw [h] at hkey
  · exact hkey
  · exact hkey.trans (moves_acceptedChar _ k)
  · exact hkey.trans (moves_acceptedChar _ k)

theorem moves_memberDown (k : KeyPos) (dispatch : State → State) (h : ∀ u, Moves c u (dispatch u)) :
    Moves c s (s.memberDown k dispatch) := by
  unfold memberDown
  split
  · exact ((moves_setRole s k _).tail (.kb _)).trans (h _)
  · exact (moves_setRole s k _).tail (.kb _)

theorem moves_shiftDown (k : KeyPos) : Moves c s (s.shiftDown k) := by
  unfold shiftDown
  split
  · exact (moves_setRole s k _).trans (moves_bell _)
  · exact (moves_setRole s k _).trans (moves_restartClose _)

theorem moves_repeatDown (k : KeyPos) : Moves c s (s.repeatDown k) := by
  unfold repeatDown
  split
  · exact (moves_setRole s k _).trans (moves_bell _)
  · refine ((moves_setRole s k (.repeatModifier true)).trans (moves_restartClose _)).trans ?_
    unfold startRepeat
    split
    · exact (Move.kb _).moves
    · exact .refl

/-- A recognised key-down, of a key whose function, if it has one, the command may be. -/
theorem moves_keyDown (k : KeyPos) (h : ∀ f, s.entryNow k = .function f → MayAttend c f) : Moves c s (s.keyDown k) := by
  unfold keyDown
  split
  · exact moves_memberDown s k _ fun _ => .refl
  · exact moves_memberDown s k _ fun u => moves_charDown u k _
  · exact moves_shiftDown s k
  · exact moves_repeatDown s k
  · rename_i f _ _ hf
    exact moves_memberDown s k _ fun u => moves_functionKey u f (h f hf)

theorem moves_keyUp (k : KeyPos) : Moves c s (s.keyUp k) := by
  have h : Moves c s ((s.setRole k .none).onKb fun b => { b with pair := b.pair.filter (·.key ≠ k) }) :=
    (moves_setRole s k _).tail (.kb _)
  simp only [keyUp]
  split
  · exact h.tail (.kb _)
  · exact h

/-- A debounce state set leaves the roles, and so the level and the entries at it. -/
theorem setDebounce_entryNow (k x : KeyPos) (d : Debounce) : (s.setDebounce k d).entryNow x = s.entryNow x := by
  have hroles : (s.setDebounce k d).kb.keys.map (·.role) = s.kb.keys.map (·.role) := by
    simp only [setDebounce, setKey, onKb_kb, keyCell, List.map_set]
    refine List.ext_getElem? fun i => ?_
    by_cases hi : i = k.toNat
    · subst hi
      by_cases hk : k.toNat < s.kb.keys.length <;> simp [hk]
    · rw [List.getElem?_set_ne (Ne.symm hi)]
  have hlevel : (s.setDebounce k d).shiftLevel = s.shiftLevel := by
    have h (l : List KeyCell) : l.any (·.role == .shiftModifier true) = (l.map (·.role)).any (· == .shiftModifier true) := by
      simp [List.any_map, Function.comp_def]
    simp only [shiftLevel, h, hroles]
  simp only [entryNow, hlevel]
  rfl

theorem moves_characterDown (k : KeyPos) : Moves c s (s.characterDown k) := by
  unfold characterDown
  split
  · rename_i x hx
    split
    · refine (moves_setDebounce s k .down).trans (moves_keyDown _ k fun f hf => ?_)
      rw [setDebounce_entryNow, hx] at hf
      cases hf
    · exact .refl
  · exact .refl
  · exact .refl

theorem moves_functionDown (k : KeyPos) (f : KeyFn) : Moves (f.command k) s (s.functionDown k f) := by
  unfold functionDown
  split
  · rename_i h
    refine (moves_setDebounce s k .down).trans (moves_keyDown _ k fun g hg => ?_)
    rw [setDebounce_entryNow, h.2] at hg
    cases hg
    exact ⟨fun hf => .inl ⟨k, by rw [hf]; rfl⟩, fun hf => .inl ⟨k, by rw [hf]; rfl⟩⟩
  · exact .refl

theorem moves_scanKey (closed m : BitVec 64) (k : Nat) : Moves (.scan m) s (s.scanKey closed k) := by
  have hdown (u : State) (k : KeyPos) : Moves (.scan m) u (u.keyDown k) :=
    moves_keyDown u k fun _ _ => ⟨fun _ => .inr ⟨m, rfl⟩, fun _ => .inr ⟨m, rfl⟩⟩
  have hset (d : Debounce) : Moves (.scan m) s (s.setDebounce (BitVec.ofNat 6 k) d) := moves_setDebounce s _ d
  unfold scanKey
  dsimp only
  split
  · exact ((hset _).trans (hdown _ _)).trans (moves_settle _)
  · split
    · exact ((hset _).trans (moves_keyUp _ _)).trans (moves_settle _)
    · exact hset _

theorem moves_scanEvent (closed : BitVec 64) : Moves (.scan closed) s (s.scanEvent closed) := by
  unfold scanEvent
  generalize List.range 64 = ks
  induction ks generalizing s with
  | nil => exact .refl
  | cons k ks ih => exact (moves_scanKey s closed closed k).trans (ih _)

/-! ### The line receiver -/

@[simp] theorem noticeTraffic_rx : s.noticeTraffic.rx = s.rx := by
  unfold noticeTraffic
  split <;> rfl

theorem moves_deliver (x : Code) (q : Quality) (hrx : s.rx.state = .hunting) : Moves c s (s.deliver x q) := by
  unfold deliver
  split
  · exact moves_answerbackRequest s
  · split
    · exact moves_handLine s x q hrx
    · split
      · unfold offerText
        split
        · exact (Inner.lineText _).moves
        · split
          · exact .refl
          · exact (Inner.lineText _).moves
      · exact .refl

theorem moves_decode (x : Row) (q : Quality) (hrx : s.rx.state = .hunting) : Moves c s (s.decode x q) := by
  unfold decode
  split
  · exact (Move.setPlane _).moves
  · exact (Move.setPlane _).moves
  · exact .refl
  · split
    · exact (moves_deliver s _ q hrx).tail (.setPlane _)
    · exact moves_deliver s _ q hrx

/-- A counted character with its notice, by the state it is counted in. -/
theorem moves_received (q : Quality) (p : Nat) (be : Int) (hstate : s.rx.state = .sampling ∨ s.rx.state = .candidate)
    (hp : p = s.rx.peak ∨ p = peakDistortion s.rx.transitions)
    (hbe : be = s.rx.be ∨ be = updateBias s.rx.be s.rx.transitions) : Moves c s (s.received q p be).noticeTraffic :=
  (Move.received q p be hstate hp hbe).moves.trans (moves_noticeTraffic _)

theorem moves_lineChange (d : LineCond) (t : Nat) : Moves c s (s.lineChange d t) := by
  unfold lineChange
  split
  · have hcond : Moves c s (s.conditionChange d) := (Move.conditionChange d).moves
    refine hcond.trans ?_
    generalize s.conditionChange d = u
    unfold receiverChange
    split
    · exact .refl
    · exact (Move.startCharacter ‹_›).moves
    · exact .refl
    · exact (Move.measured _ t ‹_›).moves
    · exact (moves_received u .mutilated _ u.rx.be (.inr ‹_›) (.inl rfl) (.inl rfl)).trans (moves_deliver _ _ _ (by simp; rfl))
    · exact .refl
    · exact (Move.hunt ‹_›).moves
    · exact .refl
  · exact .refl

theorem moves_stopEvent : Moves c s s.stopEvent := by
  unfold stopEvent
  split
  · rename_i h
    have hreceived (q : Quality) := moves_received (c := c) s q (peakDistortion s.rx.transitions)
      (updateBias s.rx.be s.rx.transitions) (.inl h.1) (.inr rfl) (.inr rfl)
    unfold classify
    split
    · exact (hreceived _).trans (moves_decode _ _ _ (by simp; rfl))
    · split
      · exact (Move.holdCandidate h.1).moves
      · exact (hreceived .mutilated).trans (moves_deliver _ _ _ (by simp; rfl))
  · exact .refl

theorem moves_declareBreak : Moves c s s.declareBreak := by
  unfold declareBreak
  split
  · rename_i h
    refine (Move.spacing h.1).moves.trans ?_
    exact (((Inner.discardSends.moves.tail (.kb _)).tail .closeComposing).trans (moves_emptyQueue _))
  · exact .refl

/-! ### The timers of the connection -/

theorem moves_atExpiry (timer : Option Nat) (f : State → State) (h : timer.isSome = true → Moves c s (f s)) :
    Moves c s (s.atExpiry timer f) := by
  unfold atExpiry
  split
  · rename_i ht
    exact h ht
  · exact .refl

end State

/-- An event is a run of moves. -/
theorem EventOf.moves {c : Instr} {f : State → State} (h : EventOf c f) (s : State) : Moves c s (f s) := by
  cases h
  case lineConditionChange d t => exact State.moves_lineChange s d t
  case falseStart => exact Move.falseStart.moves
  case dataElementSample => exact Move.sampleElement.moves
  case stopSample => exact State.moves_stopEvent s
  case breakDeclared => exact State.moves_declareBreak s
  case rateAdoption =>
    cases h : s.adoptRate with
    | none => simpa [h] using Relation.ReflTransGen.refl
    | some t => simpa [h] using (Move.adoptRate h).moves
  case characterSent => exact State.moves_characterComplete s
  case breakSent => exact State.moves_breakComplete s
  case deferredReset => exact State.moves_deferredEvent s _
  case deferredClear => exact State.moves_deferredEvent s _
  case scan closed => exact State.moves_scanEvent s closed
  case characterKeyDown k => exact State.moves_characterDown s k
  case functionKeyDown k f => exact State.moves_functionDown s k f
  case repetition => exact State.moves_repetitionEvent s
  case breakLockTimerExpiry => exact (Move.kb _).moves
  case closeTimerExpiry =>
    unfold State.closeExpiry
    split
    · exact Move.closeComposing.moves
    · exact .refl
  case directive k src body => exact State.moves_directive s k src body
  case printerDone => exact Move.operationDone.moves
  case printerFaultTimerExpiry => exact Inner.operationFault.moves
  case paperOutChange o l => exact (Move.paperSensors o l).moves
  case punchDone => exact Inner.rowDone.moves
  case punchFaultTimerExpiry => exact Inner.rowFault.moves
  case runUpTimerExpiry =>
    unfold State.runUpExpiry
    split
    · exact (Move.motor _).moves
    · exact .refl
  case idleTimerExpiry =>
    unfold State.idleExpiry
    split
    · exact (Move.motor _).moves
    · exact .refl
  case commitCompletion same => exact State.moves_commitDone s same
  case callInputChange p => exact (Move.callChange p).moves
  case stableMarkTimerExpiry => exact State.moves_atExpiry s _ _ fun h => (Move.enterConnected h).moves
  case answerTimerExpiry => exact State.moves_atExpiry s _ _ fun h => (Move.enterClearing (.inr (.inl h))).moves
  case callTimerExpiry => exact State.moves_atExpiry s _ _ fun h => (Move.enterClearing (.inr (.inr (.inl h)))).moves
  case sustainedSpaceTimerExpiry =>
    refine State.moves_atExpiry s _ _ fun h => ?_
    unfold State.loseLine
    split
    · rename_i ht
      exact (Move.enterClearing (.inl ⟨ht, .inr h⟩)).moves
    · rename_i ht
      exact (Move.enterLost ⟨ht, h⟩).moves
  case lineIdleTimerExpiry => exact State.moves_atExpiry s _ _ fun h => (Move.enterClearing (.inr (.inr (.inr h)))).moves
  case clearingTimerExpiry => exact State.moves_atExpiry s _ _ fun h => (Move.endClearing h).moves
  case lineTypeAdoption =>
    cases h : s.adoptLineType with
    | none => simpa [h] using Relation.ReflTransGen.refl
    | some t => simpa [h] using (Move.adoptLineType h).moves

end Sys2Proof.Machine
end

section
/-! PROOF. What every step keeps, reduced to what every move keeps; and what the moves leave of the queue, the access counters, the
attended flag and the image (sections 0.5, 8.9, 10.4, 11.4, 11.5). -/

namespace Sys2Proof.Machine

/-- What of the state few moves change. -/
structure Standing where
  powered : Bool
  pending : List Instr
  attempts : Nat
  expired : Bool
  frozen : Bool
  attended : Bool
  image : Image

namespace State

/-- The state's part that few moves change. -/
def standing (s : State) : Standing :=
  ⟨s.powered, s.pending, s.access.attempts, s.access.expired, s.access.frozen, s.conn.attended, s.profile.image⟩

theorem standing_of_steady {s t : State} (h : t.steady = s.steady) : t.standing = s.standing :=
  of_steady standing (fun _ => rfl) h

theorem standing_of_outer {s t : State} (h : t.outer = s.outer) : t.standing = s.standing :=
  standing_of_steady (steady_of_outer h)

variable (s : State)

theorem enterAnswering_steady : s.enterAnswering.steady = s.steady := by simp [enterAnswering]

theorem answerRequest_steady : s.answerRequest.steady = s.steady := by
  unfold answerRequest
  split
  · exact enterAnswering_steady s
  · rfl

theorem seizeRequest_steady : s.seizeRequest.steady = s.steady := by
  unfold seizeRequest
  split <;> simp

theorem callChange_standing (present : Bool) : (s.callChange present).standing = s.standing := by
  have h (u : State) (b : Bool) (hu : u.standing = s.standing) :
      (if b then u.enterAnswering else u).standing = s.standing := by
    split
    · exact (standing_of_steady (enterAnswering_steady u)).trans hu
    · exact hu
  exact h _ _ rfl

theorem conditionChange_standing (d : LineCond) : (s.conditionChange d).standing = s.standing := by
  simp only [conditionChange, standing, onConn]
  split
  · rfl
  · split <;> rfl

theorem enterConnected_standing : s.enterConnected.standing = s.standing := by
  have hrx (t : State) : ((t.onRx fun b => { b with state := .hunting, plane := .letters }).onTx
      fun b => { b with shift := .unknown }).standing = t.standing := rfl
  simp only [enterConnected, hrx]
  have hanswer (t : State) : t.answerbackRequest.standing = t.standing := standing_of_outer (answerbackRequest_outer t)
  split
  · rw [hanswer, standing_of_steady (noticeTraffic_steady _)]
    rfl
  · rw [standing_of_steady (noticeTraffic_steady _)]
    rfl

theorem deselect_steady : s.deselect.steady = s.steady := by
  unfold deselect
  split <;> simp

theorem erase_steady : s.erase.steady = s.steady := by
  simp only [erase]
  rw [steady_of_outer (forRecords_outer _ _ fun s e => deleteRecord_outer s e), closeComposing_steady,
    steady_of_outer (setStack_outer _ _)]
  exact steady_of_outer (foldl_outer s _ (fun s e => closeEntry_outer s e) _)

theorem unattendEffect_standing : s.unattendEffect.standing = { s.standing with attended := false } := by
  have h : (s.setAttended false).closeComposing.standing = { s.standing with attended := false } := by
    rw [standing_of_steady (closeComposing_steady _)]
    rfl
  exact h

theorem sampleElement_standing : s.sampleElement.standing = s.standing := by
  unfold sampleElement
  split <;> rfl

theorem falseStartEvent_standing : s.falseStartEvent.standing = s.standing := by
  unfold falseStartEvent
  split <;> rfl

end State

/-- What a move does to the part of the state that few moves change: nothing; ATTEND or UNATTEND, of their commands or a scan; a number
tried or FROZEN set; or a commit's end, of its command. -/
theorem Move.standing_cases {c : Instr} {s t : State} (h : Move c s t) :
    t.standing = s.standing ∨
    (((∃ k, c = .attend k) ∨ (∃ k, c = .unattend k) ∨ ∃ m, c = .scan m) ∧
      ∃ a, t.standing = { s.standing with attended := a }) ∨
    (s.access.expired = false ∧ t = s.wrongNumber) ∨ (s.access.expired = false ∧ ∃ src w, t = s.rightNumber src w) ∨
    t = s.setFrozen ∨ ((∃ same, c = .commitCompletion same) ∧ ∃ i, t.standing = { s.standing with image := i }) := by
  cases h
  case attend hc => exact .inr (.inl ⟨hc.imp_right .inr, true, rfl⟩)
  case unattend hc => exact .inr (.inl ⟨.inr hc, false, s.unattendEffect_standing⟩)
  case wrongNumber h => exact .inr (.inr (.inl ⟨h, rfl⟩))
  case rightNumber src w _ h => exact .inr (.inr (.inr (.inl ⟨h, src, w, rfl⟩)))
  case setFrozen => exact .inr (.inr (.inr (.inr (.inl rfl))))
  case writtenBack w hc _ => exact .inr (.inr (.inr (.inr (.inr ⟨⟨_, hc⟩, w.written, rfl⟩))))
  case notWrittenBack hc => exact .inr (.inr (.inr (.inr (.inr ⟨⟨_, hc⟩, .spoilt s.spoilt, rfl⟩))))
  all_goals refine .inl ?_
  case inner h => exact State.standing_of_outer h.outer
  case falseStart => exact s.falseStartEvent_standing
  case sampleElement => exact s.sampleElement_standing
  case adoptRate h => exact State.standing_of_steady (State.adoptRate_steady h)
  case adoptLineType h => exact State.standing_of_steady (State.adoptLineType_steady h)
  case conditionChange d => exact s.conditionChange_standing d
  case noticeTraffic => exact State.standing_of_steady s.noticeTraffic_steady
  case enterClearing => exact State.standing_of_steady s.enterClearing_steady
  case enterLost => exact State.standing_of_steady s.enterLost_steady
  case enterConnected => exact s.enterConnected_standing
  case answerRequest => exact State.standing_of_steady s.answerRequest_steady
  case seizeRequest => exact State.standing_of_steady s.seizeRequest_steady
  case callChange p => exact s.callChange_standing p
  case stationReset => exact State.standing_of_steady s.stationResetEffect_steady
  case deselect => exact State.standing_of_steady s.deselect_steady
  case closeSource src => cases src <;> rfl
  case openOperator src _ => cases src <;> rfl
  case setParameter => exact State.standing_of_steady (s.changeWorking_steady _)
  case closeComposing => exact State.standing_of_steady s.closeComposing_steady
  case erase => exact State.standing_of_steady s.erase_steady
  case cellSent x after item e _ _ =>
    rw [State.standing_of_outer (State.advanceSend_outer _ e), State.standing_of_steady (State.noticeTraffic_steady _)]
    rfl
  case operationDone => exact State.standing_of_outer s.operationDone_outer
  all_goals rfl

/-- A run of moves keeps the power and the waiting commands. -/
theorem Moves.powered_pending {c : Instr} {s t : State} (h : Moves c s t) : t.powered = s.powered ∧ t.pending = s.pending := by
  refine Moves.keeps (P := fun t => t.powered = s.powered ∧ t.pending = s.pending) (fun u v huv hu => ?_) h ⟨rfl, rfl⟩
  have hv : v.powered = u.powered ∧ v.pending = u.pending := by
    have of_standing {x : Standing} (h : v.standing = x) (h1 : x.powered = u.powered) (h2 : x.pending = u.pending) :
        v.powered = u.powered ∧ v.pending = u.pending := by
      subst h
      exact ⟨h1, h2⟩
    obtain h | ⟨-, a, h⟩ | ⟨-, rfl⟩ | ⟨-, src, w, rfl⟩ | rfl | ⟨-, i, h⟩ := huv.standing_cases
    · exact of_standing h rfl rfl
    · exact of_standing h rfl rfl
    · exact ⟨rfl, rfl⟩
    · exact ⟨rfl, rfl⟩
    · exact ⟨rfl, rfl⟩
    · exact of_standing h rfl rfl
  exact ⟨hv.1.trans hu.1, hv.2.trans hu.2⟩

/-- What a command can do of itself and after: start the part up, take the power, move an input of a part without power, or, with power,
make a run of moves. -/
theorem exec_moves (c : Instr) (s : State) :
    (exec c s = .next s.startUp ∧ (c = .powerOn ∨ c = .hardReset)) ∨ (exec c s = .next s.losePower ∧ c = .powerRemoval) ∨
    (∃ d, exec c s = .next (s.onConn fun b => { b with lineCond := d })) ∨
    (∃ p, exec c s = .next (s.onConn fun b => { b with callInput := p })) ∨
    (∃ o l, exec c s = .next (s.onPrint fun b => { b with paperOut := o, paperLow := l })) ∨
    ∃ t, exec c s = .next t ∧ Moves c s t := by
  obtain h | h | ⟨-, h | h | h⟩ | ⟨-, f, hf, h⟩ | h := exec_cases c s
  · exact .inl h
  · exact .inr (.inl h)
  · exact .inr (.inr (.inl h))
  · exact .inr (.inr (.inr (.inl h)))
  · exact .inr (.inr (.inr (.inr (.inl h))))
  · exact .inr (.inr (.inr (.inr (.inr ⟨_, h, (hf.moves s).trans (State.moves_settle _)⟩))))
  · exact .inr (.inr (.inr (.inr (.inr ⟨s, h, .refl⟩))))

/-- A property that a start-up gives, and that the queue, the loss of power, an input of a part without power and every move keep. -/
structure Robust (P : State → Prop) : Prop where
  pending : ∀ s q, P s → P (s.withPending q)
  startUp : ∀ s, P s → P s.startUp
  losePower : ∀ s, P s → P s.losePower
  lineCond : ∀ s d, P s → P (s.onConn fun b => { b with lineCond := d })
  callInput : ∀ s p, P s → P (s.onConn fun b => { b with callInput := p })
  paper : ∀ s o l, P s → P (s.onPrint fun b => { b with paperOut := o, paperLow := l })
  move : ∀ c s t, Move c s t → P s → P t

/-- Every step keeps such a property. -/
theorem Robust.keptByStep {P : State → Prop} (h : Robust P) : KeptByStep P := by
  intro s t hs hstep
  have hexec (c : Instr) (u : State) (hu : P u) (hc : exec c u = .next t) : P t := by
    obtain ⟨he, -⟩ | ⟨he, -⟩ | ⟨d, he⟩ | ⟨p, he⟩ | ⟨o, l, he⟩ | ⟨v, he, hmoves⟩ := exec_moves c u
    all_goals
      rw [hc] at he
      cases he
    · exact h.startUp u hu
    · exact h.losePower u hu
    · exact h.lineCond u d hu
    · exact h.callInput u p hu
    · exact h.paper u o l hu
    · exact hmoves.keeps (h.move c) hu
  unfold step at hstep
  split at hstep
  · cases hstep
    exact hs
  · rename_i c rest _
    exact hexec c _ (h.pending s rest hs) hstep

/-- Settles O2: a start-up, the loss of power and the inputs keep the queue, and so does every run of moves. -/
theorem everyCommandAnswersAndKeepsTheQueue : Obligations.EveryCommandAnswersAndKeepsTheQueue := by
  intro c s
  have hcut : s.cutCommit.pending = s.pending := by
    unfold State.cutCommit
    split <;> rfl
  obtain ⟨he, -⟩ | ⟨he, -⟩ | ⟨d, he⟩ | ⟨p, he⟩ | ⟨o, l, he⟩ | ⟨t, he, hmoves⟩ := exec_moves c s
  · exact ⟨_, he, hcut⟩
  · exact ⟨_, he, hcut⟩
  · exact ⟨_, he, rfl⟩
  · exact ⟨_, he, rfl⟩
  · exact ⟨_, he, rfl⟩
  · exact ⟨_, he, hmoves.powered_pending.2⟩

/-- What follows an event keeps what `State.steady` keeps. -/
theorem State.settle_steady (s : State) : s.settle.steady = s.steady :=
  s.settle_keeps (P := fun t => t.steady = s.steady) (fun _ _ h hs => (settleStep_steady h).trans hs) rfl

/-- Settles O3: each part named is one that `State.steady` keeps. -/
theorem whatFollowsLeavesAlone : Obligations.WhatFollowsLeavesAlone := by
  intro s
  have h {α : Type} (f : State → α) (hf : ∀ u : State, f u.steady = f u) : f s.settle = f s :=
    State.of_steady f hf s.settle_steady
  refine ⟨h (·.powered) ?_, h (·.pending) ?_, h (·.spoilt) ?_, h (·.conn.lineCond) ?_, h (·.conn.callInput) ?_,
    h (·.conn.attended) ?_, h (·.rx.plane) ?_, h (·.rx.stats) ?_, h (·.rx.tick) ?_, h (·.rx.sample) ?_, h (·.kb.keys) ?_,
    h (·.kb.pair) ?_, h (·.kb.mode) ?_, h (·.kb.repeatKey) ?_, h (·.kb.repeatTimer) ?_, h (·.kb.breakTimer) ?_,
    h (·.kb.blockedCount) ?_, h (·.kb.noRoomCount) ?_, h (·.kb.bellPulses) ?_, h (·.access.attempts) ?_,
    h (·.access.expired) ?_, h (·.access.frozen) ?_, h (·.profile.image) ?_, h (·.profile.commit) ?_,
    h (·.dir.overlongCount) ?_, h (·.dir.malformedCount) ?_, h (·.dir.overrunCount) ?_, h (·.print.paperOut) ?_,
    h (·.print.paperLow) ?_⟩
  all_goals exact fun _ => rfl

/-- What the commands other than a start-up keep or change of the access flags, the attended flag and the image. -/
def FlagsKept (c : Instr) (s t : State) : Prop :=
  (s.access.expired = true → t.access.expired = true) ∧ (s.access.frozen = true → t.access.frozen = true) ∧
    ((∀ k, c ≠ .attend k) → (∀ k, c ≠ .unattend k) → (∀ m, c ≠ .scan m) → t.conn.attended = s.conn.attended) ∧
    ((∀ b, c ≠ .commitCompletion b) → t.profile.image = s.profile.image)

theorem Move.flagsKept {c : Instr} {s t : State} (h : Move c s t) : FlagsKept c s t := by
  have of_standing {x : Standing} (hx : t.standing = x) (he : x.expired = s.access.expired) (hf : x.frozen = s.access.frozen)
      (ha : (∀ k, c ≠ .attend k) → (∀ k, c ≠ .unattend k) → (∀ m, c ≠ .scan m) → x.attended = s.conn.attended)
      (hi : (∀ b, c ≠ .commitCompletion b) → x.image = s.profile.image) : FlagsKept c s t := by
    subst hx
    exact ⟨fun h => he.trans h, fun h => hf.trans h, ha, hi⟩
  obtain h | ⟨hc, a, h⟩ | ⟨hexp, rfl⟩ | ⟨hexp, src, w, rfl⟩ | rfl | ⟨⟨b, hc⟩, i, h⟩ := h.standing_cases
  · exact of_standing h rfl rfl (fun _ _ _ => rfl) fun _ => rfl
  · refine of_standing h rfl rfl (fun h1 h2 h3 => ?_) fun _ => rfl
    obtain ⟨k, hk⟩ | ⟨k, hk⟩ | ⟨m, hm⟩ := hc
    · exact absurd hk (h1 k)
    · exact absurd hk (h2 k)
    · exact absurd hm (h3 m)
  · exact ⟨fun h => by simp [h] at hexp, id, fun _ _ _ => rfl, fun _ => rfl⟩
  · exact ⟨fun h => by simp [h] at hexp, by cases src <;> exact id, fun _ _ _ => rfl, fun _ => rfl⟩
  · exact ⟨id, fun _ => rfl, fun _ _ _ => rfl, fun _ => rfl⟩
  · exact of_standing h rfl rfl (fun _ _ _ => rfl) fun hne => absurd hc (hne b)

theorem Moves.flagsKept {c : Instr} {s t : State} (h : Moves c s t) : FlagsKept c s t := by
  refine Moves.keeps (P := FlagsKept c s) (fun u v huv hu => ?_) h ⟨id, id, fun _ _ _ => rfl, fun _ => rfl⟩
  obtain ⟨h1, h2, h3, h4⟩ := hu
  obtain ⟨k1, k2, k3, k4⟩ := huv.flagsKept
  exact ⟨k1 ∘ h1, k2 ∘ h2, fun a b d => (k3 a b d).trans (h3 a b d), fun a => (k4 a).trans (h4 a)⟩

/-- Settles O7: the loss of power changes the image alone, the inputs none of these, and every move keeps them but at its own
command. -/
theorem whatOnlyItsOwnCommandsChange : Obligations.WhatOnlyItsOwnCommandsChange := by
  intro c s t h hon hreset
  obtain ⟨he, hc⟩ | ⟨he, rfl⟩ | ⟨d, he⟩ | ⟨p, he⟩ | ⟨o, l, he⟩ | ⟨v, he, hmoves⟩ := exec_moves c s
  all_goals
    rw [h] at he
    cases he
  · exact absurd hc (not_or.mpr ⟨hon, hreset⟩)
  · have hcut : s.losePower.access = s.access ∧ s.losePower.conn = s.conn := by
      unfold State.losePower State.cutCommit
      split <;> exact ⟨rfl, rfl⟩
    exact ⟨fun h => hcut.1 ▸ h, fun h => hcut.1 ▸ h, fun _ _ _ => by rw [hcut.2], fun _ hne => absurd rfl hne⟩
  · exact ⟨id, id, fun _ _ _ => rfl, fun _ _ => rfl⟩
  · exact ⟨id, id, fun _ _ _ => rfl, fun _ _ => rfl⟩
  · exact ⟨id, id, fun _ _ _ => rfl, fun _ _ => rfl⟩
  · obtain ⟨h1, h2, h3, h4⟩ := hmoves.flagsKept
    exact ⟨h1, h2, h3, fun hb _ => h4 hb⟩

/-! ### The attempts -/

theorem attemptsBounded_iff (s : State) :
    s.AttemptsBounded ↔ s.standing.attempts ≤ 5 ∧ (s.standing.expired = true ↔ s.standing.attempts = 5) := Iff.rfl

theorem Move.attemptsBounded {c : Instr} {s t : State} (h : Move c s t) (hs : s.AttemptsBounded) : t.AttemptsBounded := by
  rw [attemptsBounded_iff] at hs ⊢
  obtain h | ⟨-, a, h⟩ | ⟨hexp, rfl⟩ | ⟨hexp, src, w, rfl⟩ | rfl | ⟨-, i, h⟩ := h.standing_cases
  · rwa [h]
  · rwa [h]
  · have hne : s.access.attempts ≠ 5 := fun h5 => by
      rw [show s.access.expired = true from hs.2.mpr h5] at hexp
      cases hexp
    have hle : s.access.attempts ≤ 5 := hs.1
    refine ⟨show s.access.attempts + 1 ≤ 5 by omega, ?_⟩
    show (s.access.expired || decide (5 ≤ s.access.attempts + 1)) = true ↔ s.access.attempts + 1 = 5
    simp only [hexp, Bool.false_or, decide_eq_true_eq]
    omega
  · have hexp' : (s.rightNumber src w).access.expired = false := by cases src <;> exact hexp
    have hzero : (s.rightNumber src w).access.attempts = 0 := by cases src <;> rfl
    simp only [State.standing, hexp', hzero]
    decide
  · exact hs
  · rwa [h]

theorem State.cutCommit_access (s : State) : s.cutCommit.access = s.access := by
  unfold cutCommit
  split <;> rfl

/-- Settles O10: only a wrong number counts, never once EXPIRED. -/
theorem stepsKeepTheAttemptsBounded : Obligations.StepsKeepTheAttemptsBounded :=
  Robust.keptByStep
    { pending := fun _ _ => id
      startUp := fun _ _ => ⟨Nat.zero_le 5, (by decide : false = true ↔ 0 = 5)⟩
      losePower := fun s hs => by
        unfold State.AttemptsBounded
        rw [show s.losePower.access = s.access from s.cutCommit_access]
        exact hs
      lineCond := fun _ _ => id
      callInput := fun _ _ => id
      paper := fun _ _ _ => id
      move := fun _ _ _ h => h.attemptsBounded }

end Sys2Proof.Machine
end

section
/-! PROOF. What is well formed in the working copy, the image and a commit's snapshot: table loads, parameters and access numbers keep it,
and so does every step (sections 1.5, 10.1, 11.2, 11.3, 11.5). -/

namespace Sys2Proof.Machine

/-! ### The parts of a profile -/

/-- The parts of a well-formed profile, one by one. -/
theorem Profile.wf_iff (p : Profile) :
    p.wf = true ↔
      p.rxMap.length = 64 ∧ (p.codeTable.length = 128 ∧ ∀ r ∈ p.codeTable, r.ok = true) ∧
      (p.keyTable.length = 128 ∧ ∀ e ∈ p.keyTable, e ≠ .character 0o033#7) ∧ p.answerbackLen ≤ 20 ∧
      (p.answerbackCodes.length = 20 ∧ ∀ c ∈ p.answerbackCodes, c ≠ 0o005#7 ∧ c ≠ 0o033#7) ∧
      callCodeOk p.callCode = true ∧ accessNumberOk p.operatorNumber = true ∧ accessNumberOk p.supervisorNumber = true ∧
      paramsOk p.params = true := by
  simp [Profile.wf, and_assoc, -BitVec.reduceOfNat]

theorem Profile.factory_wf : Profile.factory.wf = true := by decide +kernel

/-- Every entry of a list with one replaced by a good one is good. -/
theorem forall_mem_set {α : Type} {P : α → Prop} {l : List α} {a : α} (hl : ∀ x ∈ l, P x) (ha : P a) (i : Nat) :
    ∀ x ∈ l.set i a, P x := by
  intro x hx
  obtain hx | rfl := List.mem_or_eq_of_mem_set hx
  · exact hl x hx
  · exact ha

/-! ### Table loads -/

theorem codeFromFields_ok {vs : List Nat} {r : CodeRec} (h : codeFromFields vs = some r) : r.ok = true := by
  unfold codeFromFields at h
  split at h
  · split at h
    · rename_i htp
      cases h
      dsimp only [CodeRec.ok]
      split
      · rfl
      · rename_i t ht
        split at ht
        · cases ht
        · cases ht
          simp only [decide_eq_true_eq]
          omega
    · cases h
  · cases h

theorem keyFromFields_ne {vs : List Nat} {e : KeyEntry} (h : keyFromFields vs = some e) : e ≠ .character 0o033#7 := by
  unfold keyFromFields at h
  split at h
  · repeat' split at h
    all_goals cases h
    · simp
    · rename_i hv
      simp only [ne_eq, KeyEntry.character.injEq]
      intro hc
      have := congrArg BitVec.toNat hc
      simp only [BitVec.toNat_ofNat] at this
      omega
    · simp
  · cases h

theorem callFromFields_ok {vs : List Nat} {x : Option (Code × Code)} (h : callFromFields vs = some x) :
    callCodeOk x = true := by
  unfold callFromFields at h
  split at h
  · cases h
    rfl
  · split at h
    · rename_i a b hab
      cases h
      have hz (n : Nat) (hn : n < 128) : BitVec.ofNat 7 n = 0o132#7 ↔ n = 90 := by
        rw [← BitVec.toNat_inj]
        simp only [BitVec.toNat_ofNat]
        omega
      have ha : a % 2 ^ 7 = a := Nat.mod_eq_of_lt (by omega)
      have hb : b % 2 ^ 7 = b := Nat.mod_eq_of_lt (by omega)
      simp only [callCodeOk, BitVec.toNat_ofNat, ha, hb, Bool.and_eq_true, decide_eq_true_eq, bne_iff_ne, ne_eq,
        Prod.mk.injEq, hz a (by omega), hz b (by omega)]
      omega
    · cases h
  · cases h

theorem Profile.loadAnswerback_wf {p q : Profile} {i : Nat} {vs : List Nat} (hp : p.wf = true)
    (h : p.loadAnswerback i vs = some q) : q.wf = true := by
  rw [wf_iff] at hp ⊢
  obtain ⟨hrx, hcode, hkey, hlen, hans, hrest⟩ := hp
  unfold loadAnswerback at h
  split at h
  · split at h
    · rename_i hv
      cases h
      exact ⟨hrx, hcode, hkey, hv.2, hans, hrest⟩
    · split at h
      · rename_i v _ hv
        cases h
        have hne (n : Nat) (hn : n < 128) (hvn : v ≠ n) : BitVec.ofNat 7 v ≠ BitVec.ofNat 7 n := by
          rw [ne_eq, ← BitVec.toNat_inj]
          simp only [BitVec.toNat_ofNat]
          omega
        exact ⟨hrx, hcode, hkey, hlen, ⟨by simpa using hans.1,
          forall_mem_set hans.2 ⟨hne 5 (by omega) (by omega), hne 27 (by omega) (by omega)⟩ _⟩, hrest⟩
      · cases h
  · cases h

theorem Profile.load_wf {p q : Profile} {vs : List Nat} (hp : p.wf = true) (h : p.load vs = some q) : q.wf = true := by
  have hp' := hp
  rw [wf_iff] at hp
  obtain ⟨hrx, hcode, hkey, hlen, hans, hcall, hrest⟩ := hp
  unfold load at h
  split at h
  · split at h
    · split at h
      · obtain ⟨e, -, rfl⟩ := Option.map_eq_some_iff.mp h
        exact (wf_iff _).mpr ⟨by simpa using hrx, hcode, hkey, hlen, hans, hcall, hrest⟩
      · cases h
    split at h
    · split at h
      · obtain ⟨r, hr, rfl⟩ := Option.map_eq_some_iff.mp h
        exact (wf_iff _).mpr ⟨hrx, ⟨by simpa using hcode.1, forall_mem_set hcode.2 (codeFromFields_ok hr) _⟩, hkey, hlen, hans,
          hcall, hrest⟩
      · cases h
    split at h
    · split at h
      · obtain ⟨e, he, rfl⟩ := Option.map_eq_some_iff.mp h
        exact (wf_iff _).mpr ⟨hrx, hcode, ⟨by simpa using hkey.1, forall_mem_set hkey.2 (keyFromFields_ne he) _⟩, hlen, hans,
          hcall, hrest⟩
      · cases h
    split at h
    · exact loadAnswerback_wf hp' h
    split at h
    · obtain ⟨x, hx, rfl⟩ := Option.map_eq_some_iff.mp h
      exact (wf_iff _).mpr ⟨hrx, hcode, hkey, hlen, hans, callFromFields_ok hx, hrest⟩
    · cases h
  · cases h

/-- A table load leaves the parameters. -/
theorem Profile.load_params {p q : Profile} {vs : List Nat} (h : p.load vs = some q) : q.params = p.params := by
  have hmap {α : Type} {x : Option α} {f : α → Profile} (hf : ∀ a, (f a).params = p.params) (hx : x.map f = some q) :
      q.params = p.params := by
    obtain ⟨a, -, rfl⟩ := Option.map_eq_some_iff.mp hx
    exact hf a
  have hanswerback {i : Nat} {vs : List Nat} (h : p.loadAnswerback i vs = some q) : q.params = p.params := by
    unfold loadAnswerback at h
    repeat' split at h
    all_goals cases h
    all_goals rfl
  unfold load at h
  repeat' split at h
  · exact hmap (by intro; rfl) h
  · cases h
  · exact hmap (by intro; rfl) h
  · cases h
  · exact hmap (by intro; rfl) h
  · cases h
  · exact hanswerback h
  · exact hmap (by intro; rfl) h
  · cases h
  · cases h

/-! ### Parameters -/

theorem parRange_le (n : Nat) : (parRange n).1 ≤ (parRange n).2 := by
  by_cases h : n < 35
  · revert n
    decide
  · have : parRanges.length ≤ n - 1 := by
      simp only [parRanges, List.length_cons, List.length_nil]
      omega
    simp [parRange, List.getD_eq_getElem?_getD, List.getElem?_eq_none this]

/-- A value brought within its range stays there. -/
theorem clampPar_clampPar (n v : Nat) : clampPar n (clampPar n v) = clampPar n v := by
  have hle := parRange_le n
  have h11 : parRange 11 = (0, 600) := by decide
  have h16 : parRange 16 = (0, 127) := by decide
  unfold clampPar
  by_cases h : n = 11
  · subst h
    rw [h11]
    simp only [true_and, show (11 = 16) = False by simp, false_and, if_false]
    split <;> split <;> omega
  by_cases h' : n = 16
  · subst h'
    rw [h16]
    simp only [true_and, show (16 = 11) = False by simp, false_and, if_false]
    split <;> split <;> omega
  simp only [h, h', false_and, if_false]
  omega

/-- The parameters of a profile that can be held. -/
theorem paramsOk_iff (ps : List Nat) :
    paramsOk ps = true ↔
      ps.length = 34 ∧ (∀ i < 34, clampPar (i + 1) (ps.getD i 0) = ps.getD i 0) ∧ ps.getD 30 0 ≤ ps.getD 31 0 := by
  simp [paramsOk, and_assoc]

theorem Profile.setParameter_wf {p q : Profile} {n v set : Nat} (hp : p.wf = true) (hn : 1 ≤ n ∧ n ≤ 34)
    (h : p.setParameter n v = some (q, set)) : q.wf = true := by
  rw [wf_iff] at hp
  obtain ⟨hrx, hcode, hkey, hlen, hans, hcall, hop, hsup, hpar⟩ := hp
  obtain ⟨hlength, hclamp, hactive⟩ := (paramsOk_iff _).mp hpar
  simp only [setParameter] at h
  split at h
  · cases h
  · rename_i hguard
    cases h
    refine (wf_iff _).mpr ⟨hrx, hcode, hkey, hlen, hans, hcall, hop, hsup, (paramsOk_iff _).mpr ⟨by simpa [setPar] using hlength,
      fun i hi => ?_, ?_⟩⟩
    · by_cases hin : i = n - 1
      · subst hin
        have hlt : n - 1 < p.params.length := by omega
        simp only [setPar, List.getD_eq_getElem?_getD, List.getElem?_set_self hlt, Option.getD_some]
        rw [Nat.sub_add_cancel hn.1]
        exact clampPar_clampPar n v
      · simpa only [setPar, List.getD_eq_getElem?_getD, List.getElem?_set_ne (Ne.symm hin)] using hclamp i hi
    · by_cases hedge : n = 31 ∨ n = 32
      · simp only [hedge, true_and, Nat.not_lt] at hguard
        exact hguard
      · have h30 : n - 1 ≠ 30 := by omega
        have h31 : n - 1 ≠ 31 := by omega
        simpa only [setPar, List.getD_eq_getElem?_getD, List.getElem?_set_ne h30, List.getElem?_set_ne h31] using hactive

/-! ### The image -/

/-- An image written with the check word composed for it passes its check. -/
theorem Image.written_passes (p : Profile) : (Image.written p).passes = true := by
  simp only [written, passes, checkPasses, checkWord, BitVec.toNat_ofNat, beq_iff_eq]
  omega

theorem Image.spoilt_parts_wf (n : Nat) : (Image.spoilt n).parts.wf = true := by
  unfold spoilt
  dsimp only
  split
  · split
    · assumption
    · exact Profile.factory_wf
  · exact Profile.factory_wf

theorem Image.loaded_wf {i : Image} (h : i.parts.wf = true) : i.loaded.wf = true := by
  unfold loaded
  split
  · exact h
  · exact Profile.factory_wf

namespace State

/-! ### What reloads and cuts make of the profile memory -/

variable (s : State)

@[simp] theorem noticeTraffic_profile : s.noticeTraffic.profile = s.profile := by
  unfold noticeTraffic
  split <;> rfl

@[simp] theorem changeWorking_profile (p : Profile) : (s.changeWorking p).profile = { s.profile with working := p } := by
  have hnotice (u : State) (q : Prop) [Decidable q] : (if q then u.noticeTraffic else u).profile = u.profile := by
    split <;> simp
  have hfit (u : State) (q : Prop) [Decidable q] : (if q then u.onPrint (PrintBlock.fitForm p) else u).profile = u.profile := by
    split <;> rfl
  simp only [changeWorking, hnotice, hfit]
  rfl

/-- A reload takes the image's parts, or the factory defaults, and sets the fault by the check (R191). -/
@[simp] theorem reload_profile :
    s.reload.profile = { s.profile with working := s.profile.image.loaded, fault := !s.profile.image.passes } := by
  simp [reload]

@[simp] theorem closeComposing_profile : s.closeComposing.profile = s.profile := by
  unfold closeComposing
  split
  · rfl
  · rw [profile_of_outer (updRecord_outer _ _ _)]
    rfl

/-- A station reset reloads the working copy and leaves the rest of the profile memory alone. -/
theorem stationResetEffect_profile :
    s.stationResetEffect.profile =
      { s.profile with working := s.profile.image.loaded, fault := !s.profile.image.passes } := by
  simp [stationResetEffect, profile_of_outer (teardown_outer _), profile_of_outer (resetPrint_outer _),
    profile_of_outer (resetPunch_outer _), profile_of_outer (resetTx_outer _)]
  exact ⟨rfl, rfl, rfl, rfl⟩

/-- A leaving of CONNECTED leaves the profile memory alone, or makes the station reset deferred in the queue. -/
theorem leaveConnected_profile (target : ConnState) :
    (s.leaveConnected target).profile = s.profile ∨
      (s.leaveConnected target).profile =
        { s.profile with working := s.profile.image.loaded, fault := !s.profile.image.passes } := by
  have h : ∀ u : State, u.profile = s.profile →
      (u.discardSends.onTx fun b => { b with breakPending := false }).closeComposing.teardown.profile = s.profile := by
    intro u hu
    rw [profile_of_outer (teardown_outer _), closeComposing_profile, onTx_profile, profile_of_outer (discardSends_outer _), hu]
  simp only [leaveConnected]
  split
  · right
    rw [stationResetEffect_profile, profile_of_outer (releaseAll_outer _ _), h]
    rfl
  · left
    rw [profile_of_outer (releaseAll_outer _ _), h]
    rfl

theorem profilesWellFormed_of_profile {s t : State} (h : t.profile = s.profile) (hs : s.ProfilesWellFormed) :
    t.ProfilesWellFormed := by
  unfold ProfilesWellFormed
  rw [h]
  exact hs

theorem profilesWellFormed_of_reload {s t : State}
    (h : t.profile = { s.profile with working := s.profile.image.loaded, fault := !s.profile.image.passes })
    (hs : s.ProfilesWellFormed) : t.ProfilesWellFormed := by
  unfold ProfilesWellFormed
  rw [h]
  exact ⟨Image.loaded_wf hs.2.1, hs.2⟩

theorem ProfilesWellFormed.leaveConnected {s : State} (hs : s.ProfilesWellFormed) (target : ConnState) :
    (s.leaveConnected target).ProfilesWellFormed :=
  (s.leaveConnected_profile target).elim (profilesWellFormed_of_profile · hs) (profilesWellFormed_of_reload · hs)

/-- A working copy replaced by one that is well formed. -/
theorem ProfilesWellFormed.onWorking {s : State} (hs : s.ProfilesWellFormed) {f : Profile → Profile}
    (h : (f s.working).wf = true) : (s.onWorking f).ProfilesWellFormed := ⟨h, hs.2⟩

theorem cutCommit_profilesWellFormed {s : State} (hs : s.ProfilesWellFormed) : s.cutCommit.ProfilesWellFormed := by
  unfold cutCommit
  split
  · exact ⟨hs.1, Image.spoilt_parts_wf _, fun _ h => by cases h⟩
  · exact hs

end State

open State in
theorem Move.profilesWellFormed {c : Instr} {s t : State} (h : Move c s t) (hs : s.ProfilesWellFormed) :
    t.ProfilesWellFormed := by
  cases h
  case inner h => exact profilesWellFormed_of_profile (profile_of_outer h.outer) hs
  case falseStart => unfold State.falseStartEvent; split <;> exact hs
  case sampleElement => unfold State.sampleElement; split <;> exact hs
  case adoptRate h => unfold State.adoptRate at h; split at h <;> cases h; exact hs
  case adoptLineType h => unfold State.adoptLineType at h; split at h <;> cases h; exact hs
  case noticeTraffic => exact profilesWellFormed_of_profile s.noticeTraffic_profile hs
  case enterClearing =>
    unfold State.enterClearing
    dsimp only
    split
    · exact hs.leaveConnected .clearing
    · exact hs
  case enterLost => exact hs.leaveConnected .lost
  case enterConnected =>
    refine profilesWellFormed_of_profile ?_ hs
    simp only [State.enterConnected]
    split
    · simp [profile_of_outer (answerbackRequest_outer _)]
    · simp
  case answerRequest => unfold State.answerRequest; split <;> exact hs
  case seizeRequest => unfold State.seizeRequest; split <;> exact hs
  case callChange p =>
    have h (u : State) (b : Bool) (hu : u.ProfilesWellFormed) :
        (if b then u.enterAnswering else u).ProfilesWellFormed := by
      split <;> exact hu
    exact h _ _ hs
  case stationReset => exact profilesWellFormed_of_reload s.stationResetEffect_profile hs
  case deselect =>
    unfold State.deselect
    split
    · exact profilesWellFormed_of_profile (profile_of_outer (teardown_outer _)) hs
    · exact hs
  case unattend =>
    exact profilesWellFormed_of_profile (s.setAttended false).closeComposing_profile hs
  case setAccessNumber w n hn =>
    obtain ⟨hrx, hcode, hkey, hlen, hans, hcall, hop, hsup, hpar⟩ := (Profile.wf_iff _).mp hs.1
    refine hs.onWorking ((Profile.wf_iff _).mpr ?_)
    split
    · exact ⟨hrx, hcode, hkey, hlen, hans, hcall, hn, hsup, hpar⟩
    · exact ⟨hrx, hcode, hkey, hlen, hans, hcall, hop, hn, hpar⟩
  case setParameter n v hn p set h =>
    refine profilesWellFormed_of_profile (s.changeWorking_profile p) (s := s.onWorking fun _ => p) ?_
    exact hs.onWorking (Profile.setParameter_wf hs.1 hn h)
  case load vs p h => exact hs.onWorking (Profile.load_wf hs.1 h)
  case beginCommit line =>
    refine ⟨hs.1, hs.2.1, fun w hw => ?_⟩
    cases hw
    exact ⟨hs.1, Image.written_passes _⟩
  case writtenBack w _ h => exact ⟨hs.1, (hs.2.2 w h).1, fun _ h => by cases h⟩
  case notWrittenBack => exact ⟨hs.1, Image.spoilt_parts_wf _, fun _ h => by cases h⟩
  case closeComposing => exact profilesWellFormed_of_profile s.closeComposing_profile hs
  case erase =>
    refine profilesWellFormed_of_profile ?_ hs
    simp only [State.erase]
    rw [profile_of_outer (forRecords_outer _ _ fun s e => deleteRecord_outer s e), closeComposing_profile,
      profile_of_outer (setStack_outer _ _)]
    exact profile_of_outer (foldl_outer s _ (fun s e => closeEntry_outer s e) _)
  case cellSent x after item e _ _ =>
    refine profilesWellFormed_of_profile ?_ hs
    rw [profile_of_outer (advanceSend_outer _ e), noticeTraffic_profile]
    rfl
  case operationDone => exact profilesWellFormed_of_profile (profile_of_outer s.operationDone_outer) hs
  all_goals exact hs

/-- Settles O11: a start-up loads an image whose parts are well formed, and every move keeps them so. -/
theorem stepsKeepTheProfilesWellFormed : Obligations.StepsKeepTheProfilesWellFormed :=
  Robust.keptByStep
    { pending := fun _ _ => id
      startUp := fun s hs => by
        have hcut := s.cutCommit_profilesWellFormed hs
        exact ⟨Image.loaded_wf hcut.2.1, hcut.2.1, fun _ h => by cases h⟩
      losePower := fun s hs => s.cutCommit_profilesWellFormed hs
      lineCond := fun _ _ => id
      callInput := fun _ _ => id
      paper := fun _ _ _ => id
      move := fun _ _ _ h => h.profilesWellFormed }

end Sys2Proof.Machine
end

section
/-! PROOF. What a change of records, a punch operation, a printer operation and a transmitter operation each leave alone. `unrecorded`
blanks the directory with its free blocks and its arrival list, and the reply queue, which a freed record marks; `offPunch`,
`offPrint` and `offTx` blank one block more. -/

namespace Sys2Proof.Machine
namespace State

/-- The state with the directory, the arrival list, the free-block list and the reply queue blanked. -/
def unrecorded (s : State) : State :=
  { s with store := { s.store with free := [], dir := [], arrival := [] }, dir := { s.dir with queue := [] } }

/-- `unrecorded` with the punch blanked. -/
def offPunch (s : State) : State := { s.unrecorded with punch := .start .factory }

/-- `unrecorded` with the printer's stack, operations and sequence blanked, but not its carriage and its sensors. -/
def offPrint (s : State) : State :=
  { s.unrecorded with
    print := { PrintBlock.start s.print.paperOut s.print.paperLow with
      column := s.print.column, pageLine := s.print.pageLine, bellFlag := s.print.bellFlag, lastFeed := s.print.lastFeed } }

/-- `unrecorded` with the transmitter blanked. -/
def offTx (s : State) : State := { s.unrecorded with tx := .start }

section
variable {α : Type} (f : State → α) {s t : State}

theorem of_unrecorded (hf : ∀ s, f s.unrecorded = f s) (h : t.unrecorded = s.unrecorded) : f t = f s := by
  rw [← hf t, ← hf s, h]
theorem of_offPunch (hf : ∀ s, f s.offPunch = f s) (h : t.offPunch = s.offPunch) : f t = f s := by rw [← hf t, ← hf s, h]
theorem of_offPrint (hf : ∀ s, f s.offPrint = f s) (h : t.offPrint = s.offPrint) : f t = f s := by rw [← hf t, ← hf s, h]
theorem of_offTx (hf : ∀ s, f s.offTx = f s) (h : t.offTx = s.offTx) : f t = f s := by rw [← hf t, ← hf s, h]

end

theorem offPunch_of_unrecorded {s t : State} (h : t.unrecorded = s.unrecorded) : t.offPunch = s.offPunch :=
  of_unrecorded offPunch (fun _ => rfl) h
theorem offPrint_of_unrecorded {s t : State} (h : t.unrecorded = s.unrecorded) : t.offPrint = s.offPrint :=
  of_unrecorded offPrint (fun _ => rfl) h
theorem offTx_of_unrecorded {s t : State} (h : t.unrecorded = s.unrecorded) : t.offTx = s.offTx :=
  of_unrecorded offTx (fun _ => rfl) h

/-! ### Changes of records -/

section
variable (s : State)

@[simp] theorem setRecord_unrecorded (e : Nat) (r : Record) : (s.setRecord e r).unrecorded = s.unrecorded := rfl
@[simp] theorem freeRecord_unrecorded (e : Nat) : (s.freeRecord e).unrecorded = s.unrecorded := rfl

@[simp] theorem examine_unrecorded (e : Nat) : (s.examine e).unrecorded = s.unrecorded := by
  simp only [examine]
  split <;> split <;> simp

@[simp] theorem updRecord_unrecorded (e : Nat) (f : Record → Record) : (s.updRecord e f).unrecorded = s.unrecorded := by
  simp [updRecord]

/-- A fold of changes that each leave a part alone leaves it alone. -/
theorem foldl_frame {α β : Type} (g : State → β) (f : State → α → State) (h : ∀ s a, g (f s a) = g s) (l : List α) :
    g (l.foldl f s) = g s := by
  induction l generalizing s with
  | nil => rfl
  | cons a l ih => rw [List.foldl_cons, ih, h]

@[simp] theorem closeEntry_unrecorded (t : StackEntry) : (s.closeEntry t).unrecorded = s.unrecorded := by
  unfold closeEntry
  split
  · rfl
  · exact updRecord_unrecorded s _ _
@[simp] theorem markPrint_unrecorded (e : Nat) (m : Bool) : (s.markPrint e m).unrecorded = s.unrecorded :=
  updRecord_unrecorded s e _
@[simp] theorem markPunch_unrecorded (e : Nat) (m : Bool) : (s.markPunch e m).unrecorded = s.unrecorded :=
  updRecord_unrecorded s e _
@[simp] theorem letGoSend_unrecorded (e : Nat) (g : Bool) : (s.letGoSend e g).unrecorded = s.unrecorded :=
  updRecord_unrecorded s e _
@[simp] theorem advanceSend_unrecorded (e : Nat) : (s.advanceSend e).unrecorded = s.unrecorded :=
  updRecord_unrecorded s e _
@[simp] theorem advancePunch_unrecorded (e : Nat) : (s.advancePunch e).unrecorded = s.unrecorded :=
  updRecord_unrecorded s e _

@[simp] theorem abandonMarked_unrecorded (src : PunchSource) : (s.abandonMarked src).unrecorded = s.unrecorded := by
  refine foldl_frame s unrecorded _ (fun s e => ?_) _
  dsimp only
  split <;> simp

@[simp] theorem abandonSends_unrecorded (ok : Record → Bool) : (s.abandonSends ok).unrecorded = s.unrecorded := by
  refine foldl_frame s unrecorded _ (fun s e => ?_) _
  dsimp only
  split <;> simp

@[simp] theorem topTakes_unrecorded (st : RecState) : (s.topTakes st).unrecorded = s.unrecorded := by
  unfold topTakes
  split <;> simp

/-! ### The punch -/

@[simp] theorem onPunch_offPunch (f : PunchBlock → PunchBlock) : (s.onPunch f).offPunch = s.offPunch := rfl
@[simp] theorem setRecord_offPunch (e : Nat) (r : Record) : (s.setRecord e r).offPunch = s.offPunch := rfl
@[simp] theorem updRecord_offPunch (e : Nat) (f : Record → Record) : (s.updRecord e f).offPunch = s.offPunch :=
  offPunch_of_unrecorded (updRecord_unrecorded s e f)
@[simp] theorem markPunch_offPunch (e : Nat) (m : Bool) : (s.markPunch e m).offPunch = s.offPunch := updRecord_offPunch s e _
@[simp] theorem advancePunch_offPunch (e : Nat) : (s.advancePunch e).offPunch = s.offPunch := updRecord_offPunch s e _
@[simp] theorem abandonMarked_offPunch (src : PunchSource) : (s.abandonMarked src).offPunch = s.offPunch :=
  offPunch_of_unrecorded (abandonMarked_unrecorded s src)

@[simp] theorem claimRequest_offPunch (src : PunchSource) : (s.claimRequest src).1.offPunch = s.offPunch := by
  simp only [claimRequest]
  cases (s.punch.claim src).state <;> dsimp only
  case draining => simp
  all_goals split <;> simp

@[simp] theorem releaseAll_offPunch (src : PunchSource) : (s.releaseAll src).offPunch = s.offPunch := by
  unfold releaseAll
  split <;> simp

@[simp] theorem releaseRequest_offPunch (src : PunchSource) : (s.releaseRequest src).1.offPunch = s.offPunch := by
  simp only [releaseRequest]
  cases (s.punch.claim src).state <;> dsimp only
  all_goals split <;> simp

@[simp] theorem tapeKey_offPunch : s.tapeKey.offPunch = s.offPunch := by
  unfold tapeKey
  split <;> simp

@[simp] theorem leaveCopyList_offPunch (e : Nat) : (s.leaveCopyList e).offPunch = s.offPunch := by
  simp only [leaveCopyList]
  split <;> simp

@[simp] theorem requestCopy_offPunch (e : Nat) : (s.requestCopy e).1.offPunch = s.offPunch := by
  simp only [requestCopy]
  repeat' split
  all_goals simp

@[simp] theorem beginBlank_offPunch (p : Piece) (n : Nat) : (s.beginBlank p n).offPunch = s.offPunch := rfl
@[simp] theorem beginCodes_offPunch (p : Piece) (cs : List Code) : (s.beginCodes p cs).offPunch = s.offPunch := rfl
@[simp] theorem countPunchSkip_offPunch : s.countPunchSkip.offPunch = s.offPunch := rfl

@[simp] theorem takeFraming_offPunch (c : Code) (rest : List Code) : (s.takeFraming c rest).offPunch = s.offPunch := by
  simp only [takeFraming]
  split <;> simp

@[simp] theorem takePunchCell_offPunch (e : Nat) : (s.takePunchCell e).offPunch = s.offPunch := by
  simp only [takePunchCell]
  repeat' split
  all_goals simp

@[simp] theorem letGoPunch_offPunch (e : Nat) : (s.letGoPunch e).offPunch = s.offPunch := by simp [letGoPunch]

@[simp] theorem finishPunch_offPunch (e : Nat) : (s.finishPunch e).offPunch = s.offPunch := by
  simp only [finishPunch, letGoPunch_offPunch]
  split <;> simp

@[simp] theorem choosePunch_offPunch (e : Nat) : (s.choosePunch e).offPunch = s.offPunch := rfl

@[simp] theorem handover_offPunch : s.handover.offPunch = s.offPunch := by
  unfold handover
  split <;> simp

@[simp] theorem trailerEnd_offPunch : s.trailerEnd.offPunch = s.offPunch := by
  unfold trailerEnd
  split <;> simp

@[simp] theorem restartRecord_offPunch : s.restartRecord.offPunch = s.offPunch := by
  simp only [restartRecord]
  split <;> simp

@[simp] theorem endPiece_offPunch : s.endPiece.offPunch = s.offPunch := by
  simp only [endPiece]
  repeat' split
  all_goals simp

theorem goOnPunching_offPunch {s t : State} {e : Nat} (h : s.goOnPunching e = some t) : t.offPunch = s.offPunch := by
  simp only [goOnPunching] at h
  repeat' split at h
  all_goals cases h
  all_goals simp

theorem serveHolder_offPunch {s t : State} (h : s.serveHolder = some t) : t.offPunch = s.offPunch := by
  simp only [serveHolder] at h
  repeat' split at h
  all_goals cases h
  all_goals simp

theorem punchBoundary_offPunch {s t : State} (h : s.punchBoundary = some t) : t.offPunch = s.offPunch := by
  simp only [punchBoundary] at h
  split at h
  · cases h; simp
  · split at h
    · cases h; simp
    · split at h
      · exact goOnPunching_offPunch h
      · exact serveHolder_offPunch h

theorem punchStep_offPunch {s t : State} (h : s.punchStep = some t) : t.offPunch = s.offPunch := by
  simp only [punchStep] at h
  split at h
  · cases h
  · split at h
    · repeat' split at h
      all_goals cases h
      all_goals simp [issueRow]
    · split at h
      · cases h; simp
      · split at h
        · cases h; simp
        · split at h
          · exact punchBoundary_offPunch h
          · cases h; simp

theorem newTapeRequest_offPunch {s t : State} (h : s.newTapeRequest = some t) : t.offPunch = s.offPunch := by
  simp only [newTapeRequest] at h
  repeat' split at h
  all_goals cases h
  all_goals simp [newReel]

theorem feedRequest_offPunch {s t : State} (h : s.feedRequest = some t) : t.offPunch = s.offPunch := by
  simp only [feedRequest] at h
  split at h <;> cases h
  simp

@[simp] theorem rowDone_offPunch : s.rowDone.offPunch = s.offPunch := by
  simp only [rowDone]
  repeat' split
  all_goals simp [newReel]

@[simp] theorem rowFault_offPunch : s.rowFault.offPunch = s.offPunch := by
  unfold rowFault
  split <;> simp

@[simp] theorem clearPunchFault_offPunch : s.clearPunchFault.offPunch = s.offPunch := by
  unfold clearPunchFault
  split <;> simp

@[simp] theorem resetPunch_offPunch : s.resetPunch.offPunch = s.offPunch := by
  unfold resetPunch
  rw [show ∀ u : State, ∀ f, (∀ u e, (f u e).offPunch = u.offPunch) → (u.forRecords f).offPunch = u.offPunch from
    fun u f h => foldl_frame u offPunch f h _]
  · simp
  · intro u e
    simp

/-! ### The printer -/

/-- A change of the printer that keeps its carriage and its sensors. -/
@[simp] theorem onPrint_offPrint (f : PrintBlock → PrintBlock) (h1 : ∀ b, (f b).paperOut = b.paperOut)
    (h2 : ∀ b, (f b).paperLow = b.paperLow) (h3 : ∀ b, (f b).column = b.column) (h4 : ∀ b, (f b).pageLine = b.pageLine)
    (h5 : ∀ b, (f b).bellFlag = b.bellFlag) (h6 : ∀ b, (f b).lastFeed = b.lastFeed) : (s.onPrint f).offPrint = s.offPrint := by
  simp only [offPrint, unrecorded, onPrint, h1, h2, h3, h4, h5, h6]
@[simp] theorem setRecord_offPrint (e : Nat) (r : Record) : (s.setRecord e r).offPrint = s.offPrint := rfl
@[simp] theorem updRecord_offPrint (e : Nat) (f : Record → Record) : (s.updRecord e f).offPrint = s.offPrint :=
  offPrint_of_unrecorded (updRecord_unrecorded s e f)
@[simp] theorem markPrint_offPrint (e : Nat) (m : Bool) : (s.markPrint e m).offPrint = s.offPrint := updRecord_offPrint s e _
@[simp] theorem pushContext_offPrint (e : Nat) : (s.pushContext e).offPrint = s.offPrint := rfl

/-- A change of the top context alone. -/
theorem onTop_offPrint (f : PrintContext → PrintContext) :
    (s.onPrint fun b => match b.contexts with
      | [] => b
      | top :: rest => { b with contexts := f top :: rest }).offPrint = s.offPrint := by
  refine onPrint_offPrint s _ ?_ ?_ ?_ ?_ ?_ ?_ <;> (intro b; split <;> rfl)

@[simp] theorem markMidLine_offPrint : s.markMidLine.offPrint = s.offPrint := by
  refine onPrint_offPrint s _ ?_ ?_ ?_ ?_ ?_ ?_ <;> (intro b; split <;> rfl)
@[simp] theorem setLineStart_offPrint (n : Nat) : (s.setLineStart n).offPrint = s.offPrint := by
  refine onPrint_offPrint s _ ?_ ?_ ?_ ?_ ?_ ?_ <;> (intro b; split <;> rfl)

@[simp] theorem preempt_offPrint (c : Nat) : (s.preempt c).offPrint = s.offPrint := by simp [preempt]

@[simp] theorem dropTop_offPrint (d : Bool) : (s.dropTop d).offPrint = s.offPrint := by
  unfold dropTop
  split <;> simp

@[simp] theorem resume_offPrint (e : Nat) : (s.resume e).offPrint = s.offPrint := by simp [resume]

@[simp] theorem afterPop_offPrint (cs : List PrintContext) : (afterPop cs s).offPrint = s.offPrint := by
  induction cs generalizing s with
  | nil => rfl
  | cons t rest ih =>
    simp only [afterPop]
    split
    · simp [ih]
    · split <;> simp

@[simp] theorem popContext_offPrint (d : Bool) : (s.popContext d).offPrint = s.offPrint := by simp [popContext]

@[simp] theorem takePrintCell_offPrint (e : Nat) : (s.takePrintCell e).offPrint = s.offPrint := by
  simp only [takePrintCell]
  split <;> simp

@[simp] theorem cellDone_offPrint (e : Nat) : (s.cellDone e).offPrint = s.offPrint := by
  simp only [cellDone]
  split <;> simp

@[simp] theorem rewind_offPrint (c : PrintContext) : (s.rewind c).offPrint = s.offPrint := by
  simp only [rewind]
  split
  · rw [onPrint_offPrint]
    · simp
    all_goals (intro b; split <;> rfl)
  · rfl

@[simp] theorem endSequence_offPrint : s.endSequence.offPrint = s.offPrint := by
  simp only [endSequence]
  repeat' split
  all_goals simp

theorem printBoundary_offPrint {s t : State} (h : s.printBoundary = some t) : t.offPrint = s.offPrint := by
  simp only [printBoundary] at h
  split at h
  · simp only [Option.map_eq_some_iff] at h
    obtain ⟨e, -, rfl⟩ := h
    simp
  · repeat' split at h
    all_goals cases h
    all_goals simp

theorem printStep_offPrint {s t : State} (h : s.printStep = some t) : t.offPrint = s.offPrint := by
  simp only [printStep] at h
  split at h
  · cases h
  · split at h
    · repeat' split at h
      all_goals cases h
      all_goals simp
    · split at h
      · cases h; simp
      · split at h
        · exact printBoundary_offPrint h
        · cases h; simp

@[simp] theorem operationFault_offPrint : s.operationFault.offPrint = s.offPrint := by
  unfold operationFault
  split <;> simp

@[simp] theorem clearPrintFault_offPrint : s.clearPrintFault.offPrint = s.offPrint := by
  unfold clearPrintFault
  split <;> simp

@[simp] theorem resetPrint_offPrint : s.resetPrint.offPrint = s.offPrint := by
  unfold resetPrint
  dsimp only
  rw [foldl_frame _ offPrint _ (fun u e => by simp)]
  simp

/-! ### The line transmitter -/

@[simp] theorem onTx_offTx (f : TxBlock → TxBlock) : (s.onTx f).offTx = s.offTx := rfl
@[simp] theorem setRecord_offTx (e : Nat) (r : Record) : (s.setRecord e r).offTx = s.offTx := rfl
@[simp] theorem updRecord_offTx (e : Nat) (f : Record → Record) : (s.updRecord e f).offTx = s.offTx :=
  offTx_of_unrecorded (updRecord_unrecorded s e f)
@[simp] theorem letGoSend_offTx (e : Nat) (g : Bool) : (s.letGoSend e g).offTx = s.offTx := updRecord_offTx s e _
@[simp] theorem advanceSend_offTx (e : Nat) : (s.advanceSend e).offTx = s.offTx := updRecord_offTx s e _
@[simp] theorem abandonSends_offTx (ok : Record → Bool) : (s.abandonSends ok).offTx = s.offTx :=
  offTx_of_unrecorded (abandonSends_unrecorded s ok)

@[simp] theorem requestRetrieval_offTx (e : Nat) : (s.requestRetrieval e).1.offTx = s.offTx := by
  simp only [requestRetrieval]
  repeat' split
  all_goals simp

@[simp] theorem dropItems_offTx : s.dropItems.offTx = s.offTx := by
  unfold dropItems
  dsimp only
  rw [foldl_frame _ offTx _ (fun u e => by simp)]
  simp

@[simp] theorem discardSends_offTx : s.discardSends.offTx = s.offTx := by simp [discardSends]
@[simp] theorem resetTx_offTx : s.resetTx.offTx = s.offTx := by simp [resetTx]

@[simp] theorem endRetrieval_offTx (t : Retrieval) : (s.endRetrieval t).offTx = s.offTx := by
  simp only [endRetrieval]
  split <;> simp

@[simp] theorem abandonRetrieval_offTx (t : Retrieval) (e : Nat) : (s.abandonRetrieval t e).offTx = s.offTx := by
  simp [abandonRetrieval, setRetrieval]

@[simp] theorem endKeyboardText_offTx (e : Nat) : (s.endKeyboardText e).offTx = s.offTx := by simp [endKeyboardText]

theorem settleItems_offTx {s t : State} (h : s.settleItems = some t) : t.offTx = s.offTx := by
  simp only [settleItems] at h
  repeat' split at h
  all_goals try simp only [Option.map_eq_some_iff, Option.some.injEq] at h
  · obtain ⟨e, -, ht⟩ := h
    rw [← ht, abandonRetrieval_offTx]
  · rw [← h, endRetrieval_offTx]
  · rw [← h]
    simp [dropKeyboardText]
  · cases h
  · obtain ⟨e, -, ht⟩ := h
    rw [← ht]
    simp [takeKeyboardText]

/-- A cell taken for its item. -/
theorem sendCell_offTx {item : TxItem} {e : Nat} (h : item = .retrievalCell e ∨ item = .keyboardCell e) :
    (s.sendCell item e).offTx = s.offTx := by
  have hdone (u : State) : (u.codeDone item).offTx = u.offTx := by
    rcases h with rfl | rfl <;> exact advanceSend_offTx u e
  simp only [sendCell, sendCode]
  split
  · rfl
  · rw [hdone]
    rfl

/-! ### The store -/

/-- The state with the store and the reply queue blanked. -/
def offStore (s : State) : State := { s with store := .start, dir := { s.dir with queue := [] } }

theorem of_offStore {α : Type} (f : State → α) {s t : State} (hf : ∀ s, f s.offStore = f s) (h : t.offStore = s.offStore) :
    f t = f s := by rw [← hf t, ← hf s, h]
theorem offStore_of_unrecorded {s t : State} (h : t.unrecorded = s.unrecorded) : t.offStore = s.offStore :=
  of_unrecorded offStore (fun _ => rfl) h

@[simp] theorem onStore_offStore (f : StoreBlock → StoreBlock) : (s.onStore f).offStore = s.offStore := rfl
@[simp] theorem setRecord_offStore (e : Nat) (r : Record) : (s.setRecord e r).offStore = s.offStore := rfl
@[simp] theorem setStack_offStore (st : List StackEntry) : (s.setStack st).offStore = s.offStore := rfl
@[simp] theorem push_offStore (t : StackEntry) : (s.push t).offStore = s.offStore := rfl
@[simp] theorem pushVoid_offStore (p : Nat) : (s.pushVoid p).offStore = s.offStore := rfl
@[simp] theorem takeSerial_offStore : s.takeSerial.offStore = s.offStore := rfl
@[simp] theorem updRecord_offStore (e : Nat) (f : Record → Record) : (s.updRecord e f).offStore = s.offStore :=
  offStore_of_unrecorded (updRecord_unrecorded s e f)
@[simp] theorem examine_offStore (e : Nat) : (s.examine e).offStore = s.offStore :=
  offStore_of_unrecorded (examine_unrecorded s e)
@[simp] theorem topTakes_offStore (st : RecState) : (s.topTakes st).offStore = s.offStore :=
  offStore_of_unrecorded (topTakes_unrecorded s st)

@[simp] theorem cutFrom_offStore (p : Nat) (st : List StackEntry) : (cutFrom p st s).offStore = s.offStore := by
  induction st generalizing s with
  | nil => rfl
  | cons t rest ih =>
    simp only [cutFrom]
    split
    · rw [ih, offStore_of_unrecorded (closeEntry_unrecorded s t)]
    · rfl

@[simp] theorem teardown_offStore : s.teardown.offStore = s.offStore := cutFrom_offStore s 0 _

theorem create_offStore {s t : State} {r : Record} {e : Nat} (h : s.create r = some (t, e)) : t.offStore = s.offStore := by
  simp only [create] at h
  split at h <;> cases h
  rfl

theorem append_offStore {s t : State} {e : Nat} {c : Cell} (h : s.append e c = some t) : t.offStore = s.offStore := by
  simp only [append] at h
  split at h
  · cases h
  · split at h
    · split at h
      · cases h
      · cases h
        rfl
    · cases h
      rfl

@[simp] theorem heading_offStore (p n : Nat) : (s.heading p n).offStore = s.offStore := by
  simp only [heading]
  split
  · simp
  · rename_i h
    rw [push_offStore, create_offStore h]
    simp

@[simp] theorem endMessage_offStore : s.endMessage.offStore = s.offStore := by
  unfold endMessage
  split
  · rfl
  · simp only [topTakes_offStore]
    split <;> simp

@[simp] theorem appendLine_offStore (e : Nat) (c : Cell) : (s.appendLine e c).offStore = s.offStore := by
  unfold appendLine
  split
  · rename_i h
    exact append_offStore h
  · rfl

@[simp] theorem lineText_offStore (c : Cell) : (s.lineText c).offStore = s.offStore := by
  unfold lineText
  split
  · split
    · rfl
    · rename_i h
      rw [appendLine_offStore, push_offStore, create_offStore h]
  · simp
  · rfl

theorem createKeyboard_offStore {s t : State} {c : Code} (h : s.createKeyboard c = some t) : t.offStore = s.offStore := by
  unfold createKeyboard at h
  split at h
  · cases h
  · rename_i hcreate
    obtain ⟨u, hu, rfl⟩ := Option.map_eq_some_iff.mp h
    rw [takeSerial_offStore, append_offStore hu, create_offStore hcreate]

theorem offerKey_offStore {s t : State} {c : Code} (h : s.offerKey c = some t) : t.offStore = s.offStore := by
  unfold offerKey at h
  split at h
  · exact createKeyboard_offStore h
  · exact append_offStore h

@[simp] theorem appendAll_offStore (e : Nat) (cs : List Code) : (appendAll e cs s).offStore = s.offStore := by
  refine foldl_frame s offStore _ (fun u c => ?_) cs
  cases h : u.append e ⟨c, .good⟩ with
  | none => rfl
  | some t => exact append_offStore h

@[simp] theorem notice_offStore (text : List Code) : (s.notice text).offStore = s.offStore := by
  simp only [notice]
  split
  · rfl
  · rename_i u e h
    split at h
    · simp [create_offStore h]
    · cases h

/-! ### Deletions -/

@[simp] theorem dropBeneath_offPrint (e : Nat) : (s.dropBeneath e).offPrint = s.offPrint := by
  unfold dropBeneath
  split
  · rfl
  · split <;> simp

/-- `unrecorded` with the printer and the punch blanked but for the carriage and the sensors. -/
def offMechanisms (s : State) : State := { s.offPrint with punch := .start .factory }

theorem offMechanisms_of_offPrint {s t : State} (h : t.offPrint = s.offPrint) : t.offMechanisms = s.offMechanisms :=
  of_offPrint offMechanisms (fun _ => rfl) h
theorem offMechanisms_of_offPunch {s t : State} (h : t.offPunch = s.offPunch) : t.offMechanisms = s.offMechanisms :=
  of_offPunch offMechanisms (fun _ => rfl) h

@[simp] theorem deleteRecord_offMechanisms (e : Nat) : (s.deleteRecord e).offMechanisms = s.offMechanisms := by
  have hdrop : ((s.setRecord e (s.record e).deleted).dropBeneath e).offMechanisms = s.offMechanisms :=
    (offMechanisms_of_offPrint (dropBeneath_offPrint _ e)).trans rfl
  have hexamine (u : State) : (u.examine e).offMechanisms = u.offMechanisms :=
    offMechanisms_of_offPrint (offPrint_of_unrecorded (examine_unrecorded u e))
  simp only [deleteRecord]
  split
  · rw [hexamine]
    split
    · exact (offMechanisms_of_offPunch (leaveCopyList_offPunch _ e)).trans hdrop
    · exact hdrop
  · rfl

@[simp] theorem requestDelete_offMechanisms (e : Nat) : (s.requestDelete e).1.offMechanisms = s.offMechanisms := by
  simp only [requestDelete]
  repeat' split
  all_goals simp

end

end State
end Sys2Proof.Machine
end

section
/-! PROOF. The store's cells and the open-message stack under every move: which operations write a cell, and what becomes of the stack
(sections 3.1, 3.3). -/

namespace Sys2Proof.Machine
namespace State

/-! ### The operations of the store -/

section
variable (s : State)

/-- A closing of the COMPOSING record stops the close timer and is else a change of records. -/
@[simp] theorem closeComposing_unrecorded :
    s.closeComposing.unrecorded = (s.onKb fun b => { b with closeTimer := none }).unrecorded := by
  unfold closeComposing
  split
  · rfl
  · exact updRecord_unrecorded _ _ _

theorem create_unrecorded {s t : State} {r : Record} {e : Nat} (h : s.create r = some (t, e)) :
    t.unrecorded = s.unrecorded := by
  simp only [create] at h
  split at h <;> cases h
  rfl

theorem cells_of_unrecorded {s t : State} (h : t.unrecorded = s.unrecorded) : t.store.cells = s.store.cells :=
  of_unrecorded (·.store.cells) (fun _ => rfl) h
theorem openStack_of_unrecorded {s t : State} (h : t.unrecorded = s.unrecorded) : t.store.openStack = s.store.openStack :=
  of_unrecorded (·.store.openStack) (fun _ => rfl) h

@[simp] theorem closeComposing_cells : s.closeComposing.store.cells = s.store.cells :=
  (cells_of_unrecorded (closeComposing_unrecorded s)).trans rfl
@[simp] theorem closeComposing_openStack : s.closeComposing.store.openStack = s.store.openStack :=
  (openStack_of_unrecorded (closeComposing_unrecorded s)).trans rfl
@[simp] theorem resetPrint_cells : s.resetPrint.store.cells = s.store.cells :=
  of_offPrint (·.store.cells) (fun _ => rfl) (resetPrint_offPrint s)
@[simp] theorem resetPunch_cells : s.resetPunch.store.cells = s.store.cells :=
  of_offPunch (·.store.cells) (fun _ => rfl) (resetPunch_offPunch s)
@[simp] theorem resetTx_cells : s.resetTx.store.cells = s.store.cells :=
  of_offTx (·.store.cells) (fun _ => rfl) (resetTx_offTx s)
@[simp] theorem discardSends_cells : s.discardSends.store.cells = s.store.cells :=
  of_offTx (·.store.cells) (fun _ => rfl) (discardSends_offTx s)
@[simp] theorem releaseAll_cells (src : PunchSource) : (s.releaseAll src).store.cells = s.store.cells :=
  of_offPunch (·.store.cells) (fun _ => rfl) (releaseAll_offPunch s src)
@[simp] theorem releaseAll_openStack (src : PunchSource) : (s.releaseAll src).store.openStack = s.store.openStack :=
  of_offPunch (·.store.openStack) (fun _ => rfl) (releaseAll_offPunch s src)

/-- Only the cell written changes at an append, and the stack stays. -/
theorem append_cells {s t : State} {e : Nat} {c : Cell} (h : s.append e c = some t) :
    (∃ x, t.store.cells = s.store.cells.write x c) ∧ t.store.openStack = s.store.openStack := by
  simp only [append] at h
  split at h
  · cases h
  · split at h
    · split at h
      · cases h
      · cases h
        exact ⟨⟨_, rfl⟩, rfl⟩
    · cases h
      exact ⟨⟨_, rfl⟩, rfl⟩

theorem CellsCanonical.append {s t : State} {e : Nat} {c : Cell} (hs : s.CellsCanonical) (h : s.append e c = some t) :
    t.CellsCanonical := by
  obtain ⟨⟨x, hx⟩, -⟩ := append_cells h
  rw [CellsCanonical, hx]
  exact Memory.wf_write x c hs

theorem cellsCanonical_of_cells {s t : State} (h : t.store.cells = s.store.cells) (hs : s.CellsCanonical) :
    t.CellsCanonical := by
  rw [CellsCanonical, h]
  exact hs

/-- The stack after step 1 of a heading: what lies on top from precedence `p` up is gone. -/
theorem cutFrom_store (p : Nat) (st : List StackEntry) :
    (cutFrom p st s).store.cells = s.store.cells ∧
      (cutFrom p st s).store.openStack = st.dropWhile fun t => decide (p ≤ t.precedence) := by
  induction st generalizing s with
  | nil => exact ⟨rfl, rfl⟩
  | cons t rest ih =>
    simp only [cutFrom]
    split
    · rename_i h
      obtain ⟨hcells, hstack⟩ := ih (s.closeEntry t)
      rw [hcells, hstack, cells_of_unrecorded (closeEntry_unrecorded s t)]
      simp [h]
    · rename_i h
      exact ⟨rfl, by simp [setStack, h]⟩

/-- A teardown empties the stack. -/
theorem teardown_store : s.teardown.store.cells = s.store.cells ∧ s.teardown.store.openStack = [] := by
  obtain ⟨hcells, hstack⟩ := cutFrom_store s 0 s.store.openStack
  exact ⟨hcells, by simp [teardown, hstack, List.dropWhile_eq_nil_iff]⟩

theorem heading_store (p n : Nat) :
    (s.heading p n).store.cells = s.store.cells ∧
      ∃ e, (s.heading p n).store.openStack = ⟨p, e⟩ :: s.store.openStack.dropWhile fun t => decide (p ≤ t.precedence) := by
  obtain ⟨hcells, hstack⟩ := cutFrom_store s p s.store.openStack
  simp only [heading]
  have htop := topTakes_unrecorded (cutFrom p s.store.openStack s) .suspended
  have hcells' := (cells_of_unrecorded htop).trans hcells
  have hstack' := (openStack_of_unrecorded htop).trans hstack
  split
  · exact ⟨hcells', none, by rw [← hstack']; rfl⟩
  · rename_i u e hcreate
    have hu := create_unrecorded hcreate
    exact ⟨(cells_of_unrecorded hu).trans hcells', some e, by rw [← hstack', ← openStack_of_unrecorded hu]; rfl⟩

theorem endMessage_store : s.endMessage.store.cells = s.store.cells ∧ s.endMessage.store.openStack = s.store.openStack.tail := by
  cases h : s.store.openStack with
  | nil => rw [endMessage_nil h]; exact ⟨rfl, h⟩
  | cons t rest =>
    have hcomplete : ((s.setStack rest).completeEntry t).unrecorded = (s.setStack rest).unrecorded := by
      unfold completeEntry
      split
      · rfl
      · exact updRecord_unrecorded _ _ _
    have hall := (topTakes_unrecorded ((s.setStack rest).completeEntry t) .receiving).trans hcomplete
    rw [endMessage_cons h]
    exact ⟨(cells_of_unrecorded hall).trans rfl, (openStack_of_unrecorded hall).trans rfl⟩

theorem appendLine_openStack (e : Nat) (x : Cell) : (s.appendLine e x).store.openStack = s.store.openStack := by
  unfold appendLine
  split
  · rename_i h
    exact (append_cells h).2
  · rfl

theorem CellsCanonical.appendLine {s : State} (hs : s.CellsCanonical) (e : Nat) (x : Cell) :
    (s.appendLine e x).CellsCanonical := by
  unfold State.appendLine
  split
  · rename_i h
    exact hs.append h
  · exact hs

/-- Line text leaves a stack that holds an entry, and pushes one of precedence 0 on an empty one. -/
theorem lineText_openStack (x : Cell) :
    (s.lineText x).store.openStack = s.store.openStack ∨
      (s.store.openStack = [] ∧ ∃ e, (s.lineText x).store.openStack = [⟨0, e⟩]) := by
  unfold lineText
  split
  · rename_i hnil
    refine .inr ⟨hnil, ?_⟩
    split
    · exact ⟨none, by simp [pushVoid, push, setStack, hnil]⟩
    · rename_i u e hcreate
      refine ⟨some e, ?_⟩
      rw [appendLine_openStack]
      simp [push, setStack, openStack_of_unrecorded (create_unrecorded hcreate), hnil]
  · exact .inl (appendLine_openStack s _ x)
  · exact .inl rfl

theorem CellsCanonical.lineText {s : State} (hs : s.CellsCanonical) (x : Cell) : (s.lineText x).CellsCanonical := by
  unfold State.lineText
  split
  · split
    · exact hs
    · rename_i u e hcreate
      have hu : u.CellsCanonical := cellsCanonical_of_cells (cells_of_unrecorded (create_unrecorded hcreate)) hs
      exact CellsCanonical.appendLine (s := u.push ⟨0, some e⟩) hu e x
  · exact hs.appendLine _ x
  · exact hs

theorem appendAll_store {s : State} (hs : s.CellsCanonical) (e : Nat) (cs : List Code) :
    (appendAll e cs s).CellsCanonical ∧ (appendAll e cs s).store.openStack = s.store.openStack := by
  induction cs generalizing s with
  | nil => exact ⟨hs, rfl⟩
  | cons c cs ih =>
    have hone : ((s.append e ⟨c, .good⟩).getD s).CellsCanonical ∧
        ((s.append e ⟨c, .good⟩).getD s).store.openStack = s.store.openStack := by
      cases h : s.append e ⟨c, .good⟩ with
      | none => exact ⟨hs, rfl⟩
      | some t => exact ⟨hs.append h, (append_cells h).2⟩
    obtain ⟨hcells, hstack⟩ := ih hone.1
    exact ⟨hcells, hstack.trans hone.2⟩

theorem appendAll_openStack (e : Nat) (cs : List Code) : (appendAll e cs s).store.openStack = s.store.openStack := by
  refine foldl_frame s (·.store.openStack) _ (fun u c => ?_) cs
  cases h : u.append e ⟨c, .good⟩ with
  | none => rfl
  | some t => exact (append_cells h).2

/-- A station notice leaves the stack, and writes its cells one by one. -/
theorem notice_openStack (text : List Code) : (s.notice text).store.openStack = s.store.openStack := by
  simp only [notice]
  split
  · rfl
  · rename_i u e h
    split at h
    · rw [openStack_of_unrecorded (examine_unrecorded _ e)]
      exact (appendAll_openStack u e _).trans (openStack_of_unrecorded (create_unrecorded h))
    · cases h

theorem CellsCanonical.notice {s : State} (hs : s.CellsCanonical) (text : List Code) : (s.notice text).CellsCanonical := by
  simp only [State.notice]
  split
  · exact hs
  · rename_i u e h
    split at h
    · have hu := cellsCanonical_of_cells (cells_of_unrecorded (create_unrecorded h)) hs
      exact cellsCanonical_of_cells (cells_of_unrecorded (examine_unrecorded _ e))
        (appendAll_store hu e _).1
    · cases h

theorem createKeyboard_store {s t : State} {c : Code} (h : s.createKeyboard c = some t) :
    (s.CellsCanonical → t.CellsCanonical) ∧ t.store.openStack = s.store.openStack := by
  unfold createKeyboard at h
  split at h
  · cases h
  · rename_i hcreate
    obtain ⟨u, hu, rfl⟩ := Option.map_eq_some_iff.mp h
    have hc := create_unrecorded hcreate
    exact ⟨fun hs => CellsCanonical.append (t := u) (cellsCanonical_of_cells (cells_of_unrecorded hc) hs) hu,
      (append_cells hu).2.trans (openStack_of_unrecorded hc)⟩

theorem offerKey_store {s t : State} {c : Code} (h : s.offerKey c = some t) :
    (s.CellsCanonical → t.CellsCanonical) ∧ t.store.openStack = s.store.openStack := by
  unfold offerKey at h
  split at h
  · exact createKeyboard_store h
  · exact ⟨fun hs => hs.append h, (append_cells h).2⟩

/-! ### The composed operations -/

theorem noticeTraffic_store : s.noticeTraffic.store = s.store := by
  unfold noticeTraffic
  split <;> rfl

theorem changeWorking_store (p : Profile) : (s.changeWorking p).store = s.store := by
  have hnotice (u : State) (q : Prop) [Decidable q] : (if q then u.noticeTraffic else u).store = u.store := by
    split
    · exact noticeTraffic_store u
    · rfl
  have hfit (u : State) (q : Prop) [Decidable q] : (if q then u.onPrint (PrintBlock.fitForm p) else u).store = u.store := by
    split <;> rfl
  simp only [changeWorking, hnotice, hfit]
  rfl

/-- A station reset writes no cell and empties the stack. -/
theorem stationResetEffect_store :
    s.stationResetEffect.store.cells = s.store.cells ∧ s.stationResetEffect.store.openStack = [] := by
  simp [stationResetEffect, reload, changeWorking_store, teardown_store, setQueue, abortLocalAsm, abortLineAsm]

/-- A leaving of CONNECTED writes no cell and empties the stack. -/
theorem leaveConnected_store (target : ConnState) :
    (s.leaveConnected target).store.cells = s.store.cells ∧ (s.leaveConnected target).store.openStack = [] := by
  simp only [leaveConnected]
  split <;> simp [stationResetEffect_store, teardown_store, setQueue, abortLineAsm]

/-- An entry to CLEARING writes no cell, and keeps the stack or empties it. -/
theorem enterClearing_store :
    s.enterClearing.store.cells = s.store.cells ∧
      (s.enterClearing.store.openStack = s.store.openStack ∨ s.enterClearing.store.openStack = []) := by
  unfold enterClearing
  dsimp only
  split
  · exact ⟨(s.leaveConnected_store .clearing).1, .inr (s.leaveConnected_store .clearing).2⟩
  · exact ⟨rfl, .inl rfl⟩

theorem deselect_store :
    s.deselect.store.cells = s.store.cells ∧
      (s.deselect.store.openStack = s.store.openStack ∨ s.deselect.store.openStack = []) := by
  unfold deselect
  split
  · exact ⟨(teardown_store _).1, .inr (teardown_store _).2⟩
  · exact ⟨rfl, .inl rfl⟩

/-- An erase writes no cell and leaves each entry of the stack VOID. -/
theorem erase_store :
    s.erase.store.cells = s.store.cells ∧
      s.erase.store.openStack = s.store.openStack.map fun t => { t with entry := none } := by
  have hfold : (s.store.openStack.foldl closeEntry s).unrecorded = s.unrecorded :=
    foldl_frame s unrecorded _ (fun u t => closeEntry_unrecorded u t) _
  have hdelete (u : State) : (u.forRecords deleteRecord).store.cells = u.store.cells ∧
      (u.forRecords deleteRecord).store.openStack = u.store.openStack := by
    have h : (u.forRecords deleteRecord).offMechanisms = u.offMechanisms :=
      foldl_frame u offMechanisms _ (fun v e => deleteRecord_offMechanisms v e) _
    have hof {α : Type} (f : State → α) (hf : ∀ v, f v.offMechanisms = f v) :
        f (u.forRecords deleteRecord) = f u := by rw [← hf (u.forRecords deleteRecord), ← hf u, h]
    exact ⟨hof (·.store.cells) fun _ => rfl, hof (·.store.openStack) fun _ => rfl⟩
  simp only [erase]
  rw [(hdelete _).1, (hdelete _).2, closeComposing_cells, closeComposing_openStack]
  have hcells := cells_of_unrecorded hfold
  exact ⟨hcells, congrArg _ (openStack_of_unrecorded hfold)⟩

theorem unattendEffect_store :
    s.unattendEffect.store.cells = s.store.cells ∧ s.unattendEffect.store.openStack = s.store.openStack :=
  ⟨closeComposing_cells (s.setAttended false), closeComposing_openStack (s.setAttended false)⟩

theorem of_offMechanisms {α : Type} (f : State → α) {s t : State} (hf : ∀ s, f s.offMechanisms = f s)
    (h : t.offMechanisms = s.offMechanisms) : f t = f s := by rw [← hf t, ← hf s, h]

end

end State

/-! ### Every move -/

/-- What an operation other than the store's own leaves of the cells and the stack: both. -/
theorem Inner.cells_or_store {s t : State} (h : Inner s t) :
    (t.store.cells = s.store.cells ∧ t.store.openStack = s.store.openStack) ∨
    (∃ x, t = s.lineText x) ∨ (∃ p n, p ≤ 3 ∧ t = s.heading p n) ∨ t = s.endMessage ∨ (∃ x, s.offerKey x = some t) ∨
    ∃ text, t = s.notice text := by
  have hpunch (h : t.offPunch = s.offPunch) : t.store.cells = s.store.cells ∧ t.store.openStack = s.store.openStack :=
    ⟨State.of_offPunch (·.store.cells) (fun _ => rfl) h, State.of_offPunch (·.store.openStack) (fun _ => rfl) h⟩
  have hprint (h : t.offPrint = s.offPrint) : t.store.cells = s.store.cells ∧ t.store.openStack = s.store.openStack :=
    ⟨State.of_offPrint (·.store.cells) (fun _ => rfl) h, State.of_offPrint (·.store.openStack) (fun _ => rfl) h⟩
  have htx (h : t.offTx = s.offTx) : t.store.cells = s.store.cells ∧ t.store.openStack = s.store.openStack :=
    ⟨State.of_offTx (·.store.cells) (fun _ => rfl) h, State.of_offTx (·.store.openStack) (fun _ => rfl) h⟩
  cases h
  case lineText x => exact .inr (.inl ⟨x, rfl⟩)
  case heading p n hp => exact .inr (.inr (.inl ⟨p, n, hp, rfl⟩))
  case endMessage => exact .inr (.inr (.inr (.inl rfl)))
  case offerKey x _ h => exact .inr (.inr (.inr (.inr (.inl ⟨x, h⟩))))
  case notice text => exact .inr (.inr (.inr (.inr (.inr ⟨text, rfl⟩))))
  all_goals refine .inl ?_
  case printSwitch => exact ⟨rfl, rfl⟩
  case requestDelete e _ =>
    exact ⟨State.of_offMechanisms (·.store.cells) (fun _ => rfl) (s.requestDelete_offMechanisms e),
      State.of_offMechanisms (·.store.openStack) (fun _ => rfl) (s.requestDelete_offMechanisms e)⟩
  case requestCopy e _ => exact hpunch (by simp)
  case requestRetrieval e _ => exact htx (by simp)
  case printStep h => exact hprint (State.printStep_offPrint h)
  case operationFault => exact hprint (by simp)
  case clearPrintFault => exact hprint (by simp)
  case feedRequest h => exact hpunch (State.feedRequest_offPunch h)
  case newTapeRequest h => exact hpunch (State.newTapeRequest_offPunch h)
  case punchStep h => exact hpunch (State.punchStep_offPunch h)
  case tx f _ => exact ⟨rfl, rfl⟩
  case sendCell item e hitem _ _ =>
    exact htx (State.sendCell_offTx s (hitem.imp (·.1) (·.1)))
  case settleItems _ h => exact htx (State.settleItems_offTx h)
  case endRetrieval => exact htx (by simp)
  case endKeyboardText => exact htx (by simp)
  case discardSends => exact htx (by simp)
  all_goals exact hpunch (by simp)

/-- What a move other than an inner one leaves of the cells and the stack: the cells, and the stack or nothing of it, or, for an erase,
its entries made VOID. -/
theorem Move.cells_openStack {c : Instr} {s t : State} (h : Move c s t) :
    Inner s t ∨ (t.store.cells = s.store.cells ∧
      (t.store.openStack = s.store.openStack ∨ t.store.openStack = [] ∨
        t.store.openStack = s.store.openStack.map fun t => { t with entry := none })) := by
  cases h
  case inner h => exact .inl h
  all_goals refine .inr ?_
  case enterClearing => exact ⟨s.enterClearing_store.1, s.enterClearing_store.2.imp_right .inl⟩
  case enterLost => exact ⟨(s.leaveConnected_store .lost).1, .inr (.inl (s.leaveConnected_store .lost).2)⟩
  case stationReset => exact ⟨s.stationResetEffect_store.1, .inr (.inl s.stationResetEffect_store.2)⟩
  case deselect => exact ⟨s.deselect_store.1, s.deselect_store.2.imp_right .inl⟩
  case erase => exact ⟨s.erase_store.1, .inr (.inr s.erase_store.2)⟩
  all_goals refine And.imp_right Or.inl ?_
  case unattend => exact s.unattendEffect_store
  case closeComposing =>
    exact ⟨s.closeComposing_cells, s.closeComposing_openStack⟩
  case cellSent x after item e _ _ =>
    have h := State.advanceSend_unrecorded ((s.onTx fun b => { b with inFlight := none, shift := after }).noticeTraffic) e
    rw [State.cells_of_unrecorded h, State.openStack_of_unrecorded h, State.noticeTraffic_store]
    exact ⟨rfl, rfl⟩
  case setParameter => rw [State.changeWorking_store]; exact ⟨rfl, rfl⟩
  case noticeTraffic => rw [State.noticeTraffic_store]; exact ⟨rfl, rfl⟩
  case falseStart => unfold State.falseStartEvent; split <;> exact ⟨rfl, rfl⟩
  case sampleElement => unfold State.sampleElement; split <;> exact ⟨rfl, rfl⟩
  case adoptRate h => unfold State.adoptRate at h; split at h <;> cases h; exact ⟨rfl, rfl⟩
  case adoptLineType h => unfold State.adoptLineType at h; split at h <;> cases h; exact ⟨rfl, rfl⟩
  case answerRequest => unfold State.answerRequest; split <;> exact ⟨rfl, rfl⟩
  case seizeRequest => unfold State.seizeRequest; split <;> exact ⟨rfl, rfl⟩
  case operationDone => unfold State.operationDone; split <;> exact ⟨rfl, rfl⟩
  case callChange p =>
    have h (u : State) (b : Bool) : (if b then u.enterAnswering else u).store = u.store := by
      split <;> rfl
    rw [State.callChange, h]
    exact ⟨rfl, rfl⟩
  case enterConnected =>
    have h (u : State) (b : Bool) : (if b then u.answerbackRequest else u).store = u.store := by
      split
      · unfold State.answerbackRequest
        repeat' split
        all_goals rfl
      · rfl
    simp only [State.enterConnected, State.onTx_store, State.onRx_store, h, State.noticeTraffic_store]
    exact ⟨rfl, rfl⟩
  all_goals exact ⟨rfl, rfl⟩

open State in
theorem Move.cellsCanonical {c : Instr} {s t : State} (h : Move c s t) (hs : s.CellsCanonical) : t.CellsCanonical := by
  obtain h | ⟨h, -⟩ := h.cells_openStack
  · obtain ⟨h, -⟩ | ⟨x, rfl⟩ | ⟨p, n, -, rfl⟩ | rfl | ⟨x, h⟩ | ⟨text, rfl⟩ := h.cells_or_store
    · exact cellsCanonical_of_cells h hs
    · exact hs.lineText x
    · exact cellsCanonical_of_cells (s.heading_store p n).1 hs
    · exact cellsCanonical_of_cells s.endMessage_store.1 hs
    · exact (offerKey_store h).1 hs
    · exact hs.notice text
  · exact cellsCanonical_of_cells h hs

/-- Settles O8: cells are written by appends alone. -/
theorem stepsKeepTheCellsCanonical : Obligations.StepsKeepTheCellsCanonical :=
  Robust.keptByStep
    { pending := fun _ _ => id
      startUp := fun _ _ => Memory.wf_nil
      losePower := fun s hs => by
        refine State.cellsCanonical_of_cells ?_ hs
        unfold State.losePower State.cutCommit
        split <;> rfl
      lineCond := fun _ _ => id
      callInput := fun _ _ => id
      paper := fun _ _ _ => id
      move := fun _ _ _ h => h.cellsCanonical }

/-! ### The stack rises -/

/-- A stack of precedences 0 to 3 that rise strictly toward the top (R47). -/
def Rises (st : List StackEntry) : Prop :=
  st.Pairwise (fun upper lower => lower.precedence < upper.precedence) ∧ ∀ t ∈ st, t.precedence ≤ 3

theorem Rises.nil : Rises [] := ⟨.nil, by simp⟩

theorem Rises.sublist {st st' : List StackEntry} (h : Rises st) (hsub : st'.Sublist st) : Rises st' :=
  ⟨h.1.sublist hsub, fun t ht => h.2 t (hsub.subset ht)⟩

theorem Rises.void {st : List StackEntry} (h : Rises st) : Rises (st.map fun t => { t with entry := none }) :=
  ⟨List.pairwise_map.mpr h.1, by simpa using h.2⟩

/-- What is left of a rising stack where the top is cut from a precedence up lies below it. -/
theorem Rises.dropWhile_lt {st : List StackEntry} (h : Rises st) (p : Nat) :
    ∀ t ∈ st.dropWhile (fun t => decide (p ≤ t.precedence)), t.precedence < p := by
  induction st with
  | nil => simp
  | cons x st ih =>
    obtain ⟨hpair, hall⟩ := h
    obtain ⟨hx, hpair⟩ := List.pairwise_cons.mp hpair
    by_cases hp : p ≤ x.precedence
    · simpa [hp] using ih ⟨hpair, fun t ht => hall t (List.mem_cons_of_mem x ht)⟩
    · simp only [List.dropWhile_cons, hp, decide_false, Bool.false_eq_true, if_false, List.mem_cons]
      rintro t (rfl | ht)
      · omega
      · have := hx t ht
        omega

/-- A heading pushes above what it leaves. -/
theorem Rises.heading {st : List StackEntry} (h : Rises st) {p : Nat} (hp : p ≤ 3) (e : Option Nat) :
    Rises (⟨p, e⟩ :: st.dropWhile fun t => decide (p ≤ t.precedence)) := by
  have hrest := h.sublist (List.dropWhile_sublist fun t => decide (p ≤ t.precedence))
  refine ⟨List.pairwise_cons.mpr ⟨fun t ht => h.dropWhile_lt p t ht, hrest.1⟩, ?_⟩
  simpa [hp] using hrest.2

theorem Move.stackRises {c : Instr} {s t : State} (h : Move c s t) (hs : Rises s.store.openStack) : Rises t.store.openStack := by
  obtain h | ⟨-, h⟩ := h.cells_openStack
  · obtain ⟨-, h⟩ | ⟨x, rfl⟩ | ⟨p, n, hp, rfl⟩ | rfl | ⟨x, h⟩ | ⟨text, rfl⟩ := h.cells_or_store
    · rwa [h]
    · obtain h | ⟨-, e, h⟩ := s.lineText_openStack x
      · rwa [h]
      · rw [h]
        exact ⟨List.pairwise_singleton _ _, by simp⟩
    · obtain ⟨e, h⟩ := (s.heading_store p n).2
      rw [h]
      exact hs.heading hp e
    · rw [s.endMessage_store.2]
      exact hs.sublist (List.tail_sublist _)
    · rwa [(State.offerKey_store h).2]
    · rwa [s.notice_openStack]
  · obtain h | h | h := h
    · rwa [h]
    · rw [h]
      exact .nil
    · rw [h]
      exact hs.void

/-- Settles O9: a heading pushes above what it cuts, and whatever else changes the stack shortens it or makes it VOID. -/
theorem stepsKeepTheStackRising : Obligations.StepsKeepTheStackRising :=
  Robust.keptByStep
    { pending := fun _ _ => id
      startUp := fun _ _ => Rises.nil
      losePower := fun s hs => by
        have h : s.losePower.store = s.store := by
          unfold State.losePower State.cutCommit
          split <;> rfl
        unfold State.StackRises
        rwa [h]
      lineCond := fun _ _ => id
      callInput := fun _ _ => id
      paper := fun _ _ _ => id
      move := fun _ _ _ h => h.stackRises }

end Sys2Proof.Machine
end

section
/-! PROOF. The receiver's figures: the arithmetic of section 2.4 and 2.5 stays in its ranges, and so does what every step makes of the
statistics, the bias estimate, the sample point and the measurements (sections 2.4, 2.5, 2.12); and the carriage on the form (section
4.2). -/

namespace Sys2Proof.Machine

/-! ### Arithmetic of the line -/

theorem clampInt_bounds {lo hi : Int} (h : lo ≤ hi) (x : Int) : lo ≤ clampInt lo hi x ∧ clampInt lo hi x ≤ hi := by
  unfold clampInt
  omega

/-- The sample point lies within 12 ticks of 32 (R24). -/
theorem samplePoint_bounds (comp : Bool) (be : Int) : 20 ≤ samplePoint comp be ∧ samplePoint comp be ≤ 44 := by
  unfold samplePoint
  split
  · have := clampInt_bounds (show (-12 : Int) ≤ 12 by decide) (roundAway be 32)
    omega
  · decide

/-- The bias estimate lies within its limits, whatever is applied (R23). -/
theorem applyBias_bounds (be e : Int) : -512 ≤ applyBias be e ∧ applyBias be e ≤ 511 := clampInt_bounds (by decide) _

theorem updateBias_bounds {be : Int} (h : -512 ≤ be ∧ be ≤ 511) (ts : List Transition) :
    -512 ≤ updateBias be ts ∧ updateBias be ts ≤ 511 := by
  unfold updateBias
  induction ts generalizing be with
  | nil => exact h
  | cons t ts ih => exact ih (applyBias_bounds be t.biasError)

/-- A transition is measured against the nearest boundary (R22). -/
theorem measure_displacement (t : Nat) (space : Bool) :
    -32 ≤ (measure t space).displacement ∧ (measure t space).displacement ≤ 31 := by
  simp only [measure]
  omega

theorem peakDistortion_le {ts : List Transition} {n : Nat} (h : ∀ t ∈ ts, t.displacement.natAbs ≤ n) :
    peakDistortion ts ≤ n := by
  have hfold (m : Nat) (hm : m ≤ n) (ts : List Transition) (h : ∀ t ∈ ts, t.displacement.natAbs ≤ n) :
      ts.foldl (fun p t => max p t.displacement.natAbs) m ≤ n := by
    induction ts generalizing m with
    | nil => exact hm
    | cons t ts ih =>
      exact ih _ (max_le hm (h t List.mem_cons_self)) fun u hu => h u (List.mem_cons_of_mem t hu)
  exact hfold 0 (Nat.zero_le n) ts h

/-! ### Statistics -/

/-- The ranges of the line statistics (R36). -/
def LineStats.Bounded (t : LineStats) : Prop :=
  t.doubtful + t.mutilated ≤ t.characters ∧ t.characters ≤ 65535 ∧ t.peakSum ≤ 32 * t.characters ∧ t.peakMax ≤ 32 ∧
    t.falseStarts ≤ 65535 ∧ t.breaks ≤ 65535

theorem sat16_le {n : Nat} (h : n ≤ 65535) : sat16 n ≤ 65535 := by
  unfold sat16
  split <;> omega

theorem LineStats.Bounded.count {t : LineStats} (h : t.Bounded) (q : Quality) {p : Nat} (hp : p ≤ 32) :
    (t.count q p).Bounded := by
  unfold LineStats.count
  split
  · exact h
  · rename_i hfull
    have hne : t.characters ≠ 65535 := by simpa [full] using hfull
    obtain ⟨h1, h2, h3, h4, h5, h6⟩ := h
    refine ⟨?_, ?_, ?_, max_le h4 hp, h5, h6⟩
    · cases q <;> simp <;> omega
    · show t.characters + 1 ≤ 65535
      omega
    · show t.peakSum + p ≤ 32 * (t.characters + 1)
      omega

theorem LineStats.Bounded.countFalseStart {t : LineStats} (h : t.Bounded) : t.countFalseStart.Bounded := by
  unfold LineStats.countFalseStart
  split
  · exact h
  · obtain ⟨h1, h2, h3, h4, h5, h6⟩ := h
    exact ⟨h1, h2, h3, h4, sat16_le h5, h6⟩

theorem LineStats.Bounded.countBreak {t : LineStats} (h : t.Bounded) : t.countBreak.Bounded := by
  unfold LineStats.countBreak
  split
  · exact h
  · obtain ⟨h1, h2, h3, h4, h5, h6⟩ := h
    exact ⟨h1, h2, h3, h4, h5, sat16_le h6⟩

/-! ### The receiver -/

/-- The ranges of the receiver's figures. -/
structure RxBlock.Bounded (b : RxBlock) : Prop where
  stats : b.stats.Bounded
  bias : -512 ≤ b.be ∧ b.be ≤ 511
  sample : 20 ≤ b.sample ∧ b.sample ≤ 44
  peak : b.peak ≤ 32
  transitions : ∀ t ∈ b.transitions, -32 ≤ t.displacement ∧ t.displacement ≤ 31
  samples : b.samples.length ≤ 5

theorem State.receiverBounded_iff (s : State) : s.ReceiverBounded ↔ s.rx.Bounded := by
  constructor
  · rintro ⟨h1, h2, h3, h4, h5, h6, h7, h8, h9, h10, h11, h12, h13⟩
    exact ⟨⟨h1, h2, h3, h4, h5, h6⟩, ⟨h7, h8⟩, ⟨h9, h10⟩, h11, h12, h13⟩
  · rintro ⟨⟨h1, h2, h3, h4, h5, h6⟩, ⟨h7, h8⟩, ⟨h9, h10⟩, h11, h12, h13⟩
    exact ⟨h1, h2, h3, h4, h5, h6, h7, h8, h9, h10, h11, h12, h13⟩

theorem RxBlock.Bounded.peakDistortion {b : RxBlock} (h : b.Bounded) : peakDistortion b.transitions ≤ 32 :=
  peakDistortion_le fun t ht => by
    have := h.transitions t ht
    omega

/-- The receiver with no character in progress. -/
theorem RxBlock.Bounded.cleared {b : RxBlock} (h : b.Bounded) (st : RxState) :
    RxBlock.Bounded { b with state := st, transitions := [], samples := [] } :=
  ⟨h.stats, h.bias, h.sample, h.peak, by simp, by simp⟩

theorem RxBlock.start_bounded (p : Profile) : (RxBlock.start p).Bounded := by
  constructor <;> simp [start, LineStats.Bounded, LineStats.zero]

namespace State

variable (s : State)

@[simp] theorem changeWorking_rx (p : Profile) : (s.changeWorking p).rx = s.rx := by
  have hnotice (u : State) (q : Prop) [Decidable q] : (if q then u.noticeTraffic else u).rx = u.rx := by
    split <;> simp
  have hfit (u : State) (q : Prop) [Decidable q] : (if q then u.onPrint (PrintBlock.fitForm p) else u).rx = u.rx := by
    split <;> rfl
  simp only [changeWorking, hnotice, hfit]
  rfl

@[simp] theorem closeComposing_rx : s.closeComposing.rx = s.rx :=
  (of_unrecorded State.rx (fun _ => rfl) (closeComposing_unrecorded s)).trans rfl

/-- A station reset leaves the receiver alone. -/
@[simp] theorem stationResetEffect_rx : s.stationResetEffect.rx = s.rx := by
  simp [stationResetEffect, reload, rx_of_outer (teardown_outer _), rx_of_outer (resetPrint_outer _),
    rx_of_outer (resetPunch_outer _), rx_of_outer (resetTx_outer _), setQueue, abortLocalAsm, abortLineAsm]

/-- A leaving of CONNECTED stops the receiver (R19). -/
@[simp] theorem leaveConnected_rx (target : ConnState) :
    (s.leaveConnected target).rx = { s.rx with state := .watching, transitions := [], samples := [] } := by
  simp only [leaveConnected]
  split <;> simp [rx_of_outer (teardown_outer _), rx_of_outer (releaseAll_outer _ _), rx_of_outer (discardSends_outer _), setQueue,
    abortLineAsm]

theorem enterConnected_rx : s.enterConnected.rx = { s.rx with state := .hunting, plane := .letters } := by
  have h (u : State) (b : Bool) : (if b then u.answerbackRequest else u).rx = u.rx := by
    split
    · exact rx_of_outer (answerbackRequest_outer u)
    · rfl
  simp [enterConnected, h]

theorem callChange_rx (present : Bool) : (s.callChange present).rx = s.rx := by
  have h (u : State) (b : Bool) : (if b then u.enterAnswering else u).rx = u.rx := by split <;> rfl
  rw [callChange, h]
  rfl

end State

open State in
theorem Move.receiverBounded {c : Instr} {s t : State} (h : Move c s t) (hs : s.rx.Bounded) : t.rx.Bounded := by
  cases h
  case inner h => rwa [rx_of_outer h.outer]
  case startCharacter => exact ⟨hs.stats, hs.bias, samplePoint_bounds _ _, hs.peak, by simp [State.startCharacter], by simp [State.startCharacter]⟩
  case measured d t _ =>
    refine ⟨hs.stats, hs.bias, hs.sample, hs.peak, fun u hu => ?_, hs.samples⟩
    obtain hu | hu := List.mem_append.mp hu
    · exact hs.transitions u hu
    · rw [List.mem_singleton.mp hu]
      exact measure_displacement t _
  case falseStart =>
    unfold State.falseStartEvent
    split
    · exact ⟨hs.stats.countFalseStart, hs.bias, hs.sample, hs.peak, by simp [State.hunt], by simp [State.hunt]⟩
    · exact hs
  case sampleElement =>
    unfold State.sampleElement
    split
    · rename_i h
      exact ⟨hs.stats, hs.bias, hs.sample, hs.peak, hs.transitions, by simp; omega⟩
    · exact hs
  case received q p be _ hp hbe =>
    have hp : p ≤ 32 := by
      obtain rfl | rfl := hp
      · exact hs.peak
      · exact hs.peakDistortion
    have hbe : -512 ≤ be ∧ be ≤ 511 := by
      obtain rfl | rfl := hbe
      · exact hs.bias
      · exact updateBias_bounds hs.bias _
    exact ⟨hs.stats.count q hp, hbe, hs.sample, hs.peak, by simp [State.received], by simp [State.received]⟩
  case holdCandidate =>
    exact ⟨hs.stats, updateBias_bounds hs.bias _, hs.sample, hs.peakDistortion, by simp [State.holdCandidate],
      by simp [State.holdCandidate]⟩
  case setPlane => exact ⟨hs.stats, hs.bias, hs.sample, hs.peak, hs.transitions, hs.samples⟩
  case hunt => exact hs.cleared .hunting
  case spacing => exact ⟨hs.stats.countBreak, hs.bias, hs.sample, hs.peak, hs.transitions, hs.samples⟩
  case clearStats =>
    exact ⟨by simp [LineStats.Bounded, LineStats.zero], hs.bias, hs.sample, hs.peak, hs.transitions, hs.samples⟩
  case adoptRate h =>
    unfold State.adoptRate at h
    split at h <;> cases h
    exact ⟨hs.stats, by simp, hs.sample, hs.peak, hs.transitions, hs.samples⟩
  case adoptLineType h =>
    unfold State.adoptLineType at h
    split at h <;> cases h
    exact hs
  case noticeTraffic => simpa using hs
  case enterClearing =>
    unfold State.enterClearing
    dsimp only
    split
    · simpa using hs.cleared .watching
    · exact hs
  case enterLost => simpa [State.enterLost] using hs.cleared .watching
  case enterConnected =>
    rw [enterConnected_rx]
    exact ⟨hs.stats, hs.bias, hs.sample, hs.peak, hs.transitions, hs.samples⟩
  case answerRequest => unfold State.answerRequest; split <;> exact hs
  case seizeRequest => unfold State.seizeRequest; split <;> exact hs
  case callChange p => rwa [callChange_rx]
  case stationReset => simpa using hs
  case deselect =>
    unfold State.deselect
    split
    · rwa [rx_of_outer (teardown_outer _)]
    · exact hs
  case unattend => exact (closeComposing_rx (s.setAttended false)).symm ▸ hs
  case setParameter => simpa using hs
  case closeComposing => simpa using hs
  case erase =>
    simp only [State.erase]
    rw [rx_of_outer (forRecords_outer _ _ fun s e => deleteRecord_outer s e), closeComposing_rx,
      rx_of_outer (setStack_outer _ _), rx_of_outer (foldl_outer s _ (fun s e => closeEntry_outer s e) _)]
    exact hs
  case cellSent x after item e _ _ =>
    rw [rx_of_outer (advanceSend_outer _ e), noticeTraffic_rx]
    exact hs
  case operationDone => rwa [rx_of_outer s.operationDone_outer]
  all_goals exact hs

/-- Settles O12: each move of the receiver by the lemma about its arithmetic. -/
theorem stepsKeepTheReceiverBounded : Obligations.StepsKeepTheReceiverBounded := by
  have h : Robust fun s => s.rx.Bounded :=
    { pending := fun _ _ => id
      startUp := fun s _ => RxBlock.start_bounded s.startUp.working
      losePower := fun s hs => by
        have h : s.losePower.rx = s.rx := by
          unfold State.losePower State.cutCommit
          split <;> rfl
        rwa [h]
      lineCond := fun _ _ => id
      callInput := fun _ _ => id
      paper := fun _ _ _ => id
      move := fun _ _ _ h => h.receiverBounded }
  intro s t hs hstep
  exact t.receiverBounded_iff.mpr (h.keptByStep s t (s.receiverBounded_iff.mp hs) hstep)

/-! ### The carriage -/

/-- The column and the page line lie on a form of a line length and a form length (R71). -/
structure OnForm (L F col line : Nat) : Prop where
  column : 1 ≤ col ∧ col ≤ L + 1
  pageLine : 1 ≤ line
  form : 0 < F → line ≤ F
  noForm : F = 0 → line = 1

namespace State

theorem carriageOnForm_iff (s : State) :
    s.CarriageOnForm ↔ OnForm s.working.lineLength s.working.formLength s.print.column s.print.pageLine :=
  ⟨fun ⟨h1, h2, h3, h4, h5⟩ => ⟨⟨h1, h2⟩, h3, h4, h5⟩, fun ⟨⟨h1, h2⟩, h3, h4, h5⟩ => ⟨h1, h2, h3, h4, h5⟩⟩

/-- The carriage and the lengths that it must fit. -/
def carriage (s : State) : Nat × Nat × Nat × Nat :=
  (s.working.lineLength, s.working.formLength, s.print.column, s.print.pageLine)

theorem carriageOnForm_of_carriage {s t : State} (h : t.carriage = s.carriage) (hs : s.CarriageOnForm) : t.CarriageOnForm := by
  rw [carriageOnForm_iff] at hs ⊢
  simp only [carriage, Prod.mk.injEq] at h
  obtain ⟨h1, h2, h3, h4⟩ := h
  rwa [h1, h2, h3, h4]

end State

/-- Any carriage with a column of at least 1 is put on the form by a change of the lengths (R73). -/
theorem PrintBlock.fitForm_onForm {b : PrintBlock} (hc : 1 ≤ b.column) (hl : 1 ≤ b.pageLine) (p : Profile) :
    OnForm p.lineLength p.formLength (b.fitForm p).column (b.fitForm p).pageLine := by
  simp only [fitForm]
  refine ⟨by omega, ?_, ?_, ?_⟩ <;> split <;> omega

theorem OnForm.advance {L F col line : Nat} (h : OnForm L F col line) : OnForm L F (min (col + 1) (L + 1)) line :=
  ⟨by have := h.column; omega, h.pageLine, h.form, h.noForm⟩

theorem OnForm.return {L F col line : Nat} (h : OnForm L F col line) : OnForm L F 1 line :=
  ⟨by omega, h.pageLine, h.form, h.noForm⟩

theorem OnForm.feed {L F col line : Nat} (h : OnForm L F col line) : OnForm L F col (nextPageLine F line) := by
  obtain ⟨h1, h2, h3, h4⟩ := h
  unfold nextPageLine
  refine ⟨h1, ?_, ?_, ?_⟩ <;> split <;> (try split) <;> omega

/-- An operation's effect leaves the carriage on the form (R67, R72). -/
theorem PrintBlock.complete_onForm {p : Profile} {b : PrintBlock}
    (h : OnForm p.lineLength p.formLength b.column b.pageLine) (op : PrinterOp) :
    OnForm p.lineLength p.formLength (b.complete p op).column (b.complete p op).pageLine := by
  unfold complete
  split
  · unfold marginBell
    split <;> exact h.advance
  · exact h
  · exact h.advance
  · exact h.return
  · exact h.feed
  · exact h

namespace State

variable (s : State)

/-- A change of the working copy puts the carriage on its form, where the lengths change (R73). -/
theorem CarriageOnForm.changeWorking {s : State} (hs : s.CarriageOnForm) (p : Profile) :
    (s.changeWorking p).CarriageOnForm := by
  rw [carriageOnForm_iff] at hs ⊢
  have hnotice (u : State) (q : Prop) [Decidable q] : (if q then u.noticeTraffic else u).print = u.print := by
    split
    · unfold noticeTraffic
      split <;> rfl
    · rfl
  have hworking : (s.changeWorking p).working = p := by rw [working, changeWorking_profile]
  have hprint : (s.changeWorking p).print =
      if p.lineLength ≠ s.working.lineLength ∨ p.formLength ≠ s.working.formLength then s.print.fitForm p else s.print := by
    simp only [State.changeWorking, hnotice]
    split <;> rfl
  rw [hworking, hprint]
  split
  · exact PrintBlock.fitForm_onForm hs.column.1 hs.pageLine p
  · rename_i h
    simp only [ne_eq, not_or, Decidable.not_not] at h
    rwa [h.1, h.2]

@[simp] theorem closeComposing_carriage : s.closeComposing.carriage = s.carriage :=
  (of_unrecorded carriage (fun _ => rfl) (closeComposing_unrecorded s)).trans rfl

@[simp] theorem teardown_carriage : s.teardown.carriage = s.carriage := of_offStore carriage (fun _ => rfl) (teardown_offStore s)

@[simp] theorem resetPrint_carriage : s.resetPrint.carriage = s.carriage :=
  of_offPrint carriage (fun _ => rfl) (resetPrint_offPrint s)
@[simp] theorem resetPunch_carriage : s.resetPunch.carriage = s.carriage :=
  of_offPunch carriage (fun _ => rfl) (resetPunch_offPunch s)
@[simp] theorem resetTx_carriage : s.resetTx.carriage = s.carriage := of_offTx carriage (fun _ => rfl) (resetTx_offTx s)
@[simp] theorem discardSends_carriage : s.discardSends.carriage = s.carriage :=
  of_offTx carriage (fun _ => rfl) (discardSends_offTx s)
@[simp] theorem releaseAll_carriage (src : PunchSource) : (s.releaseAll src).carriage = s.carriage :=
  of_offPunch carriage (fun _ => rfl) (releaseAll_offPunch s src)
@[simp] theorem onConn_carriage (f : ConnBlock → ConnBlock) : (s.onConn f).carriage = s.carriage := rfl
@[simp] theorem onKb_carriage (f : KbBlock → KbBlock) : (s.onKb f).carriage = s.carriage := rfl
@[simp] theorem onRx_carriage (f : RxBlock → RxBlock) : (s.onRx f).carriage = s.carriage := rfl
@[simp] theorem onTx_carriage (f : TxBlock → TxBlock) : (s.onTx f).carriage = s.carriage := rfl
@[simp] theorem onDir_carriage (f : DirBlock → DirBlock) : (s.onDir f).carriage = s.carriage := rfl
@[simp] theorem onStore_carriage (f : StoreBlock → StoreBlock) : (s.onStore f).carriage = s.carriage := rfl
@[simp] theorem onAccess_carriage (f : AccessBlock → AccessBlock) : (s.onAccess f).carriage = s.carriage := rfl
@[simp] theorem noticeTraffic_carriage : s.noticeTraffic.carriage = s.carriage := by
  unfold noticeTraffic
  split <;> rfl

theorem CarriageOnForm.stationReset {s : State} (hs : s.CarriageOnForm) : s.stationResetEffect.CarriageOnForm := by
  have hreload (u : State) (hu : u.CarriageOnForm) : u.reload.CarriageOnForm :=
    CarriageOnForm.changeWorking (s := u.onProfile fun b => { b with fault := !b.image.passes }) hu _
  refine hreload _ (carriageOnForm_of_carriage ?_ hs)
  simp [setQueue, abortLocalAsm, abortLineAsm]

theorem CarriageOnForm.leaveConnected {s : State} (hs : s.CarriageOnForm) (target : ConnState) :
    (s.leaveConnected target).CarriageOnForm := by
  have h (b : Bool) (u : State) (hu : u.CarriageOnForm) : (if b then u.stationResetEffect else u).CarriageOnForm := by
    split
    · exact hu.stationReset
    · exact hu
  refine h _ _ (carriageOnForm_of_carriage ?_ hs)
  simp [setQueue, abortLineAsm]

end State

/-- The operations of the store, the printer, the punch and the transmitter leave the carriage alone, but a completion. -/
theorem Inner.carriage {s t : State} (h : Inner s t) : t.carriage = s.carriage := by
  have hstore (h : t.offStore = s.offStore) : t.carriage = s.carriage := State.of_offStore State.carriage (fun _ => rfl) h
  have hpunch (h : t.offPunch = s.offPunch) : t.carriage = s.carriage := State.of_offPunch State.carriage (fun _ => rfl) h
  have hprint (h : t.offPrint = s.offPrint) : t.carriage = s.carriage := State.of_offPrint State.carriage (fun _ => rfl) h
  have htx (h : t.offTx = s.offTx) : t.carriage = s.carriage := State.of_offTx State.carriage (fun _ => rfl) h
  cases h
  case lineText x => exact hstore (by simp)
  case heading p n _ => exact hstore (by simp)
  case endMessage => exact hstore (by simp)
  case offerKey _ _ h => exact hstore (State.offerKey_offStore h)
  case notice => exact hstore (by simp)
  case printSwitch => exact hstore (by simp)
  case requestDelete e _ => exact State.of_offMechanisms State.carriage (fun _ => rfl) (s.requestDelete_offMechanisms e)
  case requestRetrieval e _ => exact htx (by simp)
  case printStep h => exact hprint (State.printStep_offPrint h)
  case operationFault => exact hprint (by simp)
  case clearPrintFault => exact hprint (by simp)
  case feedRequest h => exact hpunch (State.feedRequest_offPunch h)
  case newTapeRequest h => exact hpunch (State.newTapeRequest_offPunch h)
  case punchStep h => exact hpunch (State.punchStep_offPunch h)
  case tx f _ => rfl
  case sendCell item e hitem _ _ => exact htx (State.sendCell_offTx s (hitem.imp (·.1) (·.1)))
  case settleItems _ h => exact htx (State.settleItems_offTx h)
  case endRetrieval => exact htx (by simp)
  case endKeyboardText => exact htx (by simp)
  case discardSends => exact htx (by simp)
  all_goals exact hpunch (by simp)

open State in
theorem Move.carriageOnForm {c : Instr} {s t : State} (h : Move c s t) (hs : s.CarriageOnForm) : t.CarriageOnForm := by
  have hof (h : t.carriage = s.carriage) : t.CarriageOnForm := carriageOnForm_of_carriage h hs
  cases h
  case inner h => exact hof h.carriage
  case falseStart => unfold State.falseStartEvent; split <;> exact hs
  case sampleElement => unfold State.sampleElement; split <;> exact hs
  case adoptRate h => unfold State.adoptRate at h; split at h <;> cases h; exact hs
  case adoptLineType h => unfold State.adoptLineType at h; split at h <;> cases h; exact hs
  case noticeTraffic => exact hof s.noticeTraffic_carriage
  case enterClearing =>
    unfold State.enterClearing
    dsimp only
    split
    · exact hs.leaveConnected .clearing
    · exact hs
  case enterLost => exact hs.leaveConnected .lost
  case enterConnected =>
    have h (u : State) (b : Bool) : (if b then u.answerbackRequest else u).carriage = u.carriage := by
      split
      · unfold answerbackRequest
        repeat' split
        all_goals rfl
      · rfl
    exact hof (by simp [State.enterConnected, h])
  case answerRequest => unfold State.answerRequest; split <;> exact hs
  case seizeRequest => unfold State.seizeRequest; split <;> exact hs
  case callChange p =>
    have h (u : State) (b : Bool) (hu : u.CarriageOnForm) : (if b then u.enterAnswering else u).CarriageOnForm := by
      split <;> exact hu
    exact h _ _ hs
  case stationReset => exact hs.stationReset
  case deselect =>
    unfold State.deselect
    split
    · exact carriageOnForm_of_carriage (by simp) hs
    · exact hs
  case unattend => exact hof (closeComposing_carriage (s.setAttended false))
  case setAccessNumber w n _ =>
    refine hof ?_
    show (Profile.lineLength (if w = 1 then _ else _), Profile.formLength (if w = 1 then _ else _), _, _) = _
    split <;> rfl
  case setParameter n v hn p set h => exact hs.changeWorking p
  case load vs p h =>
    have hpar (n : Nat) : p.par n = s.working.par n := by rw [Profile.par, Profile.par, Profile.load_params h]
    refine hof ?_
    show (p.par 13, p.par 16, _, _) = (s.working.par 13, s.working.par 16, _, _)
    rw [hpar, hpar]
    rfl
  case closeComposing => exact hof (by simp)
  case erase =>
    refine hof ?_
    have hdelete (u : State) : (u.forRecords deleteRecord).carriage = u.carriage :=
      of_offMechanisms carriage (fun _ => rfl) (foldl_frame u offMechanisms _ (fun v e => deleteRecord_offMechanisms v e) _)
    have hfold : (s.store.openStack.foldl closeEntry s).carriage = s.carriage :=
      foldl_frame s State.carriage _ (fun u t => of_unrecorded State.carriage (fun _ => rfl) (closeEntry_unrecorded u t)) _
    simp only [State.erase, hdelete, closeComposing_carriage]
    exact hfold
  case cellSent x after item e _ _ =>
    refine hof ?_
    rw [of_unrecorded State.carriage (fun _ => rfl) (advanceSend_unrecorded _ e), noticeTraffic_carriage]
    rfl
  case operationDone =>
    unfold State.operationDone
    split
    · exact hs
    · rw [carriageOnForm_iff] at hs ⊢
      exact PrintBlock.complete_onForm (b := { s.print with inFlight := none, faultTimer := none }) hs _
  all_goals exact hs

/-- Settles O13: a completed operation, a change of the lengths and a start-up leave the carriage on the form, and nothing else moves
it. -/
theorem stepsKeepTheCarriageOnTheForm : Obligations.StepsKeepTheCarriageOnTheForm :=
  Robust.keptByStep
    { pending := fun _ _ => id
      startUp := fun s _ => by
        refine (State.carriageOnForm_iff _).mpr ⟨?_, ?_, ?_, ?_⟩
        · exact ⟨Nat.le_refl 1, Nat.le_add_left 1 _⟩
        · exact Nat.le_refl 1
        · exact fun h => h
        · exact fun _ => rfl
      losePower := fun s hs => by
        unfold State.losePower State.cutCommit
        split <;> exact hs
      lineCond := fun _ _ => id
      callInput := fun _ _ => id
      paper := fun _ _ _ => id
      move := fun _ _ _ h => h.carriageOnForm }

end Sys2Proof.Machine
end

section
/-! PROOF. The connection: what the composed operations make of it and of the open states, and that every step keeps its timers, LOOP,
the selection and the open states in agreement with its state (Chapter 8). -/

namespace Sys2Proof.Machine
namespace State

variable (s : State)

/-! ### The connection and the open states under composed operations -/

@[simp] theorem closeComposing_conn : s.closeComposing.conn = s.conn :=
  (of_unrecorded State.conn (fun _ => rfl) (closeComposing_unrecorded s)).trans rfl
@[simp] theorem closeComposing_access : s.closeComposing.access = s.access :=
  (of_unrecorded State.access (fun _ => rfl) (closeComposing_unrecorded s)).trans rfl
@[simp] theorem noticeTraffic_access : s.noticeTraffic.access = s.access := by
  unfold noticeTraffic
  split <;> rfl
@[simp] theorem noticeTraffic_working : s.noticeTraffic.working = s.working := by rw [working, noticeTraffic_profile]; rfl

/-- A notice of traffic restarts the line idle timer while CONNECTED on a switched line, and changes nothing else (R151). -/
theorem noticeTraffic_conn :
    s.noticeTraffic.conn =
      { s.conn with lineIdle := if s.idleTimed then secondsTimer s.working.lineIdleS else s.conn.lineIdle } := by
  unfold noticeTraffic
  split <;> rfl

@[simp] theorem changeWorking_access (p : Profile) : (s.changeWorking p).access = s.access := by
  have hnotice (u : State) (q : Prop) [Decidable q] : (if q then u.noticeTraffic else u).access = u.access := by
    split <;> simp
  have hfit (u : State) (q : Prop) [Decidable q] : (if q then u.onPrint (PrintBlock.fitForm p) else u).access = u.access := by
    split <;> rfl
  simp only [changeWorking, hnotice, hfit]
  rfl

/-- A change of the working copy restarts the line idle timer where parameter 11 changes and the timer runs by it (R151). -/
theorem changeWorking_conn (p : Profile) :
    (s.changeWorking p).conn =
      { s.conn with
        lineIdle := if p.lineIdleS ≠ s.working.lineIdleS ∧ s.idleTimed = true then secondsTimer p.lineIdleS
          else s.conn.lineIdle } := by
  have hfit (u : State) (hu : u.conn = s.conn ∧ u.working = p) :
      (if p.lineIdleS ≠ s.working.lineIdleS then u.noticeTraffic else u).conn =
      { s.conn with
        lineIdle := if p.lineIdleS ≠ s.working.lineIdleS ∧ s.idleTimed = true then secondsTimer p.lineIdleS
          else s.conn.lineIdle } := by
    have hidle : u.idleTimed = s.idleTimed := by simp only [idleTimed, isConnected, hu.1]
    split
    · rename_i h
      rw [noticeTraffic_conn, hu.1, hu.2, hidle]
      simp [h]
    · rename_i h
      simp [h, hu.1]
  refine hfit _ ?_
  split <;> exact ⟨rfl, rfl⟩

/-- A station reset clears the selected flag, and its reload may restart the line idle timer. -/
theorem stationResetEffect_conn :
    s.stationResetEffect.conn =
      { s.conn with
        selected := false
        lineIdle := if s.profile.image.loaded.lineIdleS ≠ s.working.lineIdleS ∧ s.idleTimed = true then
          secondsTimer s.profile.image.loaded.lineIdleS else s.conn.lineIdle } := by
  have h (u : State) (hc : u.conn = { s.conn with selected := false }) (hp : u.profile = s.profile) :
      u.reload.conn =
        { s.conn with
          selected := false
          lineIdle := if s.profile.image.loaded.lineIdleS ≠ s.working.lineIdleS ∧ s.idleTimed = true then
            secondsTimer s.profile.image.loaded.lineIdleS else s.conn.lineIdle } := by
    have hidle : u.idleTimed = s.idleTimed := by simp only [idleTimed, isConnected, hc]
    have hwork : u.working = s.working := by rw [working, hp]; rfl
    rw [reload, changeWorking_conn]
    simp only [onProfile_conn, hc, hp]
    rw [show (u.onProfile fun b => { b with fault := !b.image.passes }).working = u.working from rfl, hwork,
      show (u.onProfile fun b => { b with fault := !b.image.passes }).idleTimed = u.idleTimed from rfl, hidle]
  refine h _ ?_ ?_
  · simp [conn_of_outer (teardown_outer _), conn_of_outer (resetPrint_outer _), conn_of_outer (resetPunch_outer _),
      conn_of_outer (resetTx_outer _), setQueue, abortLocalAsm, abortLineAsm]
  · simp [profile_of_outer (teardown_outer _), profile_of_outer (resetPrint_outer _), profile_of_outer (resetPunch_outer _),
      profile_of_outer (resetTx_outer _), setQueue, abortLocalAsm, abortLineAsm]

/-- A station reset closes both open states (R186). -/
theorem stationResetEffect_access :
    s.stationResetEffect.access = { s.access with lineOpen := .closed, localOpen := .closed } := by
  simp [stationResetEffect, reload, access_of_outer (teardown_outer _), access_of_outer (resetPrint_outer _),
    access_of_outer (resetPunch_outer _), access_of_outer (resetTx_outer _), setQueue, abortLocalAsm, abortLineAsm]

/-- The connection after a leaving of CONNECTED (R155). -/
theorem leaveConnected_conn {target : ConnState} (ht : target ≠ .connected) :
    (s.leaveConnected target).conn =
      { s.conn with state := target, selected := false, sustainedSpace := none, lineIdle := none } := by
  have h (b : Bool) (u : State)
      (hu : u.conn = { s.conn with state := target, selected := false, sustainedSpace := none, lineIdle := none }) :
      (if b then u.stationResetEffect else u).conn =
        { s.conn with state := target, selected := false, sustainedSpace := none, lineIdle := none } := by
    split
    · have hidle : u.idleTimed = false := by simp [idleTimed, isConnected, hu, ht]
      rw [stationResetEffect_conn, hidle, hu]
      simp
    · exact hu
  refine h _ _ ?_
  simp [conn_of_outer (teardown_outer _), conn_of_outer (releaseAll_outer _ _), conn_of_outer (discardSends_outer _), setQueue,
    abortLineAsm]

/-- A leaving of CONNECTED closes the line open state, and the local one with a deferred station reset (R179). -/
theorem leaveConnected_access (target : ConnState) :
    (s.leaveConnected target).access = { s.access with lineOpen := .closed } ∨
      (s.leaveConnected target).access = { s.access with lineOpen := .closed, localOpen := .closed } := by
  simp only [leaveConnected]
  split
  · right
    simp [stationResetEffect_access, access_of_outer (teardown_outer _), access_of_outer (releaseAll_outer _ _),
      access_of_outer (discardSends_outer _), setQueue, abortLineAsm]
  · left
    simp [access_of_outer (teardown_outer _), access_of_outer (releaseAll_outer _ _), access_of_outer (discardSends_outer _),
      setQueue, abortLineAsm]

/-- The connection after an entry to CLEARING (R153, R155). -/
theorem enterClearing_conn :
    s.enterClearing.conn = { s.conn.cleared with selected := if s.isConnected then false else s.conn.selected } := by
  unfold enterClearing
  dsimp only
  split
  · rw [onConn_conn, leaveConnected_conn s (by decide)]
    rfl
  · rfl

theorem enterConnected_access : s.enterConnected.access = s.access := by
  have h (u : State) (b : Bool) : (if b then u.answerbackRequest else u).access = u.access := by
    split
    · exact access_of_outer (answerbackRequest_outer u)
    · rfl
  simp [enterConnected, h]

/-- The connection after an entry to CONNECTED (R149). -/
theorem enterConnected_conn :
    s.enterConnected.conn =
      { s.conn with
        state := .connected, stableMark := none, answerTimer := none, callTimer := none, sustainedSpace := none
        callAnswerable := false, selected := s.conn.selected || s.working.selectOnConnect
        lineIdle := if s.conn.lineType = .switched then secondsTimer s.working.lineIdleS else s.conn.lineIdle } := by
  have h (u : State) (b : Bool) : (if b then u.answerbackRequest else u).conn = u.conn := by
    split
    · exact conn_of_outer (answerbackRequest_outer u)
    · rfl
  simp [enterConnected, h, noticeTraffic_conn, idleTimed, isConnected]

theorem callChange_access (present : Bool) : (s.callChange present).access = s.access := by
  have h (u : State) (b : Bool) : (if b then u.enterAnswering else u).access = u.access := by split <;> rfl
  rw [callChange, h]
  rfl

/-! ### Coherence -/

/-- The connection, the receiver's state and the open states agree (R19, R144 to R155, R179). -/
structure Coherent (c : ConnBlock) (rx : RxState) (lineOpen localOpen : OpenState) : Prop where
  clearingSpace : c.clearingSpace = true ↔ c.state = .clearing
  clearingTimer : c.clearingTimer.isSome = true ↔ c.state = .clearing
  answerTimer : c.answerTimer.isSome = true ↔ c.state = .answering
  callTimer : c.callTimer.isSome = true ↔ c.state = .calling
  switched : c.state = .answering ∨ c.state = .calling ∨ c.state = .clearing → c.lineType = .switched
  permanent : c.state = .lost → c.lineType = .permanent
  loop : c.loop = true ↔ c.lineType = .switched ∧ c.state ≠ .idle
  selected : c.selected = true → c.state = .connected
  sustainedSpace : c.sustainedSpace.isSome = true → c.state = .connected
  lineIdle : c.lineIdle.isSome = true → c.state = .connected ∧ c.lineType = .switched
  stableMark : c.stableMark.isSome = true → timesMark c = true
  callAnswerable : c.callAnswerable = true → c.state = .idle ∧ c.lineType = .switched
  watching : rx = .watching ↔ c.state ≠ .connected
  lineOpen : lineOpen ≠ .closed → c.state = .connected
  localOpen : localOpen ≠ .closed → c.attended = true

theorem connectionCoherent_iff : s.ConnectionCoherent ↔ Coherent s.conn s.rx.state s.access.lineOpen s.access.localOpen :=
  ⟨fun ⟨h1, h2, h3, h4, h5, h6, h7, h8, h9, h10, h11, h12, h13, h14, h15⟩ =>
      ⟨h1, h2, h3, h4, h5, h6, h7, h8, h9, h10, h11, h12, h13, h14, h15⟩,
    fun ⟨h1, h2, h3, h4, h5, h6, h7, h8, h9, h10, h11, h12, h13, h14, h15⟩ =>
      ⟨h1, h2, h3, h4, h5, h6, h7, h8, h9, h10, h11, h12, h13, h14, h15⟩⟩

/-- Stable mark is timed in four pairs of a line type and a state (R146). -/
theorem timesMark_iff (c : ConnBlock) :
    timesMark c = true ↔
      (c.lineType = .switched ∧ (c.state = .answering ∨ c.state = .calling)) ∨
        (c.lineType = .permanent ∧ (c.state = .idle ∨ c.state = .lost)) := by
  unfold timesMark
  cases c.lineType <;> cases c.state <;> simp

variable {c : ConnBlock} {rx : RxState} {lo loc : OpenState}

/-- The receiver's state changed between two in which it does not watch. -/
theorem Coherent.receiver (h : Coherent c rx lo loc) {rx' : RxState} (hrx : rx ≠ .watching) (hrx' : rx' ≠ .watching) :
    Coherent c rx' lo loc :=
  { h with watching := by have := h.watching; tauto }

/-- The line is CONNECTED where the receiver does not watch. -/
theorem Coherent.connected (h : Coherent c rx lo loc) (hrx : rx ≠ .watching) : c.state = .connected := by
  by_contra hne
  exact hrx (h.watching.mpr hne)

/-- A change of open states that leaves them closed, or open where they may be. -/
theorem Coherent.opens (h : Coherent c rx lo loc) {lo' loc' : OpenState} (hl : lo' ≠ .closed → c.state = .connected)
    (hk : loc' ≠ .closed → c.attended = true) : Coherent c rx lo' loc' := { h with lineOpen := hl, localOpen := hk }

/-- Entry to CLEARING from a state in which LOOP is asserted: the selection, the receiver and the open states as a leaving of
CONNECTED, if there is one, leaves them. -/
theorem Coherent.cleared (h : Coherent c rx lo loc) (hl : c.loop = true) {loc' : OpenState}
    (hloc : loc' ≠ .closed → loc ≠ .closed) : Coherent { c.cleared with selected := false } .watching .closed loc' := by
  obtain ⟨hsw, hidle⟩ := h.loop.mp hl
  have hatt : loc' ≠ .closed → c.attended = true := fun hne => h.localOpen (hloc hne)
  have hcan : c.callAnswerable = false := Bool.eq_false_iff.mpr fun hc => hidle (h.callAnswerable hc).1
  constructor <;> simp_all [ConnBlock.cleared]

/-- LOOP is asserted where a command may enter CLEARING. -/
theorem Coherent.loop_of_clearing (h : Coherent c rx lo loc)
    (hc : (c.lineType = .switched ∧ (c.state ≠ .idle ∨ c.sustainedSpace.isSome = true)) ∨
      c.answerTimer.isSome = true ∨ c.callTimer.isSome = true ∨ c.lineIdle.isSome = true) : c.loop = true := by
  rw [h.loop]
  obtain ⟨hsw, hstate | hspace⟩ | hans | hcall | hidle := hc
  · exact ⟨hsw, hstate⟩
  · exact ⟨hsw, by rw [h.sustainedSpace hspace]; decide⟩
  · have := h.answerTimer.mp hans
    exact ⟨h.switched (.inl this), by rw [this]; decide⟩
  · have := h.callTimer.mp hcall
    exact ⟨h.switched (.inr (.inl this)), by rw [this]; decide⟩
  · obtain ⟨hst, hsw⟩ := h.lineIdle hidle
    exact ⟨hsw, by rw [hst]; decide⟩

/-- Entry to LOST from CONNECTED on a permanent line. -/
theorem Coherent.lost (h : Coherent c rx lo loc) (hst : c.state = .connected) (hty : c.lineType = .permanent) {loc' : OpenState}
    (hloc : loc' ≠ .closed → loc ≠ .closed) :
    Coherent
      { c with state := .lost, selected := false, sustainedSpace := none, lineIdle := none, stableMark := markTimer c }
      .watching .closed loc' := by
  have hatt : loc' ≠ .closed → c.attended = true := fun hne => h.localOpen (hloc hne)
  have hloop := h.loop
  have hspace := h.clearingSpace
  have htimer := h.clearingTimer
  have hanswer := h.answerTimer
  have hcall := h.callTimer
  have hcan := h.callAnswerable
  constructor <;> simp_all [timesMark_iff]

/-- Entry to CONNECTED where stable mark was timed. -/
theorem Coherent.entered (h : Coherent c rx lo loc) (hmark : c.stableMark.isSome = true) (sel : Bool) (idle : Option Nat) :
    Coherent
      { c with
        state := .connected, stableMark := none, answerTimer := none, callTimer := none, sustainedSpace := none
        callAnswerable := false, selected := sel, lineIdle := if c.lineType = .switched then idle else c.lineIdle }
      .hunting lo loc := by
  have hidle := h.lineIdle
  have hloop := h.loop
  have hspace := h.clearingSpace
  have htimer := h.clearingTimer
  have hatt := h.localOpen
  obtain ⟨hty, hst | hst⟩ | ⟨hty, hst | hst⟩ := (timesMark_iff c).mp (h.stableMark hmark)
  all_goals constructor <;> simp_all

/-- The connection to be answered or seized, on a switched line in IDLE. -/
theorem Coherent.called (h : Coherent c rx lo loc) (hst : c.state = .idle) (hty : c.lineType = .switched) :
    Coherent { c with
      state := .answering, loop := true, callAnswerable := false, answerTimer := some 10000, stableMark := markTimer c } rx lo loc ∧
    Coherent { c with
      state := .calling, loop := true, callAnswerable := false, callTimer := some 60000, stableMark := markTimer c } rx lo loc := by
  obtain ⟨h1, h2, h3, h4, -, -, -, h8, h9, h10, -, -, h13, h14, h15⟩ := h
  constructor <;> constructor <;> simp_all [timesMark_iff]

theorem Coherent.conditionChange (h : Coherent c rx lo loc) (d : LineCond) (n : Nat) :
    Coherent
      (let c' := { c with lineCond := d }
      if timesMark c then { c' with stableMark := markTimer c' }
      else if c.state = .connected then { c' with sustainedSpace := if d = .space then some n else none }
      else c') rx lo loc := by
  obtain ⟨h1, h2, h3, h4, h5, h6, h7, h8, h9, h10, h11, h12, h13, h14, h15⟩ := h
  dsimp only
  split
  · rename_i hm
    exact ⟨h1, h2, h3, h4, h5, h6, h7, h8, h9, h10, fun _ => hm, h12, h13, h14, h15⟩
  · split
    · rename_i hc
      exact ⟨h1, h2, h3, h4, h5, h6, h7, h8, fun _ => hc, h10, h11, h12, h13, h14, h15⟩
    · exact ⟨h1, h2, h3, h4, h5, h6, h7, h8, h9, h10, h11, h12, h13, h14, h15⟩

/-- The line idle timer restarted where it runs. -/
theorem Coherent.restartIdle (h : Coherent c rx lo loc) {idle : Option Nat}
    (hi : idle.isSome = true → (c.state = .connected ∧ c.lineType = .switched) ∨ idle = c.lineIdle) :
    Coherent { c with lineIdle := idle } rx lo loc :=
  { h with lineIdle := fun hsome => (hi hsome).elim id fun heq => h.lineIdle (heq ▸ hsome) }

theorem Coherent.deselected (h : Coherent c rx lo loc) : Coherent { c with selected := false } rx lo loc :=
  { h with selected := fun hf => by cases hf }

/-- The adoption of a line type, in IDLE or LOST (R145). -/
theorem Coherent.adopted (h : Coherent c rx lo loc) (hst : c.state = .idle ∨ c.state = .lost) (ty : LineType) :
    Coherent { c with
      state := .idle, lineType := ty, callAnswerable := false
      stableMark := if ty = .permanent then markTimer c else none } rx lo loc := by
  obtain ⟨h1, h2, h3, h4, h5, h6, h7, h8, h9, h10, h11, h12, h13, h14, h15⟩ := h
  have hmark : (if ty = .permanent then markTimer c else none).isSome = true → ty = .permanent := by
    split <;> simp_all
  obtain hst | hst := hst
  all_goals
    constructor
    case stableMark => exact fun hm => (timesMark_iff _).mpr (.inr ⟨hmark hm, .inl rfl⟩)
    all_goals simp_all

theorem Coherent.ended (h : Coherent c rx lo loc) (hst : c.state = .clearing) :
    Coherent { c with state := .idle, clearingSpace := false, clearingTimer := none, loop := false } rx lo loc := by
  obtain ⟨h1, h2, h3, h4, h5, h6, h7, h8, h9, h10, h11, h12, h13, h14, h15⟩ := h
  constructor <;> simp_all [timesMark_iff]

/-- A start-up's connection (R144). -/
theorem coherent_start (p : Profile) (cond : LineCond) (callInput : Bool) :
    Coherent (.start p cond callInput) .watching .closed .closed := by
  constructor <;> simp [ConnBlock.start, timesMark_iff]
  tauto

/-! ### The moves -/

/-- The coherence of a state, from that of one with the same connection, receiver state and open states. -/
theorem connectionCoherent_of {s t : State} (hc : t.conn = s.conn) (hrx : t.rx.state = s.rx.state) (ha : t.access = s.access)
    (hs : s.ConnectionCoherent) : t.ConnectionCoherent := by
  rw [connectionCoherent_iff] at hs ⊢
  rwa [hc, hrx, ha]

theorem connectionCoherent_of_outer {s t : State} (h : t.outer = s.outer) (hs : s.ConnectionCoherent) :
    t.ConnectionCoherent :=
  connectionCoherent_of (conn_of_outer h) (congrArg RxBlock.state (rx_of_outer h)) (access_of_outer h) hs

/-- What a leaving of CONNECTED leaves of the open states. -/
theorem leaveConnected_opens (target : ConnState) :
    (s.leaveConnected target).access.lineOpen = .closed ∧
      ((s.leaveConnected target).access.localOpen ≠ .closed → s.access.localOpen ≠ .closed) := by
  obtain h | h := s.leaveConnected_access target
  · rw [h]
    exact ⟨rfl, id⟩
  · rw [h]
    exact ⟨rfl, fun hne => absurd rfl hne⟩

theorem enterClearing_coherent {s : State} (hs : Coherent s.conn s.rx.state s.access.lineOpen s.access.localOpen)
    (hl : s.conn.loop = true) :
    Coherent s.enterClearing.conn s.enterClearing.rx.state s.enterClearing.access.lineOpen s.enterClearing.access.localOpen := by
  have hconn := s.enterClearing_conn
  by_cases hst : s.isConnected = true
  · have hrest : s.enterClearing.rx.state = .watching ∧ s.enterClearing.access = (s.leaveConnected .clearing).access := by
      simp [enterClearing, hst]
    obtain ⟨hline, hlocal⟩ := s.leaveConnected_opens .clearing
    rw [hconn, hrest.1, hrest.2, hline, if_pos hst]
    exact hs.cleared hl hlocal
  · have hrest : s.enterClearing.rx = s.rx ∧ s.enterClearing.access = s.access := by
      simp [enterClearing, hst]
    have hne : s.conn.state ≠ .connected := by simpa [isConnected] using hst
    have hsel : s.conn.selected = false := by
      by_contra h
      exact hne (hs.selected (by simpa using h))
    have hline : s.access.lineOpen = .closed := by
      by_contra h
      exact hne (hs.lineOpen h)
    rw [hconn, hrest.1, hrest.2, hline, if_neg hst, hsel, hs.watching.mpr hne]
    exact hs.cleared hl id

theorem enterLost_coherent {s : State} (hs : Coherent s.conn s.rx.state s.access.lineOpen s.access.localOpen)
    (hty : s.conn.lineType = .permanent) (hspace : s.conn.sustainedSpace.isSome = true) :
    Coherent s.enterLost.conn s.enterLost.rx.state s.enterLost.access.lineOpen s.enterLost.access.localOpen := by
  obtain ⟨hline, hlocal⟩ := s.leaveConnected_opens .lost
  simp only [enterLost, onConn_conn, onConn_rx, onConn_access, leaveConnected_conn s (show ConnState.lost ≠ .connected by decide),
    leaveConnected_rx, hline]
  exact hs.lost (hs.sustainedSpace hspace) hty hlocal

theorem Live.opens {s : State} (hs : Coherent s.conn s.rx.state s.access.lineOpen s.access.localOpen) {src : DirSource}
    (hlive : s.Live src) (o : OpenState) :
    Coherent s.conn s.rx.state (s.setOpen src o).access.lineOpen (s.setOpen src o).access.localOpen := by
  cases src with
  | line c1 c2 =>
    refine hs.opens (fun _ => ?_) hs.localOpen
    obtain h | h := hlive
    · simpa [isConnected] using h
    · exact hs.connected (by simp [h])
  | keyboard => exact hs.opens hs.lineOpen fun _ => hlive

end State

open State in
theorem Move.connectionCoherent {c : Instr} {s t : State} (h : Move c s t) (hs : s.ConnectionCoherent) :
    t.ConnectionCoherent := by
  have hcoh := s.connectionCoherent_iff.mp hs
  cases h
  case inner h => exact connectionCoherent_of_outer h.outer hs
  case operationDone => exact connectionCoherent_of_outer s.operationDone_outer hs
  all_goals rw [connectionCoherent_iff]
  case startCharacter h => exact hcoh.receiver (by simp [h]) (by simp [State.startCharacter])
  case falseStart =>
    unfold State.falseStartEvent
    split
    · rename_i h
      exact hcoh.receiver (by simp [h.1]) (by simp [State.hunt])
    · exact hcoh
  case sampleElement => unfold State.sampleElement; split <;> exact hcoh
  case received h _ _ => exact hcoh.receiver (by rcases h with h | h <;> simp [h]) (by simp [State.received])
  case holdCandidate h => exact hcoh.receiver (by simp [h]) (by simp [State.holdCandidate])
  case hunt h => exact hcoh.receiver (by simp [h]) (by simp [State.hunt])
  case spacing h => exact hcoh.receiver (by simp [h]) (by simp)
  case adoptRate h => unfold State.adoptRate at h; split at h <;> cases h; exact hcoh
  case conditionChange d => exact hcoh.conditionChange d _
  case noticeTraffic =>
    rw [noticeTraffic_conn, noticeTraffic_rx, noticeTraffic_access]
    refine hcoh.restartIdle fun _ => ?_
    split
    · rename_i h
      exact .inl (by simpa [idleTimed, isConnected] using h)
    · exact .inr rfl
  case adoptLineType h =>
    unfold State.adoptLineType at h
    split at h <;> cases h
    rename_i h
    exact hcoh.adopted h.1 _
  case enterClearing h => exact enterClearing_coherent hcoh (hcoh.loop_of_clearing h)
  case enterLost h => exact enterLost_coherent hcoh h.1 h.2
  case enterConnected h =>
    rw [enterConnected_conn, enterConnected_rx, enterConnected_access]
    exact hcoh.entered h _ _
  case answerRequest =>
    unfold State.answerRequest
    split
    · rename_i h
      exact (hcoh.called h.1 h.2.1).1
    · exact hcoh
  case seizeRequest =>
    unfold State.seizeRequest
    split
    · rename_i h
      exact (hcoh.called h.1 h.2).2
    · exact hcoh
  case callChange p =>
    have harrives : Coherent
        { s.conn with
          callInput := p
          callAnswerable := if p then s.conn.callAnswerable ||
            (p && !s.conn.callInput && s.conn.state == .idle && s.conn.lineType == .switched) else false }
        s.rx.state s.access.lineOpen s.access.localOpen := by
      refine { hcoh with callAnswerable := fun h => ?_ }
      have hold := hcoh.callAnswerable
      cases p <;> simp_all
      tauto
    have hanswers (u : State) (b : Bool) (hu : Coherent u.conn s.rx.state s.access.lineOpen s.access.localOpen)
        (hb : b = true → u.conn.state = .idle ∧ u.conn.lineType = .switched) :
        Coherent (if b then u.enterAnswering else u).conn s.rx.state s.access.lineOpen s.access.localOpen := by
      split
      · rename_i h
        exact (hu.called (hb h).1 (hb h).2).1
      · exact hu
    rw [callChange_rx, callChange_access]
    refine hanswers _ _ harrives fun h => ?_
    simp only [Bool.and_eq_true, beq_iff_eq] at h
    exact ⟨h.1.1.2, h.1.2⟩
  case endClearing h => exact hcoh.ended (hcoh.clearingTimer.mp h)
  case stationReset =>
    rw [stationResetEffect_conn, stationResetEffect_rx, stationResetEffect_access]
    refine ((hcoh.opens (fun h => absurd rfl h) fun h => absurd rfl h).deselected).restartIdle fun _ => ?_
    split
    · rename_i h
      exact .inl (by simpa [idleTimed, isConnected] using h.2)
    · exact .inr rfl
  case select h =>
    refine { hcoh with selected := fun _ => ?_ }
    obtain h | h := h
    · simpa [isConnected] using h
    · exact hcoh.connected (by simp [h])
  case deselect =>
    unfold State.deselect
    split
    · rw [conn_of_outer (teardown_outer _), rx_of_outer (teardown_outer _), access_of_outer (teardown_outer _)]
      exact hcoh.deselected
    · exact hcoh
  case attend => exact { hcoh with localOpen := fun _ => rfl }
  case unattend =>
    have hconn : s.unattendEffect.conn = { s.conn with attended := false } := closeComposing_conn (s.setAttended false)
    have hrx : s.unattendEffect.rx = s.rx := closeComposing_rx (s.setAttended false)
    have haccess : s.unattendEffect.access = { s.access with localOpen := .closed } :=
      congrArg (fun a : AccessBlock => { a with localOpen := .closed }) (closeComposing_access (s.setAttended false))
    rw [hconn, hrx, haccess]
    exact { hcoh with localOpen := fun h => absurd rfl h }
  case rightNumber src w hlive _ => cases src <;> exact hlive.opens hcoh _
  case openOperator src hlive => exact hlive.opens hcoh _
  case closeSource src =>
    cases src with
    | line c1 c2 => exact hcoh.opens (fun h => absurd rfl h) hcoh.localOpen
    | keyboard => exact hcoh.opens hcoh.lineOpen fun h => absurd rfl h
  case setParameter n v hn p set h =>
    rw [changeWorking_conn, changeWorking_rx, changeWorking_access]
    refine hcoh.restartIdle fun _ => ?_
    split
    · rename_i h
      exact .inl (by simpa [idleTimed, isConnected] using h.2)
    · exact .inr rfl
  case closeComposing => rwa [closeComposing_conn, closeComposing_rx, closeComposing_access]
  case erase =>
    have h : s.erase.conn = s.conn ∧ s.erase.rx = s.rx ∧ s.erase.access = s.access := by
      have hdelete (u : State) : (u.forRecords deleteRecord).outer = u.outer :=
        forRecords_outer u _ fun v e => deleteRecord_outer v e
      have hfold : (s.store.openStack.foldl closeEntry s).outer = s.outer :=
        foldl_outer s _ (fun v e => closeEntry_outer v e) _
      simp only [State.erase, conn_of_outer (hdelete _), rx_of_outer (hdelete _), access_of_outer (hdelete _), closeComposing_conn,
        closeComposing_rx, closeComposing_access]
      exact ⟨conn_of_outer hfold, rx_of_outer hfold, access_of_outer hfold⟩
    rwa [h.1, h.2.1, h.2.2]
  case cellSent x after item e _ _ =>
    rw [conn_of_outer (advanceSend_outer _ e), rx_of_outer (advanceSend_outer _ e), access_of_outer (advanceSend_outer _ e),
      noticeTraffic_conn, noticeTraffic_rx, noticeTraffic_access]
    refine hcoh.restartIdle fun _ => ?_
    split
    · rename_i h
      exact .inl (by simpa [idleTimed, isConnected] using h)
    · exact .inr rfl
  all_goals exact hcoh

/-- Settles O14: each move of the connection by the lemma about the state it enters. -/
theorem stepsKeepTheConnectionCoherent : Obligations.StepsKeepTheConnectionCoherent :=
  Robust.keptByStep
    { pending := fun _ _ => id
      startUp := fun s _ => (State.connectionCoherent_iff _).mpr (State.coherent_start _ _ _)
      losePower := fun s hs => by
        unfold State.losePower State.cutCommit
        split <;> exact hs
      lineCond := fun s d hs => by
        obtain ⟨h1, h2, h3, h4, h5, h6, h7, h8, h9, h10, h11, h12, h13, h14, h15⟩ := hs
        exact ⟨h1, h2, h3, h4, h5, h6, h7, h8, h9, h10, h11, h12, h13, h14, h15⟩
      callInput := fun _ _ => id
      paper := fun _ _ _ => id
      move := fun _ _ _ h => h.connectionCoherent }

end Sys2Proof.Machine
end

section
/-! PROOF. The directory's entries: what a replacement, an examination and a freeing make of the records, the arrival list and the
free blocks (sections 3.1, 3.2, 3.5), and that they keep the store sound. -/

namespace Sys2Proof.Machine

/-- `e` is the number of a directory entry (R41). -/
def Numbered (e : Nat) : Prop := 1 ≤ e ∧ e ≤ 32

/-- A record once one with no cell left to print is DONE (R83). -/
def Record.printDone (r : Record) : Record :=
  if r.printedOut then { r with print := { r.print with status := .done } } else r

/-- A record becomes one that holds the same cells at the same precedence, is EMPTY where it was, and is COMPOSING only where it was. -/
structure Record.Amends (r r' : Record) : Prop where
  blocks : r'.blocks = r.blocks
  length : r'.length = r.length
  precedence : r'.precedence = r.precedence
  empty : r'.state = .empty ↔ r.state = .empty
  composing : r'.state = .composing → r.state = .composing

namespace Record

theorem isClosed_iff {st : RecState} : st.isClosed = true ↔ st = .complete ∨ st = .cut := by cases st <;> simp [RecState.isClosed]
theorem isOpen_iff {st : RecState} : st.isOpen = true ↔ st = .receiving ∨ st = .suspended ∨ st = .composing := by
  cases st <;> simp [RecState.isOpen]

theorem owed_iff (o : Output) : o.owed = true ↔ o.status = .pending := by simp [Output.owed]

theorem printedOut_iff (r : Record) :
    r.printedOut = true ↔
      r.state.isClosed = true ∧ r.print.status = .pending ∧ r.print.mark = false ∧ r.print.cursor = r.length := by
  simp [printedOut, Output.owed]
  tauto

theorem disposable_iff (r : Record) :
    r.disposable = true ↔
      r.state.isClosed = true ∧ r.print.status ≠ .pending ∧ r.punch.status ≠ .pending ∧ r.send.status ≠ .pending ∧
        r.retained = false ∧ r.print.mark = false ∧ r.punch.mark = false ∧ r.send.mark = false := by
  simp [disposable, Output.owed]
  tauto

/-- What an examination makes of a record: DONE where it is printed out, and then freed where it is disposable. -/
theorem examined_eq (r : Record) : r.examined = if r.printDone.disposable then .empty else r.printDone := by
  have hdone : r.printDone =
      if r.state.isClosed = true ∧ r.print.status = .pending ∧ r.print.mark = false ∧ r.print.cursor = r.length then
        { r with print := { r.print with status := .done } } else r := by
    simp only [printDone, printedOut_iff]
  simp only [examined, disposable_iff]
  rw [← hdone]

@[simp] theorem printDone_state (r : Record) : r.printDone.state = r.state := by unfold printDone; split <;> rfl
@[simp] theorem printDone_blocks (r : Record) : r.printDone.blocks = r.blocks := by unfold printDone; split <;> rfl
@[simp] theorem printDone_length (r : Record) : r.printDone.length = r.length := by unfold printDone; split <;> rfl
@[simp] theorem printDone_precedence (r : Record) : r.printDone.precedence = r.precedence := by unfold printDone; split <;> rfl
@[simp] theorem printDone_mark (r : Record) : r.printDone.print.mark = r.print.mark := by unfold printDone; split <;> rfl
@[simp] theorem printDone_cursor (r : Record) : r.printDone.print.cursor = r.print.cursor := by unfold printDone; split <;> rfl
@[simp] theorem printDone_punch (r : Record) : r.printDone.punch = r.punch := by unfold printDone; split <;> rfl
@[simp] theorem printDone_punchSource (r : Record) : r.printDone.punchSource = r.punchSource := by
  unfold printDone; split <;> rfl
@[simp] theorem printDone_send (r : Record) : r.printDone.send = r.send := by unfold printDone; split <;> rfl
@[simp] theorem printDone_deletePending (r : Record) : r.printDone.deletePending = r.deletePending := by
  unfold printDone; split <;> rfl

theorem Amends.refl (r : Record) : r.Amends r := ⟨rfl, rfl, rfl, Iff.rfl, id⟩

theorem amends_printDone (r : Record) : r.Amends r.printDone := by
  constructor <;> simp

end Record

namespace State

variable {s : State} {e x : Nat}

/-! ### Replacing, freeing and examining an entry -/

theorem record_setRecord (hd : s.store.dir.length = 32) (he : Numbered e) (hx : Numbered x) (r : Record) :
    (s.setRecord e r).record x = if x = e then r else s.record x := by
  obtain ⟨he1, he2⟩ := he
  obtain ⟨hx1, hx2⟩ := hx
  split
  · rename_i h
    subst h
    exact record_setRecord_self s x r (by omega)
  · exact record_setRecord_ne s e x r (by omega)

@[simp] theorem setRecord_dir_length (r : Record) : (s.setRecord e r).store.dir.length = s.store.dir.length := by
  simp [setRecord]
@[simp] theorem freeRecord_dir_length : (s.freeRecord e).store.dir.length = s.store.dir.length := by
  simp [freeRecord, setRecord]

theorem record_freeRecord (hd : s.store.dir.length = 32) (he : Numbered e) (hx : Numbered x) :
    (s.freeRecord e).record x = if x = e then .empty else s.record x :=
  record_setRecord (s := s.onStore fun b =>
    { b with free := b.free ++ (s.record e).blocks, arrival := b.arrival.erase e }) hd he hx .empty

theorem examine_eq : s.examine e =
    if (s.record e).printDone.disposable then s.freeRecord e else s.setRecord e (s.record e).printDone := rfl

/-- What an examination leaves of the records. -/
theorem record_examine (hd : s.store.dir.length = 32) (he : Numbered e) (hx : Numbered x) :
    (s.examine e).record x = if x = e then (s.record e).examined else s.record x := by
  rw [examine_eq, Record.examined_eq]
  split
  · exact record_freeRecord hd he hx
  · exact record_setRecord hd he hx _

theorem examine_arrival :
    (s.examine e).store.arrival =
      if (s.record e).printDone.disposable then s.store.arrival.erase e else s.store.arrival := by
  rw [examine_eq]
  split <;> rfl

@[simp] theorem examine_dir_length : (s.examine e).store.dir.length = s.store.dir.length := by
  rw [examine_eq]
  split <;> simp

@[simp] theorem updRecord_dir_length (f : Record → Record) : (s.updRecord e f).store.dir.length = s.store.dir.length := by
  simp [updRecord]

/-- What a change with its examination leaves of the records. -/
theorem record_updRecord (hd : s.store.dir.length = 32) (he : Numbered e) (hx : Numbered x) (f : Record → Record) :
    (s.updRecord e f).record x = if x = e then (f (s.record e)).examined else s.record x := by
  have hset := record_setRecord hd he hx (f (s.record e))
  have hself := record_setRecord hd he he (f (s.record e))
  rw [if_pos rfl] at hself
  rw [updRecord, record_examine (by simpa using hd) he hx, hself]
  split
  · rfl
  · rw [hset, if_neg ‹_›]

/-! ### The store stays sound -/

/-- The blocks in the block lists, with one list taken out of its place and put in front. -/
theorem flatten_set_perm (l : List (List Nat)) (i : Nat) (h : i < l.length) :
    l.flatten.Perm (l[i] ++ (l.set i []).flatten) := by
  induction l generalizing i with
  | nil => simp at h
  | cons a l ih =>
    cases i with
    | zero => simp
    | succ i =>
      simp only [List.length_cons, Nat.add_lt_add_iff_right] at h
      simp only [List.set_cons_succ, List.flatten_cons, List.getElem_cons_succ]
      calc a ++ l.flatten
        _ |>.Perm (a ++ (l[i] ++ (l.set i []).flatten)) := (ih i h).append_left a
        _ |>.Perm (l[i] ++ (a ++ (l.set i []).flatten)) := by
          rw [← List.append_assoc, ← List.append_assoc]
          exact List.perm_append_comm.append_right _

/-- An entry's block list among those of the directory. -/
theorem blocks_getElem (hd : s.store.dir.length = 32) (he : Numbered e) :
    ∃ h : e - 1 < (s.store.dir.map (·.blocks)).length, (s.store.dir.map (·.blocks))[e - 1] = (s.record e).blocks := by
  obtain ⟨he1, he2⟩ := he
  have h : e - 1 < s.store.dir.length := by omega
  refine ⟨by simpa using h, ?_⟩
  simp [record, List.getD_eq_getElem?_getD, h]

theorem numbered_of_inUse (h : s.InUse e) : Numbered e := ⟨h.1, h.2.1⟩

theorem inUse_iff : s.InUse e ↔ Numbered e ∧ (s.record e).state ≠ .empty := by
  simp only [InUse, Numbered, and_assoc]

/-- The parts of the store's soundness, named. -/
structure StoreLaws (s : State) : Prop where
  dir : s.store.dir.length = 32
  nodup : s.store.arrival.Nodup
  arrival : ∀ e, e ∈ s.store.arrival ↔ s.InUse e
  blocks : (s.store.free ++ (s.store.dir.map (·.blocks)).flatten).Perm (List.range 256)
  record : ∀ e, Numbered e →
    (s.record e).blocks.length = ((s.record e).length + 63) / 64 ∧ (s.record e).length ≤ 16383 ∧
      (s.record e).precedence ≤ 3 ∧ ((s.record e).state = .empty → (s.record e).length = 0)
  composing : ∀ d e, s.InUse d → s.InUse e → (s.record d).state = .composing → (s.record e).state = .composing → d = e

theorem storeSound_iff : s.StoreSound ↔ s.StoreLaws :=
  ⟨fun ⟨h1, h2, h3, h4, h5, h6⟩ => ⟨h1, h2, h3, h4, fun e he => h5 e he.1 he.2, h6⟩,
    fun ⟨h1, h2, h3, h4, h5, h6⟩ => ⟨h1, h2, h3, h4, fun e he he' => h5 e ⟨he, he'⟩, h6⟩⟩

/-- Soundness of the store, from that of one with the same directory, arrival list and free-block list. -/
theorem StoreLaws.of_eq {t : State} (hs : s.StoreLaws) (hd : t.store.dir = s.store.dir)
    (ha : t.store.arrival = s.store.arrival) (hf : t.store.free = s.store.free) : t.StoreLaws := by
  have hr (e : Nat) : t.record e = s.record e := by simp only [State.record, hd]
  obtain ⟨h1, h2, h3, h4, h5, h6⟩ := hs
  constructor
  · rwa [hd]
  · rwa [ha]
  · simpa only [ha, InUse, hr] using h3
  · rwa [hf, hd]
  · simpa only [hr] using h5
  · simpa only [InUse, hr] using h6

/-- The block lists, with one entry replaced. -/
theorem setRecord_blocks (r : Record) :
    (s.setRecord e r).store.dir.map (·.blocks) = (s.store.dir.map (·.blocks)).set (e - 1) r.blocks := by
  simp [setRecord]

theorem StoreLaws.setRecord (hs : s.StoreLaws) (he : Numbered e) {r : Record} (h : (s.record e).Amends r) :
    (s.setRecord e r).StoreLaws := by
  obtain ⟨hd, hnodup, harr, hblocks, hrec, hcomp⟩ := hs
  have hr {x : Nat} (hx : Numbered x) := record_setRecord hd he hx r
  have hamends {x : Nat} (hx : Numbered x) : (s.record x).Amends ((s.setRecord e r).record x) := by
    rw [hr hx]
    split
    · rename_i heq
      exact heq ▸ h
    · exact .refl _
  have huse (x : Nat) : (s.setRecord e r).InUse x ↔ s.InUse x := by
    rw [inUse_iff, inUse_iff]
    exact and_congr_right fun hx => not_congr (hamends hx).empty
  refine ⟨by simpa using hd, hnodup, fun x => (harr x).trans (huse x).symm, ?_, fun x hx => ?_, fun d x hdx hx hcd hcx => ?_⟩
  · obtain ⟨hlt, hget⟩ := blocks_getElem hd he
    rw [setRecord_blocks, h.blocks, ← hget, List.set_getElem_self]
    exact hblocks
  · obtain ⟨hb, hl, hp, hempty, -⟩ := hamends hx
    rw [hb, hl, hp, hempty]
    exact hrec x hx
  · rw [huse] at hdx hx
    exact hcomp d x hdx hx ((hamends (numbered_of_inUse hdx)).composing hcd) ((hamends (numbered_of_inUse hx)).composing hcx)

theorem StoreLaws.freeRecord (hs : s.StoreLaws) (he : Numbered e) : (s.freeRecord e).StoreLaws := by
  obtain ⟨hd, hnodup, harr, hblocks, hrec, hcomp⟩ := hs
  have hr {x : Nat} (hx : Numbered x) := record_freeRecord (s := s) hd he hx
  have huse (x : Nat) : (s.freeRecord e).InUse x ↔ s.InUse x ∧ x ≠ e := by
    rw [inUse_iff, inUse_iff, and_assoc]
    refine and_congr_right fun hx => ?_
    rw [hr hx]
    split
    · simp [Record.empty, *]
    · simp [*]
  refine ⟨by simpa using hd, hnodup.erase e, fun x => ?_, ?_, fun x hx => ?_, fun d x hdx hx hcd hcx => ?_⟩
  · rw [huse x, ← harr x, and_comm]
    exact hnodup.mem_erase_iff
  · obtain ⟨hlt, hget⟩ := blocks_getElem hd he
    have hperm := flatten_set_perm _ _ hlt
    rw [hget] at hperm
    have hdir : (s.freeRecord e).store.dir.map (·.blocks) = (s.store.dir.map (·.blocks)).set (e - 1) [] :=
      setRecord_blocks (s := s.onStore fun b =>
        { b with free := b.free ++ (s.record e).blocks, arrival := b.arrival.erase e }) .empty
    rw [hdir]
    refine List.Perm.trans ?_ hblocks
    show ((s.store.free ++ (s.record e).blocks) ++ _).Perm _
    rw [List.append_assoc]
    exact (hperm.symm).append_left _
  · rw [hr hx]
    split
    · simp [Record.empty]
    · exact hrec x hx
  · rw [huse] at hdx hx
    rw [hr (numbered_of_inUse hdx.1), if_neg hdx.2] at hcd
    rw [hr (numbered_of_inUse hx.1), if_neg hx.2] at hcx
    exact hcomp d x hdx.1 hx.1 hcd hcx

theorem StoreLaws.examine (hs : s.StoreLaws) (he : Numbered e) : (s.examine e).StoreLaws := by
  rw [examine_eq]
  split
  · exact hs.freeRecord he
  · exact hs.setRecord he (Record.amends_printDone _)

/-- The lowest EMPTY entry is one. -/
theorem lowestEmpty_some (h : s.lowestEmpty = some e) : Numbered e ∧ (s.record e).state = .empty := by
  have hstate := List.find?_some h
  have hmem := List.mem_of_find?_eq_some h
  simp only [List.mem_map, List.mem_range] at hmem
  obtain ⟨i, hi, rfl⟩ := hmem
  exact ⟨⟨by omega, by omega⟩, by simpa using hstate⟩

/-- A new record in the lowest EMPTY entry, with its number last on the arrival list. -/
def placed (s : State) (e : Nat) (r : Record) : State :=
  (s.setRecord e { r with retained := !s.conn.attended && s.working.retainUnattended }).onStore fun b =>
    { b with arrival := b.arrival ++ [e] }

theorem create_eq (s : State) (r : Record) : s.create r = s.lowestEmpty.map fun e => (s.placed e r, e) := by
  cases h : s.lowestEmpty with
  | none => simp [create, h]
  | some e =>
    simp only [create, h]
    rfl

theorem create_some {t : State} {r : Record} (h : s.create r = some (t, e)) :
    s.lowestEmpty = some e ∧ t = s.placed e r := by
  rw [create_eq] at h
  obtain ⟨d, hd, heq⟩ := Option.map_eq_some_iff.mp h
  cases heq
  exact ⟨hd, rfl⟩

theorem record_placed (hd : s.store.dir.length = 32) (he : Numbered e) (hx : Numbered x) (r : Record) :
    (s.placed e r).record x =
      if x = e then { r with retained := !s.conn.attended && s.working.retainUnattended } else s.record x :=
  record_setRecord hd he hx _

/-- A new record keeps the store sound where it has no cells, a precedence, and is COMPOSING only where no other is. -/
theorem StoreLaws.placed (hs : s.StoreLaws) (he : Numbered e) (hempty : (s.record e).state = .empty) {r : Record}
    (hb : r.blocks = []) (hl : r.length = 0) (hp : r.precedence ≤ 3) (hst : r.state ≠ .empty)
    (hc : r.state = .composing → s.composing = none) : (s.placed e r).StoreLaws := by
  obtain ⟨hd, hnodup, harr, hblocks, hrec, hcomp⟩ := hs
  have hr {x : Nat} (hx : Numbered x) := record_placed hd he hx r
  have hnot : e ∉ s.store.arrival := fun h => ((harr e).mp h).2.2 hempty
  have huse (x : Nat) : (s.placed e r).InUse x ↔ s.InUse x ∨ x = e := by
    rw [inUse_iff, inUse_iff]
    by_cases hxe : x = e
    · subst hxe
      simp [hr he, hst, he]
    · simp only [hxe, or_false]
      exact and_congr_right fun hx => by rw [hr hx, if_neg hxe]
  have hnone (x : Nat) (hx : s.InUse x) (hn : s.composing = none) : (s.record x).state ≠ .composing := by
    have := List.find?_eq_none.mp hn x ((harr x).mpr hx)
    simpa using this
  refine ⟨by simpa [State.placed] using hd, ?_, fun x => ?_, ?_, fun x hx => ?_, fun d x hdx hx hcd hcx => ?_⟩
  · show (s.store.arrival ++ [e]).Nodup
    rw [List.nodup_append]
    exact ⟨hnodup, List.nodup_singleton e, by simpa using fun a ha => fun heq : a = e => hnot (heq ▸ ha)⟩
  · rw [huse x, ← harr x]
    show x ∈ s.store.arrival ++ [e] ↔ _
    simp
  · obtain ⟨hlt, hget⟩ := blocks_getElem hd he
    have hnil : (s.record e).blocks = [] := by
      obtain ⟨h1, -, -, h4⟩ := hrec e he
      rw [h4 hempty] at h1
      exact List.length_eq_zero_iff.mp (by simpa using h1)
    have hdir : (s.placed e r).store.dir.map (·.blocks) = (s.store.dir.map (·.blocks)).set (e - 1) r.blocks :=
      setRecord_blocks _
    rw [hdir, hb, ← hnil, ← hget, List.set_getElem_self]
    exact hblocks
  · rw [hr hx]
    split
    · exact ⟨by simp [hb, hl], by simp [hl], hp, fun h => absurd h hst⟩
    · exact hrec x hx
  · rw [huse] at hdx hx
    by_cases hde : d = e <;> by_cases hxe : x = e
    · rw [hde, hxe]
    · subst hde
      have hin := hx.resolve_right hxe
      rw [hr he, if_pos rfl] at hcd
      rw [hr (numbered_of_inUse hin), if_neg hxe] at hcx
      exact absurd hcx (hnone x hin (hc hcd))
    · subst hxe
      have hin := hdx.resolve_right hde
      rw [hr he, if_pos rfl] at hcx
      rw [hr (numbered_of_inUse hin), if_neg hde] at hcd
      exact absurd hcd (hnone d hin (hc hcx))
    · have hind := hdx.resolve_right hde
      have hinx := hx.resolve_right hxe
      rw [hr (numbered_of_inUse hind), if_neg hde] at hcd
      rw [hr (numbered_of_inUse hinx), if_neg hxe] at hcx
      exact hcomp d x hind hinx hcd hcx

/-! ### Appending -/

/-- Entry `e` with the block `b` taken from the free-block list, which is then `rest`. -/
def granted (s : State) (e b : Nat) (rest : List Nat) : State :=
  (s.onStore fun st => { st with free := rest }).setRecord e { s.record e with blocks := (s.record e).blocks ++ [b] }

theorem record_granted (hd : s.store.dir.length = 32) (he : Numbered e) (hx : Numbered x) (b : Nat) (rest : List Nat) :
    (s.granted e b rest).record x =
      if x = e then { s.record e with blocks := (s.record e).blocks ++ [b] } else s.record x :=
  record_setRecord (s := s.onStore fun st => { st with free := rest }) hd he hx _

theorem granted_dir_length (b : Nat) (rest : List Nat) : (s.granted e b rest).store.dir.length = s.store.dir.length := by
  simp [granted]

theorem record_putCell (hd : s.store.dir.length = 32) (he : Numbered e) (hx : Numbered x) (c : Cell) :
    (s.putCell e c).record x = if x = e then (s.record e).grown c.quality else s.record x :=
  record_setRecord (s := s.onStore fun b => { b with cells := b.cells.write (cellAddress (s.record e) (s.record e).length) c })
    hd he hx _

theorem putCell_dir_length (c : Cell) : (s.putCell e c).store.dir.length = s.store.dir.length := by
  simp [putCell]

theorem putCell_blocks (c : Cell) :
    (s.putCell e c).store.dir.map (·.blocks) = (s.store.dir.map (·.blocks)).set (e - 1) (s.record e).blocks :=
  setRecord_blocks (s := s.onStore fun b => { b with cells := b.cells.write (cellAddress (s.record e) (s.record e).length) c }) _

/-- An append takes a block where the last one is full, and writes the cell. -/
theorem append_cases {t : State} {c : Cell} (h : s.append e c = some t) :
    (s.record e).length < 16383 ∧
      (((s.record e).length % 64 = 0 ∧ ∃ b rest, s.store.free = b :: rest ∧ t = (s.granted e b rest).putCell e c) ∨
        ((s.record e).length % 64 ≠ 0 ∧ t = s.putCell e c)) := by
  simp only [append] at h
  split at h
  · cases h
  rename_i hlen
  refine ⟨by omega, ?_⟩
  split at h
  · rename_i hmod
    cases hfree : s.store.free with
    | nil => rw [hfree] at h; cases h
    | cons b rest =>
      rw [hfree] at h
      cases h
      exact .inl ⟨hmod, b, rest, rfl, rfl⟩
  · rename_i hmod
    cases h
    exact .inr ⟨hmod, rfl⟩

/-- What an append makes: the record longer by one, with the head of the free-block list where its last block is full, and that
block off the list. -/
theorem append_some {t : State} {c : Cell} (hd : s.store.dir.length = 32) (he : Numbered e) (h : s.append e c = some t) :
    (s.record e).length < 16383 ∧ t.store.arrival = s.store.arrival ∧ t.store.dir.length = 32 ∧
    ∃ taken : List Nat,
      s.store.free = taken ++ t.store.free ∧ taken.length = (if (s.record e).length % 64 = 0 then 1 else 0) ∧
      t.store.dir.map (·.blocks) = (s.store.dir.map (·.blocks)).set (e - 1) ((s.record e).blocks ++ taken) ∧
      ∀ x, Numbered x →
        t.record x = if x = e then { (s.record e).grown c.quality with blocks := (s.record e).blocks ++ taken }
          else s.record x := by
  obtain ⟨hlen, ⟨hmod, b, rest, hfree, rfl⟩ | ⟨hmod, rfl⟩⟩ := append_cases h
  · have hgd : (s.granted e b rest).store.dir.length = 32 := by rwa [granted_dir_length]
    have hself := record_granted hd he he b rest
    rw [if_pos rfl] at hself
    refine ⟨hlen, rfl, by rwa [putCell_dir_length], [b], hfree, by simp [hmod], ?_, fun x hx => ?_⟩
    · rw [putCell_blocks, hself]
      simp [granted, setRecord]
    · rw [record_putCell hgd he hx, hself]
      split
      · rfl
      · rw [record_granted hd he hx, if_neg ‹_›]
  · refine ⟨hlen, rfl, by rwa [putCell_dir_length], [], rfl, by simp [hmod], ?_, fun x hx => ?_⟩
    · rw [putCell_blocks, List.append_nil]
    · rw [List.append_nil]
      exact record_putCell hd he hx c

theorem StoreLaws.append (hs : s.StoreLaws) {t : State} {c : Cell} (he : s.InUse e) (h : s.append e c = some t) :
    t.StoreLaws := by
  obtain ⟨hd, hnodup, harr, hblocks, hrec, hcomp⟩ := hs
  have hn := numbered_of_inUse he
  obtain ⟨hlen, hta, htd, taken, hfree, htaken, hmap, hr⟩ := append_some hd hn h
  have hstate (x : Nat) (hx : Numbered x) : (t.record x).state = (s.record x).state := by
    rw [hr x hx]
    split
    · rename_i heq
      rw [heq]
      rfl
    · rfl
  have huse (x : Nat) : t.InUse x ↔ s.InUse x := by
    rw [inUse_iff, inUse_iff]
    exact and_congr_right fun hx => by rw [hstate x hx]
  refine ⟨htd, by rwa [hta], fun x => by rw [hta, huse]; exact harr x, ?_, fun x hx => ?_, fun d x hdx hx hcd hcx => ?_⟩
  · obtain ⟨hlt, hget⟩ := blocks_getElem hd hn
    have hold := flatten_set_perm _ _ hlt
    have hnew := flatten_set_perm ((s.store.dir.map (·.blocks)).set (e - 1) ((s.record e).blocks ++ taken)) (e - 1)
      (by simpa using hlt)
    rw [hget] at hold
    rw [List.getElem_set_self, List.set_set] at hnew
    rw [hmap]
    refine List.Perm.trans ?_ hblocks
    rw [hfree]
    calc t.store.free ++ ((s.store.dir.map (·.blocks)).set (e - 1) ((s.record e).blocks ++ taken)).flatten
      _ |>.Perm (t.store.free ++ (((s.record e).blocks ++ taken) ++ ((s.store.dir.map (·.blocks)).set (e - 1) []).flatten)) :=
        hnew.append_left _
      _ |>.Perm (taken ++ t.store.free ++ ((s.record e).blocks ++ ((s.store.dir.map (·.blocks)).set (e - 1) []).flatten)) := by
        simp only [List.perm_iff_count, List.count_append]
        intro a
        omega
      _ |>.Perm _ := (hold.symm).append_left _
  · rw [hr x hx]
    split
    · obtain ⟨h1, h2, h3, h4⟩ := hrec e hn
      refine ⟨?_, by simpa [Record.grown] using hlen, h3, fun hempty => absurd hempty he.2.2⟩
      simp only [Record.grown, List.length_append, htaken, h1]
      split <;> omega
    · exact hrec x hx
  · rw [huse] at hdx hx
    rw [hstate d (numbered_of_inUse hdx)] at hcd
    rw [hstate x (numbered_of_inUse hx)] at hcx
    exact hcomp d x hdx hx hcd hcx

end State
end Sys2Proof.Machine
end

section
/-! PROOF. The open-message stack, the print contexts and the references of the punch and the send items: what keeps them sound, and what
each change of an entry does (sections 3.3, 4.5). -/

namespace Sys2Proof.Machine
namespace State

variable {s : State} {e x : Nat} {st : List StackEntry} {top : RecState}

/-! ### The open-message stack -/

/-- A record with an entry in the open-message stack is in one of these states (R44, R47). -/
def Stands (st : RecState) : Prop := st = .receiving ∨ st = .suspended

/-- Of the stack `st`, the record on top is in state `top` and those beneath are SUSPENDED, each named once, and no other record
stands. -/
structure Stacked (st : List StackEntry) (top : RecState) (s : State) : Prop where
  nodup : (st.filterMap (·.entry)).Nodup
  head : ∀ t ∈ st.head?, ∀ e, t.entry = some e → s.InUse e ∧ (s.record e).state = top
  tail : ∀ t ∈ st.tail, ∀ e, t.entry = some e → s.InUse e ∧ (s.record e).state = .suspended
  named : ∀ e, s.InUse e → Stands (s.record e).state → e ∈ st.filterMap (·.entry)

theorem stackSound_iff : s.StackSound ↔ Stacked s.store.openStack .receiving s :=
  ⟨fun ⟨h1, h2, h3, h4⟩ => ⟨h1, h2, h3, h4⟩, fun ⟨h1, h2, h3, h4⟩ => ⟨h1, h2, h3, h4⟩⟩

@[simp] theorem filterMap_entry_some (p e : Nat) (st : List StackEntry) :
    (⟨p, some e⟩ :: st : List StackEntry).filterMap (·.entry) = e :: st.filterMap (·.entry) := rfl
@[simp] theorem filterMap_entry_none (p : Nat) (st : List StackEntry) :
    (⟨p, none⟩ :: st : List StackEntry).filterMap (·.entry) = st.filterMap (·.entry) := rfl

/-- A stacked record, on top or beneath, is in use, and in the state of the top or SUSPENDED. -/
theorem Stacked.mem (h : Stacked st top s) (he : e ∈ st.filterMap (·.entry)) :
    s.InUse e ∧ ((s.record e).state = top ∨ (s.record e).state = .suspended) := by
  obtain ⟨t, ht, hte⟩ := List.mem_filterMap.mp he
  cases st with
  | nil => cases ht
  | cons a rest =>
    obtain rfl | ht := List.mem_cons.mp ht
    · obtain ⟨hu, hst⟩ := h.head t rfl e hte
      exact ⟨hu, .inl hst⟩
    · obtain ⟨hu, hst⟩ := h.tail t ht e hte
      exact ⟨hu, .inr hst⟩

/-- The stack stands by the states of the records alone. -/
theorem Stacked.of_states {t : State} (h : Stacked st top s) (hr : ∀ x, Numbered x → (t.record x).state = (s.record x).state) :
    Stacked st top t := by
  have huse (x : Nat) : t.InUse x ↔ s.InUse x := by
    rw [inUse_iff, inUse_iff]
    exact and_congr_right fun hx => by rw [hr x hx]
  refine ⟨h.nodup, fun t ht e hte => ?_, fun t ht e hte => ?_, fun e he hst => ?_⟩
  · obtain ⟨hu, hs⟩ := h.head t ht e hte
    exact ⟨(huse e).mpr hu, (hr e (numbered_of_inUse hu)).trans hs⟩
  · obtain ⟨hu, hs⟩ := h.tail t ht e hte
    exact ⟨(huse e).mpr hu, (hr e (numbered_of_inUse hu)).trans hs⟩
  · rw [huse] at he
    rw [hr e (numbered_of_inUse he)] at hst
    exact h.named e he hst

/-- The stack under a change of the records at one entry. -/
theorem Stacked.change {t : State} {r : Record} (htop : Stands top) (h : Stacked st top s)
    (hr : ∀ x, Numbered x → t.record x = if x = e then r else s.record x)
    (hst : r.state = (s.record e).state ∨ (¬Stands r.state ∧ ¬Stands (s.record e).state)) : Stacked st top t := by
  have hne {x : Nat} (hx : s.InUse x) (hxs : Stands (s.record x).state) :
      t.InUse x ∧ (t.record x).state = (s.record x).state := by
    have hn := numbered_of_inUse hx
    have hstate : (t.record x).state = (s.record x).state := by
      rw [hr x hn]
      split
      · rename_i heq
        subst heq
        exact hst.resolve_right fun hno => hno.2 hxs
      · rfl
    exact ⟨inUse_iff.mpr ⟨hn, by rw [hstate]; exact hx.2.2⟩, hstate⟩
  refine ⟨h.nodup, fun t ht x hte => ?_, fun t ht x hte => ?_, fun x hx hxs => ?_⟩
  · obtain ⟨hu, hs⟩ := h.head t ht x hte
    obtain ⟨hu', hs'⟩ := hne hu (hs ▸ htop)
    exact ⟨hu', hs'.trans hs⟩
  · obtain ⟨hu, hs⟩ := h.tail t ht x hte
    obtain ⟨hu', hs'⟩ := hne hu (.inr hs)
    exact ⟨hu', hs'.trans hs⟩
  · have hn := numbered_of_inUse hx
    have hstate : (s.record x).state = (t.record x).state := by
      rw [hr x hn]
      split
      · rename_i heq
        subst heq
        rw [hr x hn, if_pos rfl] at hxs
        exact (hst.resolve_right fun hno => hno.1 hxs).symm
      · rfl
    exact h.named x (inUse_iff.mpr ⟨hn, by rw [hstate]; exact hx.2.2⟩) (hstate ▸ hxs)

/-- A VOID popped. -/
theorem Stacked.popVoid {p : Nat} (h : Stacked (⟨p, none⟩ :: st) top s) : Stacked st .suspended s :=
  ⟨by simpa using h.nodup, fun t ht => h.tail t (List.mem_of_mem_head? ht),
    fun t ht => h.tail t (List.mem_of_mem_tail ht), by simpa using h.named⟩

/-- The top popped with its record leaving the states of the stack. -/
theorem Stacked.pop {p : Nat} {t : State} {r : Record} (h : Stacked (⟨p, some e⟩ :: st) top s)
    (hr : ∀ x, Numbered x → t.record x = if x = e then r else s.record x) (hst : ¬Stands r.state) :
    Stacked st .suspended t := by
  obtain ⟨hnodup, -, htail, hnamed⟩ := h
  rw [filterMap_entry_some, List.nodup_cons] at hnodup
  have hbelow (a : StackEntry) (ha : a ∈ st) (x : Nat) (hx : a.entry = some x) :
      t.InUse x ∧ (t.record x).state = .suspended := by
    obtain ⟨hu, hs⟩ := htail a ha x hx
    have hne : x ≠ e := fun heq => hnodup.1 (heq ▸ List.mem_filterMap.mpr ⟨a, ha, hx⟩)
    have hrec : t.record x = s.record x := by rw [hr x (numbered_of_inUse hu), if_neg hne]
    exact ⟨inUse_iff.mpr ⟨numbered_of_inUse hu, hrec ▸ hu.2.2⟩, hrec ▸ hs⟩
  refine ⟨hnodup.2, fun a ha => hbelow a (List.mem_of_mem_head? ha), fun a ha => hbelow a (List.mem_of_mem_tail ha),
    fun x hx hxs => ?_⟩
  have hn := numbered_of_inUse hx
  rw [hr x hn] at hxs
  split at hxs
  · exact absurd hxs hst
  · rename_i hne
    have hu : s.InUse x := by
      rw [inUse_iff] at hx ⊢
      rwa [hr x hn, if_neg hne] at hx
    simpa [hne] using hnamed x hu hxs

/-- The record on top takes another of the two states. -/
theorem Stacked.topTakes {p : Nat} {t : State} {r : Record} (h : Stacked (⟨p, some e⟩ :: st) top s)
    (hr : ∀ x, Numbered x → t.record x = if x = e then r else s.record x) (hst : Stands r.state) :
    Stacked (⟨p, some e⟩ :: st) r.state t := by
  obtain ⟨hnodup, hhead, htail, hnamed⟩ := h
  have hnot := hnodup
  rw [filterMap_entry_some, List.nodup_cons] at hnot
  have he := numbered_of_inUse (hhead _ rfl e rfl).1
  have hself : t.record e = r := by rw [hr e he, if_pos rfl]
  refine ⟨hnodup, fun a ha x hx => ?_, fun a ha x hx => ?_, fun x hx hxs => ?_⟩
  · cases ha
    cases hx
    refine ⟨inUse_iff.mpr ⟨he, ?_⟩, by rw [hself]⟩
    rw [hself]
    obtain h | h := hst <;> rw [h] <;> decide
  · obtain ⟨hu, hs⟩ := htail a ha x hx
    have hne : x ≠ e := fun heq => hnot.1 (heq ▸ List.mem_filterMap.mpr ⟨a, ha, hx⟩)
    have hrec : t.record x = s.record x := by rw [hr x (numbered_of_inUse hu), if_neg hne]
    exact ⟨inUse_iff.mpr ⟨numbered_of_inUse hu, hrec ▸ hu.2.2⟩, hrec ▸ hs⟩
  · by_cases hne : x = e
    · simp [hne]
    · have hn := numbered_of_inUse hx
      rw [hr x hn, if_neg hne] at hxs
      refine hnamed x ?_ hxs
      rw [inUse_iff] at hx ⊢
      rwa [hr x hn, if_neg hne] at hx

/-- A record that was EMPTY pushed on top. -/
theorem Stacked.push {p : Nat} {t : State} {r : Record} (h : Stacked st .suspended s) (he : Numbered e)
    (hempty : (s.record e).state = .empty) (hr : ∀ x, Numbered x → t.record x = if x = e then r else s.record x)
    (hst : r.state = .receiving) : Stacked (⟨p, some e⟩ :: st) .receiving t := by
  have hself : t.record e = r := by rw [hr e he, if_pos rfl]
  have hnot : e ∉ st.filterMap (·.entry) := fun hmem => (h.mem hmem).1.2.2 hempty
  have hbelow (a : StackEntry) (ha : a ∈ st) (x : Nat) (hx : a.entry = some x) :
      t.InUse x ∧ (t.record x).state = .suspended := by
    have hmem := List.mem_filterMap.mpr ⟨a, ha, hx⟩
    obtain ⟨hu, hs⟩ := h.mem hmem
    have hne : x ≠ e := fun heq => hnot (heq ▸ hmem)
    have hrec : t.record x = s.record x := by rw [hr x (numbered_of_inUse hu), if_neg hne]
    exact ⟨inUse_iff.mpr ⟨numbered_of_inUse hu, hrec ▸ hu.2.2⟩, hrec ▸ hs.elim id id⟩
  refine ⟨by simpa [hnot] using h.nodup, fun a ha x hx => ?_, fun a ha => hbelow a ha, fun x hx hxs => ?_⟩
  · cases ha
    cases hx
    exact ⟨inUse_iff.mpr ⟨he, by rw [hself, hst]; decide⟩, by rw [hself, hst]⟩
  · by_cases hne : x = e
    · simp [hne]
    · have hn := numbered_of_inUse hx
      rw [hr x hn, if_neg hne] at hxs
      rw [filterMap_entry_some]
      refine List.mem_cons_of_mem _ (h.named x ?_ hxs)
      rw [inUse_iff] at hx ⊢
      rwa [hr x hn, if_neg hne] at hx

theorem Stacked.pushVoid {p : Nat} (h : Stacked st .suspended s) : Stacked (⟨p, none⟩ :: st) .receiving s := by
  have hall (a : StackEntry) (ha : a ∈ st) (x : Nat) (hx : a.entry = some x) : s.InUse x ∧ (s.record x).state = .suspended := by
    obtain ⟨hu, hs⟩ := h.mem (List.mem_filterMap.mpr ⟨a, ha, hx⟩)
    exact ⟨hu, hs.elim id id⟩
  refine ⟨by simpa using h.nodup, fun a ha x hx => ?_, fun a ha => hall a ha, by simpa using h.named⟩
  cases ha
  cases hx

/-- A stack of VOIDs where no record stands. -/
theorem Stacked.voids (h : ∀ x, s.InUse x → ¬Stands (s.record x).state) (hst : ∀ t ∈ st, t.entry = none) : Stacked st top s := by
  have hnil : st.filterMap (·.entry) = [] := List.filterMap_eq_nil_iff.mpr hst
  refine ⟨by rw [hnil]; exact .nil, fun t ht e hte => ?_, fun t ht e hte => ?_, fun e he hs => absurd hs (h e he)⟩
  · rw [hst t (List.mem_of_mem_head? ht)] at hte
    cases hte
  · rw [hst t (List.mem_of_mem_tail ht)] at hte
    cases hte

/-! ### The print contexts -/

/-- The contexts `cs`, with `cell` for a cell in progress, rise and are marked, and the cursors lie within their records. -/
structure Contexts (cs : List PrintContext) (cell : Prop) (s : State) : Prop where
  rise : cs.Pairwise fun upper lower => (s.record lower.entry).precedence < (s.record upper.entry).precedence
  mem : ∀ c ∈ cs, s.InUse c.entry ∧ (s.record c.entry).print.mark = true ∧ c.lineStart ≤ (s.record c.entry).length
  cursor : ∀ e, Numbered e → (s.record e).print.cursor ≤ (s.record e).length
  cell : cell → ∀ c ∈ cs.head?, (s.record c.entry).print.cursor < (s.record c.entry).length

/-- Precedences 0 to 3 that rise strictly are at most four. -/
theorem length_le_of_rising (l : List Nat) (h : l.Pairwise (fun upper lower => lower < upper)) (h3 : ∀ p ∈ l, p ≤ 3) :
    l.length ≤ 4 := by
  have hnodup : l.Nodup := h.imp fun hlt heq => by omega
  have hsub : l ⊆ List.range 4 := fun p hp => List.mem_range.mpr (by have := h3 p hp; omega)
  simpa using (hnodup.subperm hsub).length_le

theorem contextsRise_iff (hs : s.StoreLaws) :
    s.ContextsRise ↔ Contexts s.print.contexts (s.print.kind = .cell) s := by
  refine ⟨fun ⟨_, h2, h3, h4, h5⟩ => ⟨h2, h3, fun e he => h4 e he.1 he.2, h5⟩,
    fun ⟨h2, h3, h4, h5⟩ => ⟨?_, h2, h3, fun e he he' => h4 e ⟨he, he'⟩, h5⟩⟩
  have h := length_le_of_rising (s.print.contexts.map fun c => (s.record c.entry).precedence) (List.pairwise_map.mpr h2)
    (by
      intro p hp
      obtain ⟨c, hc, rfl⟩ := List.mem_map.mp hp
      exact (hs.record _ (numbered_of_inUse (h3 c hc).1)).2.2.1)
  simpa using h

section
variable {cs : List PrintContext} {cell : Prop}

/-- Contexts that are no longer, with no cell in progress that was not. -/
theorem Contexts.sublist {cs' : List PrintContext} {cell' : Prop} (h : Contexts cs cell s) (hsub : cs'.Sublist cs)
    (hcell : cell' → cell ∧ cs'.head? = cs.head?) : Contexts cs' cell' s :=
  ⟨h.rise.sublist hsub, fun c hc => h.mem c (hsub.subset hc), h.cursor, fun hc c hhead =>
    h.cell (hcell hc).1 c ((hcell hc).2 ▸ hhead)⟩

/-- The contexts rest on the records alone. -/
theorem Contexts.of_record {t : State} (h : Contexts cs cell s) (hr : ∀ x, t.record x = s.record x) : Contexts cs cell t := by
  obtain ⟨h1, h2, h3, h4⟩ := h
  constructor <;> simpa only [InUse, hr]

/-- The contexts under a change of the records at one entry. -/
theorem Contexts.change {t : State} {r : Record} (h : Contexts cs cell s)
    (hr : ∀ x, Numbered x → t.record x = if x = e then r else s.record x) (hp : r.precedence = (s.record e).precedence)
    (hl : (s.record e).length ≤ r.length) (hstate : r.state ≠ .empty) (hcursor : r.print.cursor ≤ r.length)
    (hmark : e ∈ cs.map (·.entry) → r.print.mark = true)
    (hcell : cell → ∀ c ∈ cs.head?, c.entry = e → r.print.cursor < r.length) : Contexts cs cell t := by
  have hprec {x : Nat} (hx : s.InUse x) : (t.record x).precedence = (s.record x).precedence := by
    rw [hr x (numbered_of_inUse hx)]
    split
    · rename_i heq
      rw [hp, heq]
    · rfl
  refine ⟨?_, fun c hc => ?_, fun x hx => ?_, fun hcl c hc => ?_⟩
  · refine h.rise.imp_of_mem fun ha hb hlt => ?_
    rwa [hprec (h.mem _ ha).1, hprec (h.mem _ hb).1]
  · obtain ⟨hu, hm, hls⟩ := h.mem c hc
    have hn := numbered_of_inUse hu
    rw [inUse_iff, hr _ hn]
    split
    · rename_i heq
      refine ⟨⟨hn, hstate⟩, hmark (List.mem_map.mpr ⟨c, hc, heq⟩), hls.trans ?_⟩
      rwa [heq]
    · exact ⟨⟨hn, hu.2.2⟩, hm, hls⟩
  · rw [hr x hx]
    split
    · exact hcursor
    · exact h.cursor x hx
  · have hn := numbered_of_inUse (h.mem c (List.mem_of_mem_head? hc)).1
    rw [hr _ hn]
    split
    · exact hcell hcl c hc ‹_›
    · exact h.cell hcl c hc

/-- The contexts under a change of an entry that none of them names. -/
theorem Contexts.changeOther {t : State} {r : Record} (h : Contexts cs cell s)
    (hr : ∀ x, Numbered x → t.record x = if x = e then r else s.record x) (hcursor : r.print.cursor ≤ r.length)
    (hnot : e ∉ cs.map (·.entry)) : Contexts cs cell t := by
  have hsame {c : PrintContext} (hc : c ∈ cs) : t.record c.entry = s.record c.entry := by
    rw [hr _ (numbered_of_inUse (h.mem c hc).1), if_neg fun heq => hnot (List.mem_map.mpr ⟨c, hc, heq⟩)]
  refine ⟨?_, fun c hc => ?_, fun x hx => ?_, fun hcl c hc => ?_⟩
  · refine h.rise.imp_of_mem fun ha hb hlt => ?_
    rwa [hsame ha, hsame hb]
  · rw [inUse_iff, hsame hc, ← inUse_iff]
    exact h.mem c hc
  · rw [hr x hx]
    split
    · exact hcursor
    · exact h.cursor x hx
  · rw [hsame (List.mem_of_mem_head? hc)]
    exact h.cell hcl c hc

/-- An unmarked entry is in no context. -/
theorem Contexts.not_mem (h : Contexts cs cell s) (hm : (s.record e).print.mark = false) : e ∉ cs.map (·.entry) := by
  intro hmem
  obtain ⟨c, hc, rfl⟩ := List.mem_map.mp hmem
  rw [(h.mem c hc).2.1] at hm
  cases hm

end

/-! ### The store, the stack and the contexts together -/

/-- The store is sound, with the stack `st` whose top is in state `top`, and with the print contexts. -/
structure Kept (st : List StackEntry) (top : RecState) (s : State) : Prop where
  store : s.StoreLaws
  stack : Stacked st top s
  contexts : Contexts s.print.contexts (s.print.kind = .cell) s
  stands : Stands top

/-- A record becomes one that differs in nothing that the store, the stack and the printer rest on. -/
structure SameBase (r r' : Record) : Prop where
  state : r'.state = r.state
  blocks : r'.blocks = r.blocks
  length : r'.length = r.length
  precedence : r'.precedence = r.precedence
  cursor : r'.print.cursor = r.print.cursor
  mark : r'.print.mark = r.print.mark

theorem SameBase.amends {r r' : Record} (h : SameBase r r') : r.Amends r' :=
  ⟨h.blocks, h.length, h.precedence, by rw [h.state], fun hc => h.state ▸ hc⟩

/-- The state's parts that these rest on being the same, they stand. -/
theorem Kept.of_eq {t : State} (h : Kept st top s) (hd : t.store.dir = s.store.dir) (ha : t.store.arrival = s.store.arrival)
    (hf : t.store.free = s.store.free) (hc : t.print.contexts = s.print.contexts) (hk : t.print.kind = s.print.kind) :
    Kept st top t := by
  have hr (e : Nat) : t.record e = s.record e := by simp only [State.record, hd]
  refine ⟨h.store.of_eq hd ha hf, h.stack.of_states fun x _ => by rw [hr], ?_, h.stands⟩
  rw [hc, hk]
  exact h.contexts.of_record hr

/-- The printer's contexts no longer, and no cell in progress that was not. -/
theorem Kept.onPrint (h : Kept st top s) (f : PrintBlock → PrintBlock) (hsub : (f s.print).contexts.Sublist s.print.contexts)
    (hcell : (f s.print).kind = .cell → s.print.kind = .cell ∧ (f s.print).contexts.head? = s.print.contexts.head?) :
    Kept st top (s.onPrint f) :=
  ⟨h.store.of_eq rfl rfl rfl, h.stack.of_states fun _ _ => rfl,
    (h.contexts.sublist hsub hcell).of_record fun _ => rfl, h.stands⟩

/-- An entry replaced by a record of the same cells, with its state kept or outside the stack, and its print output on the form. -/
theorem Kept.setRecord (h : Kept st top s) (he : Numbered e) {r : Record} (ha : (s.record e).Amends r)
    (hst : r.state = (s.record e).state ∨ (¬Stands r.state ∧ ¬Stands (s.record e).state)) (hc : r.print.cursor ≤ r.length)
    (hm : e ∈ s.print.contexts.map (·.entry) → r.print.mark = true)
    (hcell : s.print.kind = .cell → ∀ c ∈ s.print.contexts.head?, c.entry = e → r.print.cursor < r.length) :
    Kept st top (s.setRecord e r) := by
  obtain ⟨hstore, hstack, hcontexts, hstands⟩ := h
  have hr (x : Nat) (hx : Numbered x) := record_setRecord hstore.dir he hx r
  refine ⟨hstore.setRecord he ha, hstack.change hstands hr hst, ?_, hstands⟩
  by_cases hempty : (s.record e).state = .empty
  · refine hcontexts.changeOther hr hc fun hmem => ?_
    obtain ⟨c, hcm, heq⟩ := List.mem_map.mp hmem
    exact (hcontexts.mem c hcm).1.2.2 (heq ▸ hempty)
  · exact hcontexts.change hr ha.precedence ha.length.ge (fun he => hempty (ha.empty.mp he)) hc hm hcell

theorem Kept.freeRecord (h : Kept st top s) (he : Numbered e) (hclosed : (s.record e).state.isClosed = true)
    (hm : (s.record e).print.mark = false) : Kept st top (s.freeRecord e) := by
  obtain ⟨hstore, hstack, hcontexts, hstands⟩ := h
  have hr (x : Nat) (hx : Numbered x) := record_freeRecord (s := s) hstore.dir he hx
  refine ⟨hstore.freeRecord he, hstack.change hstands hr (.inr ⟨?_, ?_⟩), ?_, hstands⟩
  · simp [Stands, Record.empty]
  · obtain h | h := Record.isClosed_iff.mp hclosed <;> simp [Stands, h]
  · exact hcontexts.changeOther hr (by simp [Record.empty, Output.none]) (hcontexts.not_mem hm)

theorem Kept.examine (h : Kept st top s) (he : Numbered e) : Kept st top (s.examine e) := by
  rw [examine_eq]
  split
  · rename_i hdisp
    obtain ⟨hclosed, -, -, -, -, hm, -⟩ := (Record.disposable_iff _).mp hdisp
    rw [Record.printDone_state] at hclosed
    rw [Record.printDone_mark] at hm
    exact h.freeRecord he hclosed hm
  · refine h.setRecord he (Record.amends_printDone _) (.inl (by simp)) (by simpa using h.contexts.cursor e he)
      (fun hmem => ?_) fun hk c hc heq => ?_
    · obtain ⟨c, hc, rfl⟩ := List.mem_map.mp hmem
      simpa using (h.contexts.mem c hc).2.1
    · subst heq
      simpa using h.contexts.cell hk c hc

/-- An entry replaced as above and examined. -/
theorem Kept.updRecord (h : Kept st top s) (he : Numbered e) {f : Record → Record} (ha : (s.record e).Amends (f (s.record e)))
    (hst : (f (s.record e)).state = (s.record e).state ∨ (¬Stands (f (s.record e)).state ∧ ¬Stands (s.record e).state))
    (hc : (f (s.record e)).print.cursor ≤ (f (s.record e)).length)
    (hm : e ∈ s.print.contexts.map (·.entry) → (f (s.record e)).print.mark = true)
    (hcell : s.print.kind = .cell → ∀ c ∈ s.print.contexts.head?, c.entry = e →
      (f (s.record e)).print.cursor < (f (s.record e)).length) :
    Kept st top (s.updRecord e f) := (h.setRecord he ha hst hc hm hcell).examine he

theorem Kept.setBase (h : Kept st top s) (he : Numbered e) {r : Record} (hb : SameBase (s.record e) r) :
    Kept st top (s.setRecord e r) := by
  refine h.setRecord he hb.amends (.inl hb.state) (by rw [hb.cursor, hb.length]; exact h.contexts.cursor e he)
    (fun hmem => ?_) fun hk c hc heq => ?_
  · obtain ⟨c, hc, rfl⟩ := List.mem_map.mp hmem
    rw [hb.mark]
    exact (h.contexts.mem c hc).2.1
  · subst heq
    rw [hb.cursor, hb.length]
    exact h.contexts.cell hk c hc

theorem Kept.updBase (h : Kept st top s) (he : Numbered e) {f : Record → Record} (hb : SameBase (s.record e) (f (s.record e))) :
    Kept st top (s.updRecord e f) := (h.setBase he hb).examine he

/-- A fold over entry numbers of what keeps the store, the stack and the contexts. -/
theorem Kept.foldl (h : Kept st top s) (l : List Nat) (hl : ∀ e ∈ l, Numbered e) (f : State → Nat → State)
    (hf : ∀ u e, Numbered e → Kept st top u → Kept st top (f u e)) : Kept st top (l.foldl f s) := by
  induction l generalizing s with
  | nil => exact h
  | cons a l ih =>
    exact ih (hf s a (hl a List.mem_cons_self) h) fun e he => hl e (List.mem_cons_of_mem a he)

theorem Kept.arrival_numbered (h : Kept st top s) : ∀ e ∈ s.store.arrival, Numbered e :=
  fun e he => numbered_of_inUse ((h.store.arrival e).mp he)

theorem Kept.forRecords (h : Kept st top s) (f : State → Nat → State)
    (hf : ∀ u e, Numbered e → Kept st top u → Kept st top (f u e)) : Kept st top (s.forRecords f) :=
  h.foldl _ h.arrival_numbered f hf

end State
end Sys2Proof.Machine
end

section
/-! PROOF. Each operation of the punch, the transmitter, the printer and the store keeps the store, the open-message stack and the print
contexts sound (sections 3.1 to 3.5, 4.5). -/

namespace Sys2Proof.Machine

/-- The claim table and the pieces after a claim request (R102). -/
def PunchBlock.claimed (b : PunchBlock) (src : PunchSource) : PunchBlock :=
  match (b.claim src).state with
  | .holding | .waiting =>
    if (b.claim src).count < 15 then b.setClaim src { b.claim src with count := (b.claim src).count + 1 } else b
  | .draining => (b.setClaim src ⟨.holding, 1⟩).dropTrailer
  | .idle =>
    if b.holder.isNone then { b.setClaim src ⟨.holding, 1⟩ with leaderOwed := true } else b.setClaim src ⟨.waiting, 1⟩

namespace State

/-- A claim request changes the punch alone. -/
theorem claimRequest_fst (s : State) (src : PunchSource) : (s.claimRequest src).1 = s.onPunch (·.claimed src) := by
  cases hstate : (s.punch.claim src).state
  case draining => simp only [claimRequest, PunchBlock.claimed, onPunch, hstate]
  case idle =>
    simp only [claimRequest, PunchBlock.claimed, onPunch, hstate]
    split <;> rfl
  all_goals
    simp only [claimRequest, PunchBlock.claimed, onPunch, hstate]
    split <;> rfl

/-- A release request counts down above 1, and releases the source at 1. -/
theorem releaseRequest_fst (s : State) (src : PunchSource) :
    (s.releaseRequest src).1 =
      if claims (s.punch.claim src) = true ∧ 1 < (s.punch.claim src).count then
        s.onPunch (·.setClaim src { s.punch.claim src with count := (s.punch.claim src).count - 1 })
      else s.releaseAll src := by
  cases hstate : (s.punch.claim src).state
  case idle => simp [releaseRequest, claims, releaseAll, hstate]
  case draining => simp [releaseRequest, claims, releaseAll, hstate]
  all_goals
    simp only [releaseRequest, claims, hstate]
    split <;> simp [*]

variable {s : State} {e : Nat} {st : List StackEntry} {top : RecState}

/-! ### Changes that the store, the stack and the printer do not see -/

namespace Kept

theorem onPunch (h : Kept st top s) (f : PunchBlock → PunchBlock) : Kept st top (s.onPunch f) := h.of_eq rfl rfl rfl rfl rfl
theorem onTx (h : Kept st top s) (f : TxBlock → TxBlock) : Kept st top (s.onTx f) := h.of_eq rfl rfl rfl rfl rfl
theorem onKb (h : Kept st top s) (f : KbBlock → KbBlock) : Kept st top (s.onKb f) := h.of_eq rfl rfl rfl rfl rfl
theorem onDir (h : Kept st top s) (f : DirBlock → DirBlock) : Kept st top (s.onDir f) := h.of_eq rfl rfl rfl rfl rfl
theorem onConn (h : Kept st top s) (f : ConnBlock → ConnBlock) : Kept st top (s.onConn f) := h.of_eq rfl rfl rfl rfl rfl
theorem setStack (h : Kept st top s) (l : List StackEntry) : Kept st top (s.setStack l) := h.of_eq rfl rfl rfl rfl rfl

/-! ### The punch -/

theorem markPunch (h : Kept st top s) (he : Numbered e) (m : Bool) : Kept st top (s.markPunch e m) :=
  h.updBase he ⟨rfl, rfl, rfl, rfl, rfl, rfl⟩

theorem advancePunch (h : Kept st top s) (he : Numbered e) : Kept st top (s.advancePunch e) :=
  h.updBase he ⟨rfl, rfl, rfl, rfl, rfl, rfl⟩

theorem abandonMarked (h : Kept st top s) (src : PunchSource) : Kept st top (s.abandonMarked src) := by
  refine h.forRecords _ fun u e he hu => ?_
  dsimp only
  split
  · exact hu.updBase he ⟨rfl, rfl, rfl, rfl, rfl, rfl⟩
  · exact hu

theorem claimRequest (h : Kept st top s) (src : PunchSource) : Kept st top (s.claimRequest src).1 := by
  rw [claimRequest_fst]
  exact h.onPunch _

theorem releaseAll (h : Kept st top s) (src : PunchSource) : Kept st top (s.releaseAll src) := by
  unfold State.releaseAll
  split
  · exact h
  · exact h
  · exact h.onPunch _
  · exact (h.onPunch _).abandonMarked src

theorem releaseRequest (h : Kept st top s) (src : PunchSource) : Kept st top (s.releaseRequest src).1 := by
  rw [releaseRequest_fst]
  split
  · exact h.onPunch _
  · exact h.releaseAll src

theorem tapeKey (h : Kept st top s) : Kept st top s.tapeKey := by
  unfold State.tapeKey
  split
  · exact h.claimRequest _
  · exact h.claimRequest _
  · exact h.releaseAll _
  · exact h.releaseAll _

theorem leaveCopyList (h : Kept st top s) (he : Numbered e) : Kept st top (s.leaveCopyList e) := by
  have hreleased := (h.onPunch fun b => { b with copyList := b.copyList.erase e }).releaseRequest .copy
  simp only [State.leaveCopyList]
  split
  · exact hreleased
  · exact hreleased.markPunch he false

theorem requestCopy (h : Kept st top s) (he : Numbered e) : Kept st top (s.requestCopy e).1 := by
  simp only [State.requestCopy]
  split
  · exact h
  split
  · exact h
  split
  · exact h
  have hset : Kept st top (s.setRecord e { s.record e with punch := ⟨.pending, 0, true⟩, punchSource := .copy }) :=
    h.setBase he ⟨rfl, rfl, rfl, rfl, rfl, rfl⟩
  exact (hset.onPunch _).claimRequest _

theorem takePunchCell (h : Kept st top s) (he : Numbered e) : Kept st top (s.takePunchCell e) := by
  simp only [State.takePunchCell]
  split
  · exact h.onPunch _
  split
  · exact (h.onPunch _ : Kept st top s.countPunchSkip).advancePunch he
  · exact h.onPunch _

theorem letGoPunch (h : Kept st top s) (he : Numbered e) : Kept st top (s.letGoPunch e) :=
  (h.onPunch _).markPunch he false

theorem finishPunch (h : Kept st top s) (he : Numbered e) : Kept st top (s.finishPunch e) := by
  have hdone : Kept st top (s.setRecord e { s.record e with punch := { (s.record e).punch with status := .done } }) :=
    h.setBase he ⟨rfl, rfl, rfl, rfl, rfl, rfl⟩
  simp only [State.finishPunch]
  split
  · exact (hdone.leaveCopyList he).letGoPunch he
  · exact hdone.letGoPunch he

theorem choosePunch (h : Kept st top s) (he : Numbered e) : Kept st top (s.choosePunch e) :=
  (h.onPunch _).setBase he ⟨rfl, rfl, rfl, rfl, rfl, rfl⟩

theorem restartRecord (h : Kept st top s) (he : ∀ e ∈ s.punch.current, Numbered e) : Kept st top s.restartRecord := by
  cases hc : s.punch.current with
  | none => simpa [State.restartRecord, hc] using h
  | some e =>
    simp only [State.restartRecord, hc]
    exact (h.onPunch _).setBase (he e hc) ⟨rfl, rfl, rfl, rfl, rfl, rfl⟩

theorem handover (h : Kept st top s) : Kept st top s.handover := by
  unfold State.handover
  split
  · exact h
  · exact h.onPunch _

theorem trailerEnd (h : Kept st top s) : Kept st top s.trailerEnd := by
  unfold State.trailerEnd
  split
  · exact h
  · exact (h.onPunch _).handover

theorem endPiece (h : Kept st top s) (he : ∀ e ∈ s.punch.current, Numbered e) : Kept st top s.endPiece := by
  have hnone := h.onPunch fun b => { b with piece := .none }
  simp only [State.endPiece]
  cases s.punch.piece <;> dsimp only
  case none => exact hnone
  case feed => exact hnone
  case leader => exact hnone.onPunch _
  case reelLeader =>
    split
    · exact (hnone.onPunch _).restartRecord he
    · exact hnone.onPunch _
  case trailer => exact (hnone.onPunch _).trailerEnd
  case heading => exact hnone.onPunch _
  case endRows => exact hnone.onPunch _
  case cell =>
    split
    · exact hnone
    · rename_i e hc
      exact hnone.advancePunch (he e hc)

theorem goOnPunching {t : State} (h : Kept st top s) (he : Numbered e) (ht : s.goOnPunching e = some t) : Kept st top t := by
  simp only [State.goOnPunching] at ht
  repeat' split at ht
  all_goals cases ht
  · exact h.onPunch _
  · exact h.letGoPunch he
  · exact h.onPunch _
  · exact h.takePunchCell he
  · exact h.onPunch _
  · exact h.finishPunch he

end Kept

/-- A search over the arrival list for the best entry finds one on it that qualifies. -/
theorem bestEntry_some {ok : Record → Bool} (h : s.bestEntry ok = some e) : e ∈ s.store.arrival ∧ ok (s.record e) = true := by
  have hfold : ∀ (l : List Nat) (b : Option Nat),
      (∀ x ∈ b, x ∈ s.store.arrival ∧ ok (s.record x) = true) → (∀ x ∈ l, x ∈ s.store.arrival) →
      ∀ x ∈ l.foldl (fun best e =>
        if ok (s.record e) then
          match best with
          | none => some e
          | some b => if (s.record b).precedence < (s.record e).precedence then some e else some b
        else best) b, x ∈ s.store.arrival ∧ ok (s.record x) = true := by
    intro l
    induction l with
    | nil => exact fun b hb _ => hb
    | cons a l ih =>
      intro b hb hl
      refine ih _ ?_ fun x hx => hl x (List.mem_cons_of_mem a hx)
      have ha := hl a List.mem_cons_self
      intro x hx
      dsimp only at hx
      split at hx
      · rename_i hok
        cases b with
        | none => cases hx; exact ⟨ha, hok⟩
        | some b =>
          dsimp only at hx
          split at hx
          · cases hx; exact ⟨ha, hok⟩
          · exact hb x hx
      · exact hb x hx
  exact hfold _ none (by simp) (fun _ => id) e h

/-- The record that a holder has to punch is numbered. -/
theorem nextToPunch_numbered (h : Kept st top s) (hcopy : ∀ e ∈ s.punch.copyList, Numbered e) {src : PunchSource}
    (hn : s.nextToPunch src = some e) : Numbered e := by
  cases src <;> simp only [nextToPunch] at hn
  case copy => exact hcopy e (List.mem_of_mem_head? hn)
  all_goals exact h.arrival_numbered e (bestEntry_some hn).1

namespace Kept

theorem serveHolder {t : State} (h : Kept st top s) (hcopy : ∀ e ∈ s.punch.copyList, Numbered e)
    (ht : s.serveHolder = some t) : Kept st top t := by
  simp only [State.serveHolder] at ht
  split at ht
  · cases ht
  · split at ht
    · rename_i hnext
      cases ht
      exact h.choosePunch (nextToPunch_numbered h hcopy hnext)
    · split at ht <;> cases ht
      exact h.onPunch _

theorem punchStep {t : State} (h : Kept st top s) (hcur : ∀ e ∈ s.punch.current, Numbered e)
    (hcopy : ∀ e ∈ s.punch.copyList, Numbered e) (ht : s.punchStep = some t) : Kept st top t := by
  simp only [State.punchStep] at ht
  split at ht
  · cases ht
  split at ht
  · split at ht
    · cases ht
      exact h.onPunch _
    · split at ht <;> cases ht
      exact h.onPunch _
  split at ht
  · cases ht
    exact h.onPunch _
  split at ht
  · cases ht
    simp only [State.takeFraming]
    split
    · exact (h.onPunch _).onPunch _
    · exact (h.onPunch _).onPunch _
  split at ht
  · simp only [State.punchBoundary] at ht
    split at ht
    · cases ht
      exact (h.onPunch _).onPunch _
    split at ht
    · cases ht
      exact (h.onPunch _).onPunch _
    split at ht
    · rename_i hc
      exact h.goOnPunching (hcur _ hc) ht
    · exact h.serveHolder hcopy ht
  · cases ht
    exact h.endPiece hcur

theorem newReel (h : Kept st top s) : Kept st top s.newReel := by
  unfold State.newReel State.beginBlank
  exact (h.onPunch _).onPunch _

theorem rowDone (h : Kept st top s) : Kept st top s.rowDone := by
  simp only [State.rowDone]
  split
  · split
    · exact (h.onPunch _).newReel
    · exact h.onPunch _
  · exact h

theorem resetPunch (h : Kept st top s) : Kept st top s.resetPunch :=
  (h.onPunch _).forRecords _ fun _ _ he hu => hu.updBase he
    ⟨rfl, rfl, rfl, rfl, rfl, rfl⟩

/-! ### The line transmitter -/

theorem letGoSend (h : Kept st top s) (he : Numbered e) (g : Bool) : Kept st top (s.letGoSend e g) :=
  h.updBase he ⟨rfl, rfl, rfl, rfl, rfl, rfl⟩

theorem advanceSend (h : Kept st top s) (he : Numbered e) : Kept st top (s.advanceSend e) :=
  h.updBase he ⟨rfl, rfl, rfl, rfl, rfl, rfl⟩

theorem requestRetrieval (h : Kept st top s) (he : Numbered e) : Kept st top (s.requestRetrieval e).1 := by
  simp only [State.requestRetrieval]
  split
  · exact h
  split
  · exact h
  split
  · exact h
  have hset : Kept st top (s.setRecord e { s.record e with send := ⟨.pending, 0, true⟩ }) :=
    h.setBase he ⟨rfl, rfl, rfl, rfl, rfl, rfl⟩
  dsimp only
  exact hset.onTx _

theorem dropItems (h : Kept st top s) (hr : ∀ e ∈ s.tx.retrieved, Numbered e) (hk : ∀ e ∈ s.tx.keyboardText, Numbered e) :
    Kept st top s.dropItems := by
  refine (h.onTx _).foldl _ (fun e he => ?_) _ fun u e he hu => hu.letGoSend he true
  rcases List.mem_append.mp he with he | he
  · exact hr e (Option.mem_toList.mp he)
  · exact hk e (Option.mem_toList.mp he)

theorem abandonSends (h : Kept st top s) (ok : Record → Bool) : Kept st top (s.abandonSends ok) := by
  refine h.forRecords _ fun u e he hu => ?_
  dsimp only
  split
  · exact hu.updBase he ⟨rfl, rfl, rfl, rfl, rfl, rfl⟩
  · exact hu

theorem discardSends (h : Kept st top s) (hr : ∀ e ∈ s.tx.retrieved, Numbered e) (hk : ∀ e ∈ s.tx.keyboardText, Numbered e) :
    Kept st top s.discardSends := (h.dropItems hr hk).abandonSends _

theorem resetTx (h : Kept st top s) (hr : ∀ e ∈ s.tx.retrieved, Numbered e) (hk : ∀ e ∈ s.tx.keyboardText, Numbered e) :
    Kept st top s.resetTx := ((h.dropItems hr hk).onTx _).abandonSends _

theorem endRetrieval {t : Retrieval} (h : Kept st top s) (hr : ∀ e ∈ t.entry, Numbered e) :
    Kept st top (s.endRetrieval t) := by
  simp only [State.endRetrieval]
  split
  · exact h.onTx _
  · rename_i e he
    exact (h.onTx _).updBase (hr e he) ⟨rfl, rfl, rfl, rfl, rfl, rfl⟩

theorem endKeyboardText (h : Kept st top s) (he : Numbered e) : Kept st top (s.endKeyboardText e) :=
  (h.onTx _).updBase he ⟨rfl, rfl, rfl, rfl, rfl, rfl⟩

theorem takeKeyboardText (h : Kept st top s) (he : Numbered e) : Kept st top (s.takeKeyboardText e) :=
  (h.updBase he ⟨rfl, rfl, rfl, rfl, rfl, rfl⟩).onTx _

theorem settleItems {t : State} (h : Kept st top s) (hr : ∀ e ∈ s.tx.retrieved, Numbered e)
    (hk : ∀ e ∈ s.tx.keyboardText, Numbered e) (ht : s.settleItems = some t) : Kept st top t := by
  have hret {r : Retrieval} (heq : s.tx.retrieval = some r) : ∀ e ∈ r.entry, Numbered e := by
    simpa [TxBlock.retrieved, heq] using hr
  simp only [State.settleItems] at ht
  split at ht
  · rename_i r hfilter
    obtain ⟨e, he, rfl⟩ := Option.map_eq_some_iff.mp ht
    have hsome := (Option.filter_eq_some_iff.mp hfilter).1
    exact (h.onTx _).letGoSend (hret hsome e he) false
  split at ht
  · rename_i r hfilter
    cases ht
    exact h.endRetrieval (hret (Option.filter_eq_some_iff.mp hfilter).1)
  split at ht
  · rename_i e hkt
    split at ht <;> cases ht
    exact (h.onTx _).letGoSend (hk e hkt) false
  · obtain ⟨e, he, rfl⟩ := Option.map_eq_some_iff.mp ht
    exact h.takeKeyboardText (h.arrival_numbered e (List.mem_of_find?_eq_some he))

theorem sendCell (h : Kept st top s) (he : Numbered e) {item : TxItem}
    (hitem : item = .retrievalCell e ∨ item = .keyboardCell e) : Kept st top (s.sendCell item e) := by
  have hdone : Kept st top (s.countSendSkip.codeDone item) := by
    rcases hitem with rfl | rfl <;> exact (h.onTx _).advanceSend he
  simp only [State.sendCell, State.sendCode]
  split
  · exact h.onTx _
  · exact hdone

end Kept
end State
end Sys2Proof.Machine
end

section
/-! PROOF. Each operation of the printer keeps the store, the open-message stack and the print contexts sound (sections 4.3, 4.5 to
4.8). -/

namespace Sys2Proof.Machine
namespace State

variable {s : State} {e : Nat} {st : List StackEntry} {top : RecState}

/-! ### The top context -/

/-- The top context, if there is one, changed. -/
def onTop (s : State) (f : PrintContext → PrintContext) : State :=
  s.onPrint fun b => match b.contexts with
    | [] => b
    | top :: rest => { b with contexts := f top :: rest }

theorem onTop_nil (f : PrintContext → PrintContext) (h : s.print.contexts = []) : s.onTop f = s := by
  simp only [onTop, onPrint, h]

theorem onTop_cons {f : PrintContext → PrintContext} {c : PrintContext} {rest : List PrintContext}
    (h : s.print.contexts = c :: rest) : s.onTop f = s.onPrint fun b => { b with contexts := f c :: rest } := by
  simp only [onTop, onPrint, h]

theorem setLineStart_eq (n : Nat) : s.setLineStart n = s.onTop fun c => { c with lineStart := n } := rfl

theorem markMidLine_eq : s.markMidLine = s.onTop fun c => { c with midLine := c.midLine || s.print.column != 1 } := rfl

/-- A best candidate is a record in use that is owed to the printer and in no context (R80). -/
theorem bestCandidate_some (hs : s.StoreLaws) (h : s.bestCandidate = some e) : s.InUse e ∧ candidate (s.record e) = true := by
  obtain ⟨hmem, hok⟩ := bestEntry_some (show s.bestEntry candidate = some e from h)
  exact ⟨(hs.arrival e).mp hmem, hok⟩

/-- A candidate that exceeds an entry is the best candidate, of higher precedence. -/
theorem exceeding_some {c : Nat} (h : s.exceeding e = some c) :
    s.bestCandidate = some c ∧ (s.record e).precedence < (s.record c).precedence := by
  simp only [exceeding] at h
  split at h
  · cases h
  · split at h <;> cases h
    exact ⟨‹_›, ‹_›⟩

namespace Kept

theorem onTop (h : Kept st top s) (f : PrintContext → PrintContext) (hentry : ∀ c, (f c).entry = c.entry)
    (hline : ∀ c ∈ s.print.contexts.head?, (f c).lineStart ≤ (s.record c.entry).length) : Kept st top (s.onTop f) := by
  cases hc : s.print.contexts with
  | nil => rwa [onTop_nil f hc]
  | cons c rest =>
    obtain ⟨hstore, hstack, ⟨h1, h2, h3, h4⟩, hstands⟩ := h
    rw [hc] at h1 h2 h4 hline
    rw [onTop_cons hc]
    refine ⟨hstore.of_eq rfl rfl rfl, hstack.of_states fun _ _ => rfl, Contexts.of_record (s := s) ⟨?_, ?_, h3, ?_⟩ fun _ => rfl,
      hstands⟩
    · rw [List.pairwise_cons] at h1
      exact List.pairwise_cons.mpr ⟨fun d hd => by rw [hentry]; exact h1.1 d hd, h1.2⟩
    · intro d hd
      obtain rfl | hd := List.mem_cons.mp hd
      · obtain ⟨hu, hm, -⟩ := h2 c List.mem_cons_self
        rw [hentry]
        exact ⟨hu, hm, hline c rfl⟩
      · exact h2 d (List.mem_cons_of_mem c hd)
    · intro hk d hd
      cases hd
      rw [hentry]
      exact h4 hk c rfl

/-- A change of the printer that leaves its contexts, with no cell in progress then. -/
theorem onSequence (h : Kept st top s) (f : PrintBlock → PrintBlock) (hc : (f s.print).contexts = s.print.contexts)
    (hk : (f s.print).kind ≠ .cell) : Kept st top (s.onPrint f) :=
  h.onPrint f (by rw [hc]) fun hcell => absurd hcell hk

/-- An operation's change of the printer. -/
theorem onOperation (h : Kept st top s) (f : PrintBlock → PrintBlock) (hc : (f s.print).contexts = s.print.contexts)
    (hk : (f s.print).kind = s.print.kind) : Kept st top (s.onPrint f) := h.of_eq rfl rfl rfl hc hk

/-- A context pushed of a record above all those of the stack. -/
theorem push (h : Kept st top s) (f : PrintBlock → PrintBlock) {c : PrintContext}
    (hctx : (f s.print).contexts = c :: s.print.contexts) (hk : (f s.print).kind ≠ .cell) (huse : s.InUse c.entry)
    (hm : (s.record c.entry).print.mark = true) (hline : c.lineStart ≤ (s.record c.entry).length)
    (hp : ∀ d ∈ s.print.contexts, (s.record d.entry).precedence < (s.record c.entry).precedence) :
    Kept st top (s.onPrint f) := by
  obtain ⟨hstore, hstack, ⟨h1, h2, h3, -⟩, hstands⟩ := h
  refine ⟨hstore.of_eq rfl rfl rfl, hstack.of_states fun _ _ => rfl,
    Contexts.of_record (s := s) ⟨?_, ?_, h3, fun hcell => absurd hcell hk⟩ fun _ => rfl, hstands⟩
  · rw [onPrint_print, hctx]
    exact List.pairwise_cons.mpr ⟨hp, h1⟩
  · rw [onPrint_print, hctx]
    intro d hd
    obtain rfl | hd := List.mem_cons.mp hd
    · exact ⟨huse, hm, hline⟩
    · exact h2 d hd

theorem cursor_le (h : Kept st top s) (he : Numbered e) : (s.record e).print.cursor ≤ (s.record e).length :=
  h.contexts.cursor e he

/-- A record of no context loses its print mark. -/
theorem unmark (h : Kept st top s) (he : Numbered e) (hnot : e ∉ s.print.contexts.map (·.entry)) (status : Record → OutStatus) :
    Kept st top (s.updRecord e fun r => { r with print := ⟨status r, r.print.cursor, false⟩ }) :=
  h.updRecord he ⟨rfl, rfl, rfl, Iff.rfl, id⟩ (.inl rfl) (h.cursor_le he) (fun hmem => absurd hmem hnot) fun _ c hc heq =>
    absurd (List.mem_map.mpr ⟨c, List.mem_of_mem_head? hc, heq⟩) hnot

theorem markPrint (h : Kept st top s) (he : Numbered e) (hnot : e ∉ s.print.contexts.map (·.entry)) :
    Kept st top (s.markPrint e false) := h.unmark he hnot (·.print.status)

theorem pushContext (h : Kept st top s) (he : s.InUse e)
    (hp : ∀ d ∈ s.print.contexts, (s.record d.entry).precedence < (s.record e).precedence) :
    Kept st top (s.pushContext e) := by
  have hn := numbered_of_inUse he
  have hmarked : Kept st top (s.setRecord e { s.record e with print := { (s.record e).print with mark := true } }) := by
    refine h.setRecord hn ⟨rfl, rfl, rfl, Iff.rfl, id⟩ (.inl rfl) (h.cursor_le hn) (fun _ => rfl) fun hk c hc heq => ?_
    subst heq
    exact h.contexts.cell hk c hc
  have hr {x : Nat} (hx : Numbered x) := record_setRecord h.store.dir hn hx
    { s.record e with print := { (s.record e).print with mark := true } }
  have hself := hr hn
  rw [if_pos rfl] at hself
  have hprec {x : Nat} (hx : Numbered x) : ((s.setRecord e { s.record e with
      print := { (s.record e).print with mark := true } }).record x).precedence = (s.record x).precedence := by
    rw [hr hx]
    split
    · rename_i heq
      rw [heq]
    · rfl
  unfold State.pushContext
  refine Kept.push hmarked _ (c := ⟨e, (s.record e).print.cursor, false⟩) rfl (fun hk => by cases hk)
    (inUse_iff.mpr ⟨hn, ?_⟩) ?_ ?_ fun d hd => ?_
  · rw [hself]
    exact he.2.2
  · rw [hself]
  · rw [hself]
    exact h.cursor_le hn
  · rw [hprec (numbered_of_inUse (h.contexts.mem d hd).1), hprec hn]
    exact hp d hd

/-- A candidate above the top lies above every context. -/
theorem above_all (h : Kept st top s) {c : PrintContext} {rest : List PrintContext} (hc : s.print.contexts = c :: rest) {p : Nat}
    (hp : (s.record c.entry).precedence < p) : ∀ d ∈ s.print.contexts, (s.record d.entry).precedence < p := by
  have hrise := h.contexts.rise
  rw [hc] at hrise ⊢
  intro d hd
  obtain rfl | hd := List.mem_cons.mp hd
  · exact hp
  · exact ((List.pairwise_cons.mp hrise).1 d hd).trans hp

theorem preempt (h : Kept st top s) {c : PrintContext} {rest : List PrintContext} (hc : s.print.contexts = c :: rest) {d : Nat}
    (hd : s.exceeding c.entry = some d) : Kept st top (s.preempt d) := by
  obtain ⟨hbest, hprec⟩ := exceeding_some hd
  have huse := (bestCandidate_some h.store hbest).1
  have hmid : Kept st top s.markMidLine :=
    markMidLine_eq (s := s) ▸ h.onTop _ (fun _ => rfl) fun a ha => (h.contexts.mem a (List.mem_of_mem_head? ha)).2.2
  refine hmid.pushContext huse fun a ha => ?_
  have hctx : s.markMidLine.print.contexts = { c with midLine := c.midLine || s.print.column != 1 } :: rest := by
    rw [markMidLine_eq, onTop_cons hc]
    rfl
  rw [hctx] at ha
  have hall := h.above_all hc hprec
  rw [hc] at hall
  obtain rfl | ha := List.mem_cons.mp ha
  · exact hprec
  · exact hall a (List.mem_cons_of_mem c ha)

theorem dropTop (h : Kept st top s) (hk : s.print.kind ≠ .cell) (d : Bool) :
    Kept st top (s.dropTop d) ∧ (s.dropTop d).print.kind = s.print.kind ∧
      (s.dropTop d).print.contexts = s.print.contexts.tail := by
  cases hc : s.print.contexts with
  | nil =>
    have hsame : s.dropTop d = s := by simp only [State.dropTop, hc]
    rw [hsame]
    exact ⟨h, rfl, by rw [hc]; rfl⟩
  | cons c rest =>
    have hshort : Kept st top (s.onPrint fun b => { b with contexts := rest }) :=
      h.onPrint _ (by rw [hc]; exact List.sublist_cons_self c rest) fun hcell => absurd hcell hk
    have hrise := h.contexts.rise
    rw [hc, List.pairwise_cons] at hrise
    have huse := (h.contexts.mem c (by rw [hc]; exact List.mem_cons_self)).1
    have hnot : c.entry ∉ rest.map (·.entry) := by
      intro hmem
      obtain ⟨a, ha, heq⟩ := List.mem_map.mp hmem
      have := hrise.1 a ha
      rw [heq] at this
      exact lt_irrefl _ this
    simp only [State.dropTop, hc]
    have hframe := updRecord_unrecorded (s.onPrint fun b => { b with contexts := rest }) c.entry
      fun r => { r with print := { status := if d then .done else r.print.status, cursor := r.print.cursor, mark := false } }
    have hprint := of_unrecorded State.print (fun _ => rfl) hframe
    refine ⟨hshort.unmark (numbered_of_inUse huse) hnot fun r => if d then .done else r.print.status, ?_, ?_⟩
    · rw [hprint]
      rfl
    · rw [hprint]
      rfl

theorem resume (h : Kept st top s) (e : Nat) : Kept st top (s.resume e) := h.onSequence _ rfl (by simp)

theorem afterPop (cs : List PrintContext) (h : Kept st top s) (hk : s.print.kind ≠ .cell) (hcs : s.print.contexts = cs) :
    Kept st top (afterPop cs s) := by
  induction cs generalizing s with
  | nil => exact h
  | cons c rest ih =>
    simp only [State.afterPop]
    split
    · obtain ⟨hdrop, hkind, hctx⟩ := h.dropTop hk true
      exact ih hdrop (by rwa [hkind]) (by rw [hctx, hcs]; rfl)
    · split
      · exact h.preempt hcs ‹_›
      · exact h.resume _

theorem popContext (h : Kept st top s) (hk : s.print.kind ≠ .cell) (d : Bool) : Kept st top (s.popContext d) := by
  obtain ⟨hdrop, hkind, -⟩ := h.dropTop hk d
  exact hdrop.afterPop _ (by rwa [hkind]) rfl

theorem setLineStart (h : Kept st top s) {n : Nat}
    (hn : ∀ c ∈ s.print.contexts.head?, n ≤ (s.record c.entry).length) : Kept st top (s.setLineStart n) :=
  setLineStart_eq (s := s) n ▸ h.onTop _ (fun _ => rfl) hn

theorem takePrintCell (h : Kept st top s) {c : PrintContext} {rest : List PrintContext} (hc : s.print.contexts = c :: rest)
    (hlt : (s.record c.entry).print.cursor < (s.record c.entry).length) : Kept st top (s.takePrintCell c.entry) := by
  obtain ⟨hstore, hstack, ⟨h1, h2, h3, -⟩, hstands⟩ := h
  have htaken (ops : List PrinterOp) : Kept st top (s.onPrint fun b => { b with ops := ops, kind := .cell }) := by
    refine ⟨hstore.of_eq rfl rfl rfl, hstack.of_states fun _ _ => rfl,
      Contexts.of_record (s := s) ⟨h1, h2, h3, fun _ d hd => ?_⟩ fun _ => rfl, hstands⟩
    rw [onPrint_print] at hd
    simp only [hc, List.head?_cons, Option.mem_some_iff] at hd
    rwa [← hd]
  simp only [State.takePrintCell]
  split
  · refine (htaken _).setLineStart fun d hd => ?_
    rw [onPrint_print] at hd
    simp only [hc, List.head?_cons, Option.mem_some_iff] at hd
    rw [← hd]
    exact hlt.le
  · exact htaken _

/-- Within the sequence of a cell the print cursor lies below the record's length, so that its end may move it on. -/
theorem cellDone (h : Kept st top s) (hk : s.print.kind ≠ .cell) {c : PrintContext} {rest : List PrintContext}
    (hc : s.print.contexts = c :: rest)
    (hlt : (s.record c.entry).print.cursor < (s.record c.entry).length) : Kept st top (s.cellDone c.entry) := by
  have hmem : c ∈ s.print.contexts := by rw [hc]; exact List.mem_cons_self
  obtain ⟨huse, hmark, -⟩ := h.contexts.mem c hmem
  have hn := numbered_of_inUse huse
  have hmoved : Kept st top (s.setRecord c.entry { s.record c.entry with
      started := true, print := { (s.record c.entry).print with cursor := (s.record c.entry).print.cursor + 1 } }) :=
    h.setRecord hn ⟨rfl, rfl, rfl, Iff.rfl, id⟩ (.inl rfl) hlt (fun _ => hmark) fun hcell => absurd hcell hk
  simp only [State.cellDone]
  split
  · refine hmoved.setLineStart fun d hd => ?_
    rw [setRecord_print, hc] at hd
    cases hd
    rw [record_setRecord h.store.dir hn hn, if_pos rfl]
    exact hlt
  · exact hmoved

theorem rewind (h : Kept st top s) (hk : s.print.kind ≠ .cell) {c : PrintContext} {rest : List PrintContext}
    (hc : s.print.contexts = c :: rest) : Kept st top (s.rewind c) := by
  have hmem : c ∈ s.print.contexts := by rw [hc]; exact List.mem_cons_self
  obtain ⟨huse, hmark, hline⟩ := h.contexts.mem c hmem
  have hn := numbered_of_inUse huse
  have hmoved : Kept st top (s.setRecord c.entry { s.record c.entry with
      print := { (s.record c.entry).print with cursor := c.lineStart } }) :=
    h.setRecord hn ⟨rfl, rfl, rfl, Iff.rfl, id⟩ (.inl rfl) hline (fun _ => hmark) fun hcell => absurd hcell hk
  simp only [State.rewind]
  split
  · exact hmoved.onTop (fun t => { t with midLine := false }) (fun _ => rfl) fun d hd =>
      (hmoved.contexts.mem d (List.mem_of_mem_head? hd)).2.2
  · exact h

theorem endSequence (h : Kept st top s) : Kept st top s.endSequence := by
  have hnone : Kept st top (s.onPrint fun b => { b with kind := .none }) := h.onSequence _ rfl (by simp)
  simp only [State.endSequence]
  split
  · exact hnone
  · rename_i c rest hc
    have hcell : s.print.kind = .cell → (s.record c.entry).print.cursor < (s.record c.entry).length := fun hk =>
      h.contexts.cell hk c (by rw [show s.print.contexts = c :: rest from hc]; rfl)
    cases hkind : s.print.kind <;> dsimp only
    case none => exact hnone
    case opening =>
      split
      · refine hnone.setLineStart fun d hd => ?_
        rw [hc] at hd
        cases hd
        exact hnone.cursor_le (numbered_of_inUse (hnone.contexts.mem c (by rw [hc]; exact List.mem_cons_self)).1)
      · exact hnone
    case resumption => exact hnone.rewind (by simp) hc
    case cell => exact hnone.cellDone (by simp) hc (hcell hkind)

theorem printBoundary {t : State} (h : Kept st top s) (hk : s.print.kind ≠ .cell) (ht : s.printBoundary = some t) :
    Kept st top t := by
  simp only [State.printBoundary] at ht
  split at ht
  · rename_i hnil
    obtain ⟨e, hbest, rfl⟩ := Option.map_eq_some_iff.mp ht
    exact h.pushContext (bestCandidate_some h.store hbest).1 (by simp [hnil])
  · rename_i c rest hc
    have htake {v : State} (hv : (if (s.record c.entry).print.cursor < (s.record c.entry).length then
        some (s.takePrintCell c.entry) else none) = some v) : Kept st top v := by
      split at hv <;> cases hv
      exact h.takePrintCell hc ‹_›
    split at ht
    · cases ht
      exact h.popContext hk false
    split at ht
    · cases ht
      exact h.popContext hk true
    split at ht
    · rename_i d hd
      split at ht
      · cases ht
        exact h.preempt hc hd
      · exact htake ht
    · exact htake ht

theorem printStep {t : State} (h : Kept st top s) (ht : s.printStep = some t) : Kept st top t := by
  simp only [State.printStep] at ht
  split at ht
  · cases ht
  split at ht
  · split at ht
    · cases ht
      exact h.onOperation _ rfl rfl
    · split at ht <;> cases ht
      exact h.onOperation _ rfl rfl
  split at ht
  · cases ht
    exact h.onOperation _ rfl rfl
  split at ht
  · rename_i hk
    exact h.printBoundary (by rw [hk]; decide) ht
  · cases ht
    exact h.endSequence

theorem operationFault (h : Kept st top s) : Kept st top s.operationFault := by
  unfold State.operationFault
  split
  · exact h
  · exact h.onOperation _ rfl rfl

theorem clearPrintFault (h : Kept st top s) : Kept st top s.clearPrintFault := by
  unfold State.clearPrintFault
  split
  · exact h.onOperation _ rfl rfl
  · exact h

theorem resetPrint (h : Kept st top s) : Kept st top s.resetPrint := by
  have hempty : Kept st top (s.onPrint fun b =>
      { b with contexts := [], ops := [], codes := [], kind := .none, held := false, failedOp := none }) :=
    h.onPrint _ (List.nil_sublist _) fun hk => by cases hk
  have hfold : ∀ (l : List Nat) (u : State), (∀ e ∈ l, Numbered e) → u.print.contexts = [] → Kept st top u →
      Kept st top (l.foldl (fun s e => s.markPrint e false) u) := by
    intro l
    induction l with
    | nil => exact fun u _ _ hu => hu
    | cons a l ih =>
      intro u hl hctx hu
      refine ih _ (fun e he => hl e (List.mem_cons_of_mem a he)) ?_
        (hu.markPrint (hl a List.mem_cons_self) (by simp [hctx]))
      rw [of_unrecorded State.print (fun _ => rfl) (markPrint_unrecorded u a false), hctx]
  refine hfold _ _ (fun e he => ?_) rfl hempty
  obtain ⟨c, hc, rfl⟩ := List.mem_map.mp he
  exact numbered_of_inUse (h.contexts.mem c hc).1

/-! ### Deletions -/

theorem dropBeneath (h : Kept st top s) (he : Numbered e) : Kept st top (s.dropBeneath e) := by
  unfold State.dropBeneath
  split
  · exact h
  · rename_i c rest hc
    split
    · rename_i hany
      have hrise := h.contexts.rise
      rw [hc, List.pairwise_cons] at hrise
      have hshort : Kept st top (s.onPrint fun b => { b with contexts := c :: rest.filter (·.entry != e) }) :=
        h.onPrint _ (by rw [hc]; exact (List.filter_sublist).cons_cons c) fun hk => ⟨hk, by rw [hc]; rfl⟩
      refine hshort.unmark he ?_ (·.print.status)
      show e ∉ (c :: rest.filter (·.entry != e)).map (·.entry)
      obtain ⟨a, ha, hae⟩ := List.any_eq_true.mp hany
      have hne : c.entry ≠ e := by
        intro heq
        have := hrise.1 a ha
        rw [beq_iff_eq.mp hae, heq] at this
        exact lt_irrefl _ this
      simp only [List.map_cons, List.mem_cons, List.mem_map, List.mem_filter, bne_iff_ne, not_or]
      exact ⟨fun heq => hne heq.symm, fun ⟨d, ⟨_, hd⟩, hde⟩ => hd hde⟩
    · exact h

theorem deleteRecord (h : Kept st top s) (he : Numbered e) : Kept st top (s.deleteRecord e) := by
  have hset : Kept st top (s.setRecord e (s.record e).deleted) := by
    refine h.setBase he ⟨rfl, rfl, rfl, rfl, ?_, ?_⟩
    all_goals
      simp only [Record.deleted, Output.giveUp]
      split <;> rfl
  simp only [State.deleteRecord]
  split
  · split
    · exact ((hset.dropBeneath he).leaveCopyList he).examine he
    · exact (hset.dropBeneath he).examine he
  · exact h

theorem requestDelete (h : Kept st top s) (he : Numbered e) : Kept st top (s.requestDelete e).1 := by
  simp only [State.requestDelete]
  split
  · exact h
  split
  · exact h
  · exact h.deleteRecord he

end Kept
end State
end Sys2Proof.Machine
end

section
/-! PROOF. Each operation of the Message Store keeps the store, the open-message stack and the print contexts sound (sections 3.2 to
3.6). -/

namespace Sys2Proof.Machine
namespace State

variable {s : State} {e : Nat} {st : List StackEntry} {top : RecState}

theorem composing_some (hs : s.StoreLaws) (h : s.composing = some e) : s.InUse e ∧ (s.record e).state = .composing := by
  have hmem := List.mem_of_find?_eq_some h
  have hstate := List.find?_some h
  exact ⟨(hs.arrival e).mp hmem, by simpa using hstate⟩

theorem composing_none (hs : s.StoreLaws) (h : s.composing = none) (he : s.InUse e) : (s.record e).state ≠ .composing := by
  have := List.find?_eq_none.mp h e ((hs.arrival e).mpr he)
  simpa using this

theorem topTakes_openStack (q : RecState) : (s.topTakes q).store.openStack = s.store.openStack :=
  openStack_of_unrecorded (topTakes_unrecorded s q)

/-- The record of a station notice as it is made (R64). -/
def noticeRecord (s : State) : Record :=
  { Record.empty with
    state := .complete
    origin := .station
    serial := some s.store.localSerial
    precedence := 2
    print := wanted true }

theorem not_stands_of_closed {st : RecState} (h : st.isClosed = true) : ¬Stands st := by
  obtain rfl | rfl := Record.isClosed_iff.mp h <;> simp [Stands]

namespace Kept

/-! ### The stack -/

/-- A record's state changed, with what that makes of the stack. -/
theorem setState {st' : List StackEntry} {top' : RecState} (h : Kept st top s) (he : s.InUse e) {q : RecState}
    (hempty : q ≠ .empty) (hcomp : q = .composing → (s.record e).state = .composing) (htop : Stands top')
    (hstack : (∀ x, Numbered x → (s.setRecord e { s.record e with state := q }).record x =
        if x = e then { s.record e with state := q } else s.record x) →
      Stacked st' top' (s.setRecord e { s.record e with state := q })) :
    Kept st' top' (s.updRecord e fun r => { r with state := q }) := by
  have hn := numbered_of_inUse he
  have hr (x : Nat) (hx : Numbered x) := record_setRecord h.store.dir hn hx { s.record e with state := q }
  have hset : Kept st' top' (s.setRecord e { s.record e with state := q }) :=
    ⟨h.store.setRecord hn ⟨rfl, rfl, rfl, by simp [hempty, he.2.2], hcomp⟩, hstack hr,
      h.contexts.change hr rfl le_rfl hempty (h.cursor_le hn)
        (fun hmem => by
          obtain ⟨c, hc, heq⟩ := List.mem_map.mp hmem
          exact heq ▸ (h.contexts.mem c hc).2.1)
        (fun hk c hc heq => by
          subst heq
          exact h.contexts.cell hk c hc), htop⟩
  exact hset.examine hn

/-- The top popped, its record closed. -/
theorem pop {p : Nat} (h : Kept (⟨p, some e⟩ :: st) top s) {q : RecState} (hq : q.isClosed = true) :
    Kept st .suspended (s.updRecord e fun r => { r with state := q }) := by
  refine h.setState (h.stack.head _ rfl e rfl).1 ?_ ?_ (.inr rfl) fun hr => h.stack.pop hr (not_stands_of_closed hq)
  · rintro rfl
    cases hq
  · rintro rfl
    cases hq

theorem popVoid {p : Nat} (h : Kept (⟨p, none⟩ :: st) top s) : Kept st .suspended s :=
  ⟨h.store, h.stack.popVoid, h.contexts, .inr rfl⟩

theorem closeEntry {t : StackEntry} (h : Kept (t :: st) top s) : Kept st .suspended (s.closeEntry t) := by
  obtain ⟨p, _ | e⟩ := t
  · exact h.popVoid
  · have hmade : s.closeEntry ⟨p, some e⟩ =
        s.updRecord e fun r => { r with state := if (s.record e).implicit then .complete else .cut } := by
      simp only [State.closeEntry, closeLineRecord, State.updRecord]
    rw [hmade]
    exact h.pop (by split <;> rfl)

/-- Step 1 of a heading leaves what it does not cut. -/
theorem cutFrom (p : Nat) (h : Kept st top s) :
    ∃ top', Kept (st.dropWhile fun t => decide (p ≤ t.precedence)) top' (cutFrom p st s) := by
  induction st generalizing s top with
  | nil => exact ⟨top, h.setStack []⟩
  | cons t rest ih =>
    simp only [State.cutFrom]
    split
    · rename_i hp
      rw [List.dropWhile_cons_of_pos (by simpa using hp)]
      exact ih h.closeEntry
    · rename_i hp
      rw [List.dropWhile_cons_of_neg (by simpa using hp)]
      exact ⟨top, h.setStack _⟩

/-- An empty stack has no top. -/
theorem anyTop (h : Kept [] top s) {top' : RecState} (htop : Stands top') : Kept [] top' s :=
  ⟨h.store, ⟨h.stack.nodup, fun _ ht => (by cases ht), fun _ ht => (by cases ht), h.stack.named⟩, h.contexts, htop⟩

theorem teardown (h : Kept s.store.openStack top s) : Kept [] .receiving s.teardown := by
  obtain ⟨top', hcut⟩ := h.cutFrom 0
  have hnil : (s.store.openStack.dropWhile fun t => decide (0 ≤ t.precedence)) = [] := by simp [List.dropWhile_eq_nil_iff]
  rw [hnil] at hcut
  exact hcut.anyTop (.inl rfl)

theorem topTakes (h : Kept s.store.openStack top s) {q : RecState} (hq : Stands q) :
    Kept s.store.openStack q (s.topTakes q) := by
  have hne : q ≠ .empty ∧ q ≠ .composing := by obtain rfl | rfl := hq <;> decide
  match hst : s.store.openStack with
  | [] =>
    rw [topTakes_nil _ hst]
    rw [hst] at h
    exact h.anyTop hq
  | ⟨p, none⟩ :: rest =>
    rw [topTakes_void _ hst]
    rw [hst] at h
    exact ⟨h.store, ⟨h.stack.nodup, fun t ht e hte => (by cases ht; cases hte), h.stack.tail, h.stack.named⟩, h.contexts, hq⟩
  | ⟨p, some e⟩ :: rest =>
    rw [topTakes_record _ hst]
    rw [hst] at h
    exact h.setState (h.stack.head _ rfl e rfl).1 hne.1 (fun hc => absurd hc hne.2) hq fun hr => h.stack.topTakes hr hq

/-! ### Creating and appending -/

theorem contexts_placed (h : Kept st top s) (he : Numbered e) (hempty : (s.record e).state = .empty) {r : Record}
    (hc : r.print.cursor ≤ r.length) :
    Contexts (s.placed e r).print.contexts ((s.placed e r).print.kind = .cell) (s.placed e r) := by
  refine h.contexts.changeOther (fun x hx => record_placed h.store.dir he hx r) hc fun hmem => ?_
  obtain ⟨c, hcm, heq⟩ := List.mem_map.mp hmem
  exact (h.contexts.mem c hcm).1.2.2 (heq ▸ hempty)

/-- A new record outside the stack. -/
theorem placed (h : Kept st top s) (he : Numbered e) (hempty : (s.record e).state = .empty) {r : Record} (hb : r.blocks = [])
    (hl : r.length = 0) (hp : r.precedence ≤ 3) (hst : ¬Stands r.state) (hne : r.state ≠ .empty)
    (hc : r.state = .composing → s.composing = none) (hcur : r.print.cursor = 0) : Kept st top (s.placed e r) :=
  ⟨h.store.placed he hempty hb hl hp hne hc,
    h.stack.change h.stands (fun x hx => record_placed h.store.dir he hx r) (.inr ⟨hst, by simp [hempty, Stands]⟩),
    h.contexts_placed he hempty (by simp [hcur]), h.stands⟩

/-- A new line record pushed on the stack. -/
theorem placedOnTop (h : Kept st .suspended s) (he : Numbered e) (hempty : (s.record e).state = .empty) {r : Record}
    (hb : r.blocks = []) (hl : r.length = 0) (hp : r.precedence ≤ 3) (hst : r.state = .receiving) (hcur : r.print.cursor = 0)
    (p : Nat) (l : List StackEntry) : Kept (⟨p, some e⟩ :: st) .receiving ((s.placed e r).setStack l) :=
  (⟨h.store.placed he hempty hb hl hp (by simp [hst]) (by simp [hst]),
    h.stack.push he hempty (fun x hx => record_placed h.store.dir he hx r) hst,
    h.contexts_placed he hempty (by simp [hcur]), .inl rfl⟩ : Kept _ _ (s.placed e r)).setStack l

theorem pushedVoid (h : Kept st .suspended s) (p : Nat) : Kept (⟨p, none⟩ :: st) .receiving (s.pushVoid p) :=
  (⟨h.store, h.stack.pushVoid, h.contexts, .inl rfl⟩ : Kept (⟨p, none⟩ :: st) .receiving s).of_eq rfl rfl rfl rfl rfl

theorem append {t : State} {c : Cell} (h : Kept st top s) (he : s.InUse e) (ha : s.append e c = some t) :
    Kept st top t ∧ t.InUse e := by
  have hn := numbered_of_inUse he
  obtain ⟨-, -, -, taken, -, -, -, hr⟩ := append_some h.store.dir hn ha
  have hprint : t.print = s.print := of_offStore State.print (fun _ => rfl) (append_offStore ha)
  refine ⟨⟨h.store.append he ha, h.stack.change h.stands hr (.inl rfl), ?_, h.stands⟩, ?_⟩
  · rw [hprint]
    refine h.contexts.change hr rfl (Nat.le_succ _) he.2.2 ((h.cursor_le hn).trans (Nat.le_succ _)) (fun hmem => ?_)
      fun _ _ _ _ => Nat.lt_succ_of_le (h.cursor_le hn)
    obtain ⟨c, hc, rfl⟩ := List.mem_map.mp hmem
    exact (h.contexts.mem c hc).2.1
  · rw [inUse_iff, hr e hn, if_pos rfl]
    exact ⟨hn, he.2.2⟩

theorem appendLine (h : Kept st top s) (he : s.InUse e) (c : Cell) : Kept st top (s.appendLine e c) := by
  unfold State.appendLine
  split
  · exact (h.append he ‹_›).1
  · have hmarked : Kept st top (s.setRecord e { s.record e with overflowed := true }) :=
      h.setBase (numbered_of_inUse he) ⟨rfl, rfl, rfl, rfl, rfl, rfl⟩
    exact hmarked.of_eq rfl rfl rfl rfl rfl

theorem appendAll (h : Kept st top s) (he : s.InUse e) (cs : List Code) :
    Kept st top (appendAll e cs s) ∧ (State.appendAll e cs s).InUse e := by
  induction cs generalizing s with
  | nil => exact ⟨h, he⟩
  | cons c cs ih =>
    cases ha : s.append e ⟨c, .good⟩ with
    | none => simpa [State.appendAll, ha] using ih h he
    | some t =>
      obtain ⟨ht, hut⟩ := h.append he ha
      simpa [State.appendAll, ha] using ih ht hut

/-! ### The requests -/

theorem heading (h : Kept s.store.openStack top s) {p : Nat} (hp : p ≤ 3) (n : Nat) :
    Kept (s.heading p n).store.openStack .receiving (s.heading p n) := by
  obtain ⟨top', hcut⟩ := h.cutFrom p
  rw [← (cutFrom_store s p s.store.openStack).2] at hcut
  have htook := hcut.topTakes (.inr rfl : Stands .suspended)
  rw [← topTakes_openStack (q := .suspended)] at htook
  simp only [State.heading]
  generalize (State.cutFrom p s.store.openStack s).topTakes .suspended = u at htook ⊢
  split
  · exact htook.pushedVoid p
  · rename_i v e hcreate
    obtain ⟨hlow, rfl⟩ := create_some hcreate
    obtain ⟨hn, hempty⟩ := lowestEmpty_some hlow
    exact htook.placedOnTop hn hempty rfl rfl hp rfl rfl p _

theorem lineText (h : Kept s.store.openStack .receiving s) (c : Cell) :
    Kept (s.lineText c).store.openStack .receiving (s.lineText c) := by
  match hst : s.store.openStack with
  | [] =>
    rw [hst] at h
    have hsus := h.anyTop (.inr rfl : Stands .suspended)
    simp only [State.lineText, hst]
    split
    · have hvoid : (s.pushVoid 0).store.openStack = [⟨0, none⟩] := by simp [pushVoid, State.push, hst]
      rw [hvoid]
      exact hsus.pushedVoid 0
    · rename_i v e hcreate
      obtain ⟨hlow, rfl⟩ := create_some hcreate
      obtain ⟨hn, hempty⟩ := lowestEmpty_some hlow
      have hpushed := hsus.placedOnTop hn hempty (r := s.lineRecord 0 none) rfl rfl (by simp [lineRecord]) rfl rfl 0
        (⟨0, some e⟩ :: s.store.openStack)
      have htop : ((s.placed e (s.lineRecord 0 none)).push ⟨0, some e⟩).store.openStack = [⟨0, some e⟩] := by
        simp only [State.push, setStack_openStack]
        exact congrArg _ hst
      rw [appendLine_openStack, htop]
      exact Kept.appendLine hpushed (hpushed.stack.head _ rfl e rfl).1 c
  | ⟨p, some e⟩ :: rest =>
    rw [lineText_record c hst, appendLine_openStack]
    refine h.appendLine ?_ c
    rw [hst] at h
    exact (h.stack.head _ rfl e rfl).1
  | ⟨p, none⟩ :: rest => rwa [lineText_void c hst]

theorem completeEntry {t : StackEntry} (h : Kept (t :: st) top s) : Kept st .suspended (s.completeEntry t) := by
  obtain ⟨p, _ | e⟩ := t
  · exact h.popVoid
  · exact h.pop rfl

theorem endMessage (h : Kept s.store.openStack .receiving s) : Kept s.endMessage.store.openStack .receiving s.endMessage := by
  match hst : s.store.openStack with
  | [] =>
    rw [endMessage_nil hst]
    exact h.of_eq rfl rfl rfl rfl rfl
  | t :: rest =>
    rw [endMessage_cons hst]
    rw [hst] at h
    have hdone : Kept ((s.setStack rest).completeEntry t).store.openStack .suspended ((s.setStack rest).completeEntry t) := by
      rw [completeEntry_openStack, setStack_openStack]
      exact (h.setStack rest).completeEntry
    rw [topTakes_openStack]
    exact hdone.topTakes (.inl rfl)

theorem closeComposing (h : Kept st top s) : Kept st top s.closeComposing := by
  unfold State.closeComposing
  split
  · exact h.onKb _
  · rename_i e hc
    obtain ⟨hu, hstate⟩ := composing_some h.store hc
    refine (h.onKb _).setState hu (by decide) (by simp) h.stands fun hr => (h.onKb _).stack.change h.stands hr (.inr ⟨?_, ?_⟩)
    · simp [Stands]
    · rw [show ((s.onKb fun b => { b with closeTimer := none }).record e).state = .composing from hstate]
      simp [Stands]

theorem notice (h : Kept st top s) (text : List Code) : Kept st top (s.notice text) := by
  simp only [State.notice]
  split
  · exact h.of_eq rfl rfl rfl rfl rfl
  · rename_i v e hmade
    split at hmade
    · obtain ⟨hlow, rfl⟩ := create_some hmade
      obtain ⟨hn, hempty⟩ := lowestEmpty_some hlow
      have hplaced := h.placed hn hempty (r := s.noticeRecord) rfl rfl (by simp [noticeRecord]) (by simp [Stands, noticeRecord])
        (by simp [noticeRecord]) (by simp [noticeRecord]) rfl
      have hin : (s.placed e s.noticeRecord).InUse e := by
        rw [inUse_iff, record_placed h.store.dir hn hn, if_pos rfl]
        exact ⟨hn, by simp [noticeRecord]⟩
      exact ((hplaced.appendAll hin _).1.of_eq rfl rfl rfl rfl rfl : Kept st top (takeSerial _)).examine hn
    · cases hmade

theorem offerKey {t : State} {c : Code} (h : Kept st top s) (hp : s.working.keyboardPrecedence ≤ 3)
    (ht : s.offerKey c = some t) : Kept st top t := by
  unfold State.offerKey at ht
  split at ht
  · rename_i hnone
    unfold State.createKeyboard at ht
    split at ht
    · cases ht
    · rename_i v e hmade
      obtain ⟨u, hu, rfl⟩ := Option.map_eq_some_iff.mp ht
      obtain ⟨hlow, rfl⟩ := create_some hmade
      obtain ⟨hn, hempty⟩ := lowestEmpty_some hlow
      have hplaced := h.placed hn hempty (r := s.keyboardRecord) rfl rfl hp (by simp [Stands, keyboardRecord])
        (by simp [keyboardRecord]) (fun _ => hnone) rfl
      have hin : (s.placed e s.keyboardRecord).InUse e := by
        rw [inUse_iff, record_placed h.store.dir hn hn, if_pos rfl]
        exact ⟨hn, by simp [keyboardRecord]⟩
      exact (hplaced.append hin hu).1.of_eq rfl rfl rfl rfl rfl
  · rename_i e hc
    exact (h.append (composing_some h.store hc).1 ht).1

/-- Every record of the stack closed, from the top down. -/
theorem closeAll (h : Kept st top s) : ∃ top', Kept [] top' (st.foldl State.closeEntry s) := by
  induction st generalizing s top with
  | nil => exact ⟨top, h⟩
  | cons t rest ih => exact ih h.closeEntry

theorem erase (h : Kept s.store.openStack top s) : Kept s.erase.store.openStack .receiving s.erase := by
  obtain ⟨top', hclosed⟩ := h.closeAll
  have hvoids (l : List StackEntry) :
      Kept (l.map fun t => { t with entry := none }) .receiving
        ((s.store.openStack.foldl State.closeEntry s).setStack (l.map fun t => { t with entry := none })) := by
    refine Kept.setStack ⟨hclosed.store, .voids (fun x hx hst => ?_) ?_, hclosed.contexts, .inl rfl⟩ _
    · simpa using hclosed.stack.named x hx hst
    · simp
  have hstack : (s.store.openStack.foldl State.closeEntry s).store.openStack = s.store.openStack :=
    openStack_of_unrecorded (foldl_frame s unrecorded _ (fun u t => closeEntry_unrecorded u t) _)
  rw [(erase_store s).2]
  simp only [State.erase]
  rw [hstack]
  exact (hvoids _).closeComposing.forRecords _ fun u e he hu => hu.deleteRecord he

end Kept
end State
end Sys2Proof.Machine
end

section
/-! PROOF. What the punch and the send items refer to stays numbered, and with it every step keeps the store, its stack and the print
contexts sound. -/

namespace Sys2Proof.Machine

/-- What the punch refers to: its current record and the copy list. -/
def PunchBlock.refs (b : PunchBlock) : Option Nat × List Nat := (b.current, b.copyList)

namespace State

variable {s t : State} {e : Nat}

/-! ### What the operations leave of the references -/

section
variable (s : State)

@[simp] theorem updRecord_punch (e : Nat) (f : Record → Record) : (s.updRecord e f).punch = s.punch :=
  of_unrecorded State.punch (fun _ => rfl) (updRecord_unrecorded s e f)
@[simp] theorem updRecord_tx (e : Nat) (f : Record → Record) : (s.updRecord e f).tx = s.tx :=
  of_unrecorded State.tx (fun _ => rfl) (updRecord_unrecorded s e f)
@[simp] theorem updRecord_print (e : Nat) (f : Record → Record) : (s.updRecord e f).print = s.print :=
  of_unrecorded State.print (fun _ => rfl) (updRecord_unrecorded s e f)
@[simp] theorem examine_punch (e : Nat) : (s.examine e).punch = s.punch :=
  of_unrecorded State.punch (fun _ => rfl) (examine_unrecorded s e)
@[simp] theorem examine_tx (e : Nat) : (s.examine e).tx = s.tx :=
  of_unrecorded State.tx (fun _ => rfl) (examine_unrecorded s e)
@[simp] theorem examine_print (e : Nat) : (s.examine e).print = s.print :=
  of_unrecorded State.print (fun _ => rfl) (examine_unrecorded s e)
@[simp] theorem abandonMarked_punch (src : PunchSource) : (s.abandonMarked src).punch = s.punch :=
  of_unrecorded State.punch (fun _ => rfl) (abandonMarked_unrecorded s src)
@[simp] theorem abandonSends_tx (ok : Record → Bool) : (s.abandonSends ok).tx = s.tx :=
  of_unrecorded State.tx (fun _ => rfl) (abandonSends_unrecorded s ok)
@[simp] theorem markPunch_punch (e : Nat) (m : Bool) : (s.markPunch e m).punch = s.punch := updRecord_punch s e _
@[simp] theorem advancePunch_punch (e : Nat) : (s.advancePunch e).punch = s.punch := updRecord_punch s e _

@[simp] theorem setClaim_refs (b : PunchBlock) (src : PunchSource) (c : Claim) : (b.setClaim src c).refs = b.refs := by
  cases src <;> rfl
@[simp] theorem dropTrailer_refs (b : PunchBlock) : b.dropTrailer.refs = b.refs := by
  unfold PunchBlock.dropTrailer
  split <;> rfl
@[simp] theorem claimed_refs (b : PunchBlock) (src : PunchSource) : (b.claimed src).refs = b.refs := by
  unfold PunchBlock.claimed
  split
  · split
    · exact setClaim_refs b src _
    · rfl
  · split
    · exact setClaim_refs b src _
    · rfl
  · rw [dropTrailer_refs, setClaim_refs]
  · split <;> exact setClaim_refs b src _
@[simp] theorem claimRequest_refs (src : PunchSource) : (s.claimRequest src).1.punch.refs = s.punch.refs := by
  rw [claimRequest_fst]
  exact claimed_refs _ _
@[simp] theorem releaseAll_refs (src : PunchSource) : (s.releaseAll src).punch.refs = s.punch.refs := by
  unfold releaseAll
  split <;> simp
@[simp] theorem releaseRequest_refs (src : PunchSource) : (s.releaseRequest src).1.punch.refs = s.punch.refs := by
  rw [releaseRequest_fst]
  split <;> simp
@[simp] theorem tapeKey_refs : s.tapeKey.punch.refs = s.punch.refs := by
  unfold tapeKey
  split <;> simp
@[simp] theorem newReel_refs : s.newReel.punch.refs = s.punch.refs := rfl
@[simp] theorem rowDone_refs : s.rowDone.punch.refs = s.punch.refs := by
  simp only [rowDone]
  split
  · split <;> rfl
  · rfl
@[simp] theorem handover_refs : s.handover.punch.refs = s.punch.refs := by
  unfold handover
  split
  · rfl
  · exact setClaim_refs _ _ _
@[simp] theorem trailerEnd_refs : s.trailerEnd.punch.refs = s.punch.refs := by
  unfold trailerEnd
  split <;> simp
@[simp] theorem restartRecord_refs : s.restartRecord.punch.refs = s.punch.refs := by
  simp only [restartRecord]
  split <;> rfl
@[simp] theorem endPiece_refs : s.endPiece.punch.refs = s.punch.refs := by
  simp only [endPiece]
  cases s.punch.piece <;> dsimp only
  case reelLeader => split <;> simp <;> rfl
  case trailer => simp; rfl
  case cell => split <;> simp <;> rfl
  all_goals rfl

end

/-! ### The references stay numbered -/

/-- What the punch and the send items refer to are numbers of entries. -/
structure Refs (s : State) : Prop where
  current : ∀ e ∈ s.punch.refs.1, Numbered e
  copies : ∀ e ∈ s.punch.refs.2, Numbered e
  retrieved : ∀ e ∈ s.tx.retrieved, Numbered e
  keyboardText : ∀ e ∈ s.tx.keyboardText, Numbered e
  cell : ∀ item e, s.tx.cellInFlight = some item → item = .retrievalCell e ∨ item = .keyboardCell e → Numbered e

theorem cellInFlight_iff {b : TxBlock} {item : TxItem} (hitem : item = .retrievalCell e ∨ item = .keyboardCell e) :
    b.cellInFlight = some item ↔ ∃ c rest after, b.inFlight = some (.character c rest after item) := by
  unfold TxBlock.cellInFlight
  obtain rfl | rfl := hitem
  all_goals
    split
    all_goals simp_all
    try tauto

theorem referencesNumbered_iff : s.ReferencesNumbered ↔ Refs s := by
  constructor
  · rintro ⟨h1, h2, h3, h4, h5⟩
    refine ⟨h1, h2, fun e he => ?_, h4, fun item e hcell hitem => ?_⟩
    · obtain ⟨r, hr, hre⟩ := Option.bind_eq_some_iff.mp he
      exact h3 r hr e hre
    · obtain ⟨c, rest, after, hfly⟩ := (cellInFlight_iff hitem).mp hcell
      refine h5 c rest after e ?_
      obtain rfl | rfl := hitem
      · exact .inl hfly
      · exact .inr hfly
  · rintro ⟨h1, h2, h3, h4, h5⟩
    refine ⟨h1, h2, fun r hr e he => h3 e (Option.bind_eq_some_iff.mpr ⟨r, hr, he⟩), h4, fun c rest after e hfly => ?_⟩
    obtain hfly | hfly := hfly
    · exact h5 _ e ((cellInFlight_iff (.inl rfl)).mpr ⟨c, rest, after, hfly⟩) (.inl rfl)
    · exact h5 _ e ((cellInFlight_iff (.inr rfl)).mpr ⟨c, rest, after, hfly⟩) (.inr rfl)

/-- References that are those of before, or numbered. -/
theorem Refs.onPunch (h : Refs s) (hcur : ∀ e ∈ t.punch.refs.1, e ∈ s.punch.refs.1 ∨ Numbered e)
    (hcopy : ∀ e ∈ t.punch.refs.2, e ∈ s.punch.refs.2 ∨ Numbered e) (htx : t.tx = s.tx) : Refs t :=
  ⟨fun e he => (hcur e he).elim (h.current e) id, fun e he => (hcopy e he).elim (h.copies e) id,
    by rw [htx]; exact h.retrieved, by rw [htx]; exact h.keyboardText, by rw [htx]; exact h.cell⟩

theorem Refs.of_eq (h : Refs s) (hp : t.punch.refs = s.punch.refs) (htx : t.tx = s.tx) : Refs t :=
  h.onPunch (by rw [hp]; exact fun _ => .inl) (by rw [hp]; exact fun _ => .inl) htx

theorem Refs.onTx (h : Refs s) (hp : t.punch.refs = s.punch.refs)
    (hr : ∀ e ∈ t.tx.retrieved, e ∈ s.tx.retrieved ∨ Numbered e)
    (hk : ∀ e ∈ t.tx.keyboardText, e ∈ s.tx.keyboardText ∨ Numbered e)
    (hc : t.tx.cellInFlight = none ∨ t.tx.cellInFlight = s.tx.cellInFlight ∨
      ∃ e, Numbered e ∧ (t.tx.cellInFlight = some (.retrievalCell e) ∨ t.tx.cellInFlight = some (.keyboardCell e))) :
    Refs t := by
  refine ⟨by rw [hp]; exact h.current, by rw [hp]; exact h.copies, fun e he => (hr e he).elim (h.retrieved e) id,
    fun e he => (hk e he).elim (h.keyboardText e) id, fun item e hcell hitem => ?_⟩
  obtain hc | hc | ⟨d, hd, hc⟩ := hc
  · rw [hc] at hcell
    cases hcell
  · exact h.cell item e (hc ▸ hcell) hitem
  · have : e = d := by
      obtain hc | hc := hc <;> obtain rfl | rfl := hitem <;> rw [hc] at hcell <;> cases hcell <;> rfl
    exact this ▸ hd

theorem leaveCopyList_refs (e : Nat) :
    (s.leaveCopyList e).punch.refs = (s.punch.refs.1, s.punch.refs.2.erase e) := by
  have hreleased : ((s.onPunch fun b => { b with copyList := b.copyList.erase e }).releaseRequest .copy).1.punch.refs =
      (s.punch.refs.1, s.punch.refs.2.erase e) := releaseRequest_refs _ _
  simp only [leaveCopyList]
  split
  · exact hreleased
  · rwa [markPunch_punch]

theorem deleteRecord_refs (e : Nat) :
    (s.deleteRecord e).punch.refs.1 = s.punch.refs.1 ∧ (s.deleteRecord e).punch.refs.2 ⊆ s.punch.refs.2 := by
  have hdrop (u : State) : (u.dropBeneath e).punch = u.punch := of_offPrint State.punch (fun _ => rfl) (dropBeneath_offPrint u e)
  simp only [deleteRecord]
  split
  · rw [examine_punch]
    split
    · rw [leaveCopyList_refs, hdrop]
      exact ⟨rfl, List.erase_subset⟩
    · rw [hdrop]
      exact ⟨rfl, fun _ => id⟩
  · exact ⟨rfl, fun _ => id⟩

theorem finishPunch_refs (e : Nat) :
    (s.finishPunch e).punch.refs.1 = none ∧ (s.finishPunch e).punch.refs.2 ⊆ s.punch.refs.2 := by
  simp only [finishPunch, letGoPunch, markPunch_punch]
  split
  · refine ⟨rfl, ?_⟩
    have h := congrArg Prod.snd (leaveCopyList_refs
      (s := s.setRecord e { s.record e with punch := { (s.record e).punch with status := .done } }) e)
    exact fun x hx => List.erase_subset (h ▸ hx)
  · exact ⟨rfl, fun _ => id⟩

/-- What the punch refers to after a step of its own: what it did, or nothing, or the record that a holder has to punch next. -/
theorem punchStep_refs (h : s.punchStep = some t) :
    (t.punch.refs.1 = s.punch.refs.1 ∨ t.punch.refs.1 = none ∨
      ∃ src e, s.nextToPunch src = some e ∧ t.punch.refs.1 = some e) ∧ t.punch.refs.2 ⊆ s.punch.refs.2 := by
  have hsame {u : State} (hu : u.punch.refs = s.punch.refs) :
      (u.punch.refs.1 = s.punch.refs.1 ∨ u.punch.refs.1 = none ∨
        ∃ src e, s.nextToPunch src = some e ∧ u.punch.refs.1 = some e) ∧ u.punch.refs.2 ⊆ s.punch.refs.2 := by
    rw [hu]
    exact ⟨.inl rfl, fun _ => id⟩
  simp only [punchStep] at h
  split at h
  · cases h
  split at h
  · split at h
    · cases h
      exact hsame rfl
    · split at h <;> cases h
      exact hsame rfl
  split at h
  · cases h
    exact hsame rfl
  split at h
  · cases h
    simp only [takeFraming]
    split <;> exact hsame rfl
  split at h
  · simp only [punchBoundary] at h
    split at h
    · cases h
      exact hsame rfl
    split at h
    · cases h
      exact hsame rfl
    split at h
    · rename_i e _
      simp only [goOnPunching] at h
      repeat' split at h
      all_goals cases h
      · exact hsame rfl
      · refine ⟨.inr (.inl ?_), ?_⟩ <;> simp only [letGoPunch, markPunch_punch]
        · rfl
        · exact fun _ => id
      · exact hsame rfl
      · simp only [takePunchCell]
        split
        · exact hsame rfl
        split
        · exact hsame (by simp; rfl)
        · exact hsame rfl
      · exact hsame rfl
      · exact ⟨.inr (.inl (finishPunch_refs e).1), (finishPunch_refs e).2⟩
    · simp only [serveHolder] at h
      split at h
      · cases h
      · split at h
        · rename_i e hnext
          cases h
          exact ⟨.inr (.inr ⟨_, e, hnext, rfl⟩), fun _ => id⟩
        · split at h <;> cases h
          exact hsame rfl
  · cases h
    exact hsame (endPiece_refs s)

end State
end Sys2Proof.Machine
end

section
/-! PROOF. Every move keeps the store, the open-message stack, the print contexts and the references: the statement about the store and
the printer (sections 3.1 to 3.4, 4.5). -/

namespace Sys2Proof.Machine
namespace State

variable {s t : State} {e : Nat}

/-- The store, its stack, the print contexts and the references of the punch and the send items are sound. -/
structure Whole (s : State) : Prop where
  kept : Kept s.store.openStack .receiving s
  refs : Refs s

theorem storeAndPrinterSound_iff :
    s.StoreAndPrinterSound ↔ s.ProfilesWellFormed ∧ s.StackRises ∧ s.Whole := by
  constructor
  · rintro ⟨h1, h2, h3, h4, h5, h6⟩
    have hstore := storeSound_iff.mp h3
    exact ⟨h1, h2, ⟨hstore, stackSound_iff.mp h4, (contextsRise_iff hstore).mp h5, .inl rfl⟩, referencesNumbered_iff.mp h6⟩
  · rintro ⟨h1, h2, ⟨h3, h4, h5, -⟩, h6⟩
    exact ⟨h1, h2, storeSound_iff.mpr h3, stackSound_iff.mpr h4, (contextsRise_iff h3).mpr h5, referencesNumbered_iff.mpr h6⟩

namespace Whole

/-- What leaves the stack as it is, and keeps the store and the references. -/
theorem of_kept (h : Kept s.store.openStack .receiving t) (ho : t.store.openStack = s.store.openStack) (hr : Refs t) : Whole t :=
  ⟨ho ▸ h, hr⟩

/-- The store, the printer's contexts and the references the same. -/
theorem of_same (h : Whole s) (hstore : t.store = s.store) (hctx : t.print.contexts = s.print.contexts)
    (hkind : t.print.kind = s.print.kind) (hp : t.punch.refs = s.punch.refs) (htx : t.tx = s.tx) : Whole t :=
  ⟨by rw [hstore]; exact h.kept.of_eq (by rw [hstore]) (by rw [hstore]) (by rw [hstore]) hctx hkind, h.refs.of_eq hp htx⟩

theorem onRx (h : Whole s) (f : RxBlock → RxBlock) : Whole (s.onRx f) := h.of_same rfl rfl rfl rfl rfl
theorem onKb (h : Whole s) (f : KbBlock → KbBlock) : Whole (s.onKb f) := h.of_same rfl rfl rfl rfl rfl
theorem onConn (h : Whole s) (f : ConnBlock → ConnBlock) : Whole (s.onConn f) := h.of_same rfl rfl rfl rfl rfl
theorem onDir (h : Whole s) (f : DirBlock → DirBlock) : Whole (s.onDir f) := h.of_same rfl rfl rfl rfl rfl
theorem onAccess (h : Whole s) (f : AccessBlock → AccessBlock) : Whole (s.onAccess f) := h.of_same rfl rfl rfl rfl rfl
theorem onMotor (h : Whole s) (f : MotorBlock → MotorBlock) : Whole (s.onMotor f) := h.of_same rfl rfl rfl rfl rfl
theorem onProfile (h : Whole s) (f : ProfileBlock → ProfileBlock) : Whole (s.onProfile f) := h.of_same rfl rfl rfl rfl rfl
theorem abortLineAsm (h : Whole s) : Whole s.abortLineAsm := h.onDir _
theorem abortLocalAsm (h : Whole s) : Whole s.abortLocalAsm := h.onDir _
theorem setQueue (h : Whole s) (q : List ReplyEntry) : Whole (s.setQueue q) := h.onDir _

/-- The transmitter changed in what is no reference. -/
theorem onTx (h : Whole s) (f : TxBlock → TxBlock) (hf : s.tx.SameRefs (f s.tx)) : Whole (s.onTx f) := by
  obtain ⟨hk, hr, hc⟩ := hf
  refine .of_kept (h.kept.onTx f) rfl (h.refs.onTx rfl (fun e he => .inl ?_) (fun e he => .inl ?_) (hc.imp_right .inl))
  · exact hr ▸ he
  · exact hk ▸ he

/-- The line print switch is no part of the records. -/
theorem linePrint (h : Whole s) (on : Bool) : Whole (s.onStore fun b => { b with linePrint := on }) :=
  ⟨h.kept.of_eq rfl rfl rfl rfl rfl, h.refs.of_eq rfl rfl⟩

/-- A change of the store that leaves the other blocks. -/
theorem of_offStore (h : Whole s) (hk : Kept t.store.openStack .receiving t) (ht : t.offStore = s.offStore) : Whole t :=
  ⟨hk, h.refs.of_eq (congrArg PunchBlock.refs (State.of_offStore State.punch (fun _ => rfl) ht))
    (State.of_offStore State.tx (fun _ => rfl) ht)⟩

/-- A change of the punch and the records. -/
theorem of_offPunch (h : Whole s) (hk : Kept s.store.openStack .receiving t) (ht : t.offPunch = s.offPunch)
    (hcur : ∀ e ∈ t.punch.refs.1, e ∈ s.punch.refs.1 ∨ Numbered e)
    (hcopy : ∀ e ∈ t.punch.refs.2, e ∈ s.punch.refs.2 ∨ Numbered e) : Whole t :=
  .of_kept hk (State.of_offPunch (·.store.openStack) (fun _ => rfl) ht)
    (h.refs.onPunch hcur hcopy (State.of_offPunch State.tx (fun _ => rfl) ht))

/-- A change of the punch and the records that leaves what the punch refers to. -/
theorem of_punchSame (h : Whole s) (hk : Kept s.store.openStack .receiving t) (ht : t.offPunch = s.offPunch)
    (hp : t.punch.refs = s.punch.refs) : Whole t :=
  h.of_offPunch hk ht (by rw [hp]; exact fun _ => .inl) (by rw [hp]; exact fun _ => .inl)

/-- A change of the printer and the records. -/
theorem of_offPrint (h : Whole s) (hk : Kept s.store.openStack .receiving t) (ht : t.offPrint = s.offPrint) : Whole t :=
  .of_kept hk (State.of_offPrint (·.store.openStack) (fun _ => rfl) ht)
    (h.refs.of_eq (congrArg PunchBlock.refs (State.of_offPrint State.punch (fun _ => rfl) ht))
      (State.of_offPrint State.tx (fun _ => rfl) ht))

/-- A change of the transmitter and the records. -/
theorem of_offTx (h : Whole s) (hk : Kept s.store.openStack .receiving t) (ht : t.offTx = s.offTx)
    (hr : ∀ e ∈ t.tx.retrieved, e ∈ s.tx.retrieved ∨ Numbered e)
    (hkt : ∀ e ∈ t.tx.keyboardText, e ∈ s.tx.keyboardText ∨ Numbered e)
    (hc : t.tx.cellInFlight = none ∨ t.tx.cellInFlight = s.tx.cellInFlight ∨
      ∃ e, Numbered e ∧ (t.tx.cellInFlight = some (.retrievalCell e) ∨ t.tx.cellInFlight = some (.keyboardCell e))) : Whole t :=
  .of_kept hk (State.of_offTx (·.store.openStack) (fun _ => rfl) ht)
    (h.refs.onTx (congrArg PunchBlock.refs (State.of_offTx State.punch (fun _ => rfl) ht)) hr hkt hc)

/-! ### The composed operations -/

theorem closeComposing (h : Whole s) : Whole s.closeComposing :=
  .of_kept h.kept.closeComposing (closeComposing_openStack s)
    (h.refs.of_eq (congrArg PunchBlock.refs ((of_unrecorded State.punch (fun _ => rfl) (closeComposing_unrecorded s)).trans rfl))
      ((of_unrecorded State.tx (fun _ => rfl) (closeComposing_unrecorded s)).trans rfl))

/-- The items discarded refer to nothing. -/
theorem dropItems_tx (s : State) : s.dropItems.tx.retrieved = none ∧ s.dropItems.tx.keyboardText = none ∧
    s.dropItems.tx.cellInFlight = none := by
  have hfold (u : State) (l : List Nat) : (l.foldl (fun s e => s.letGoSend e true) u).tx = u.tx :=
    foldl_frame u State.tx _ (fun v e => updRecord_tx v e _) l
  have htx : s.dropItems.tx =
      { s.tx with
        inFlight := s.tx.inFlight.map TxFlight.orphaned
        answerback := .none
        reply := none
        retrieval := none
        keyboardText := none } := hfold _ _
  rw [htx]
  refine ⟨rfl, rfl, ?_⟩
  cases hfly : s.tx.inFlight with
  | none => rfl
  | some x => cases x <;> rfl

theorem noItems (h : Whole s) (ht : t.offTx = s.offTx) (hk : Kept s.store.openStack .receiving t)
    (htx : t.tx.retrieved = none ∧ t.tx.keyboardText = none ∧ t.tx.cellInFlight = none) : Whole t := by
  obtain ⟨hr, hkt, hc⟩ := htx
  refine h.of_offTx hk ht (by simp [hr]) (by simp [hkt]) (.inl hc)

theorem discardSends (h : Whole s) : Whole s.discardSends := by
  refine h.noItems (discardSends_offTx s) (h.kept.discardSends h.refs.retrieved h.refs.keyboardText) ?_
  rw [State.discardSends, abandonSends_tx]
  exact dropItems_tx s

theorem resetTx (h : Whole s) : Whole s.resetTx := by
  refine h.noItems (resetTx_offTx s) (h.kept.resetTx h.refs.retrieved h.refs.keyboardText) ?_
  rw [State.resetTx, abandonSends_tx]
  exact dropItems_tx s

theorem resetPunch (h : Whole s) : Whole s.resetPunch := by
  have hpunch : s.resetPunch.punch.refs = (none, []) := by
    unfold State.resetPunch
    exact congrArg PunchBlock.refs (foldl_frame _ State.punch _ (fun v e => updRecord_punch v e _) _)
  exact h.of_offPunch h.kept.resetPunch (resetPunch_offPunch s) (by simp [hpunch]) (by simp [hpunch])

theorem resetPrint (h : Whole s) : Whole s.resetPrint := h.of_offPrint h.kept.resetPrint (resetPrint_offPrint s)

theorem teardown (h : Whole s) : Whole s.teardown :=
  h.of_offStore (by rw [(teardown_store s).2]; exact h.kept.teardown) (teardown_offStore s)

theorem releaseAll (h : Whole s) (src : PunchSource) : Whole (s.releaseAll src) :=
  h.of_punchSame (h.kept.releaseAll src) (releaseAll_offPunch s src) (releaseAll_refs s src)

theorem noticeTraffic (h : Whole s) : Whole s.noticeTraffic := by
  unfold State.noticeTraffic
  split
  · exact h.of_same rfl rfl rfl rfl rfl
  · exact h

theorem changeWorking (h : Whole s) (p : Profile) : Whole (s.changeWorking p) := by
  have hnotice (u : State) (q : Prop) [Decidable q] (hu : Whole u) : Whole (if q then u.noticeTraffic else u) := by
    split
    · exact hu.noticeTraffic
    · exact hu
  have hfit (u : State) (q : Prop) [Decidable q] (hu : Whole u) :
      Whole (if q then u.onPrint (PrintBlock.fitForm p) else u) := by
    split
    · exact hu.of_same rfl rfl rfl rfl rfl
    · exact hu
  exact hnotice _ _ (hfit _ _ (h.of_same rfl rfl rfl rfl rfl))

theorem reload (h : Whole s) : Whole s.reload := (h.onProfile _).changeWorking _

theorem stationResetEffect (h : Whole s) : Whole s.stationResetEffect := by
  have hblocks := ((((((h.abortLineAsm.abortLocalAsm).setQueue []).onKb
    fun b => { b with entryFlag := false }).closeComposing).resetTx).resetPunch).resetPrint
  exact ((((hblocks.onConn fun c => { c with selected := false }).teardown).linePrint true).onAccess
    fun a => { a with lineOpen := .closed, localOpen := .closed }).reload

theorem leaveConnected (h : Whole s) (target : ConnState) : Whole (s.leaveConnected target) := by
  have hlost := (((h.onConn fun c =>
    { c with state := target, selected := false, sustainedSpace := none, lineIdle := none }).onRx fun b =>
    { b with state := .watching, transitions := [], samples := [] }).abortLineAsm.setQueue []).onAccess fun a =>
    { a with lineOpen := .closed }
  have hleft := (((hlost.discardSends.onTx (fun b => { b with breakPending := false }) ⟨rfl, rfl, .inr rfl⟩).closeComposing).teardown).releaseAll .line
  unfold State.leaveConnected
  dsimp only
  split
  · exact hleft.stationResetEffect
  · exact hleft

theorem enterClearing (h : Whole s) : Whole s.enterClearing := by
  unfold State.enterClearing
  dsimp only
  split
  · exact (h.leaveConnected .clearing).onConn _
  · exact h.onConn _

theorem answerbackRequest (h : Whole s) : Whole s.answerbackRequest := by
  unfold State.answerbackRequest
  split
  · split
    · exact h.onTx _ ⟨rfl, rfl, .inr rfl⟩
    · exact h
  · exact h.onTx _ ⟨rfl, rfl, .inr rfl⟩
  · exact h.onTx _ ⟨rfl, rfl, .inr rfl⟩

theorem enterConnected (h : Whole s) : Whole s.enterConnected := by
  have hif (u : State) (b : Bool) (hu : Whole u) : Whole (if b then u.answerbackRequest else u) := by
    split
    · exact hu.answerbackRequest
    · exact hu
  unfold State.enterConnected
  dsimp only
  exact ((hif _ _ (h.onConn _).noticeTraffic).onRx _).onTx _ ⟨rfl, rfl, .inr rfl⟩

theorem deselect (h : Whole s) : Whole s.deselect := by
  unfold State.deselect
  split
  · exact (h.onConn _).teardown
  · exact h

theorem advanceSend (h : Whole s) (he : Numbered e) : Whole (s.advanceSend e) :=
  .of_kept (h.kept.advanceSend he) (updRecord_openStack s e _) (h.refs.of_eq (by rw [State.advanceSend, updRecord_punch])
    (updRecord_tx s e _))

end Whole

/-! ### The inner moves -/

/-- A parameter of a well-formed profile lies within its range (R190). -/
theorem clamped_par {p : Profile} (hp : p.wf = true) {n : Nat} (hn : 1 ≤ n ∧ n ≤ 34) : clampPar n (p.par n) = p.par n := by
  obtain ⟨-, -, -, -, -, -, -, -, hpar⟩ := (Profile.wf_iff p).mp hp
  have h := ((paramsOk_iff _).mp hpar).2.1 (n - 1) (by omega)
  rwa [Nat.sub_add_cancel hn.1] at h

/-- The precedence of keyboard records is one (R190). -/
theorem keyboardPrecedence_le (h : s.ProfilesWellFormed) : s.working.keyboardPrecedence ≤ 3 := by
  have hclamp := clamped_par h.1 (show 1 ≤ 21 ∧ 21 ≤ 34 by decide)
  have hrange : parRange 21 = (0, 3) := by decide
  simp only [clampPar, hrange, show (21 = 11) = False by simp, show (21 = 16) = False by simp, false_and, if_false] at hclamp
  calc s.working.keyboardPrecedence
    _ = max 0 (min (s.profile.working.par 21) 3) := hclamp.symm
    _ ≤ 3 := max_le (by decide) (min_le_right _ _)

/-- A cell taken for its item is in flight, or skipped with its cursor moved on (R133). -/
theorem sendCell_cases {item : TxItem} (hitem : item = .retrievalCell e ∨ item = .keyboardCell e) :
    (∃ r rest sh, s.sendCell item e = s.onTx fun b => { b with inFlight := some (.character r rest sh item) }) ∨
      s.sendCell item e = s.countSendSkip.advanceSend e := by
  simp only [sendCell, sendCode]
  split
  · exact .inl ⟨_, _, _, rfl⟩
  · right
    obtain rfl | rfl := hitem <;> rfl

theorem endRetrieval_tx (s : State) (r : Retrieval) : (s.endRetrieval r).tx = { s.tx with retrieval := none } := by
  simp only [endRetrieval]
  split
  · rfl
  · rw [updRecord_tx]
    rfl

/-- A retrieval that lets its record go goes on without one. -/
theorem abandonRetrieval_tx (s : State) (r : Retrieval) (e : Nat) :
    ∃ r', r'.entry = none ∧ (s.abandonRetrieval r e).tx = { s.tx with retrieval := some r' } := by
  unfold abandonRetrieval letGoSend
  dsimp only
  rw [updRecord_tx]
  refine ⟨_, ?_, rfl⟩
  split <;> rfl

theorem requestRetrieval_tx (s : State) (e : Nat) :
    (s.requestRetrieval e).1.tx = s.tx ∨
      ∃ r, r.entry = some e ∧ (s.requestRetrieval e).1.tx = { s.tx with retrieval := some r } := by
  simp only [requestRetrieval]
  split
  · exact .inl rfl
  split
  · exact .inl rfl
  split
  · exact .inl rfl
  · exact .inr ⟨_, rfl, rfl⟩

/-- What the items do at a send boundary: an abandoned retrieval or keyboard record is let go, a finished retrieval ends, or the
keyboard-text item takes a record. -/
theorem settleItems_cases (h : s.settleItems = some t) :
    (∃ r e, s.tx.retrieval = some r ∧ r.entry = some e ∧ (s.record e).send.status = .abandoned ∧ t = s.abandonRetrieval r e) ∨
    (∃ r, s.tx.retrieval = some r ∧ s.retrievalDone r = true ∧ t = s.endRetrieval r) ∨
    (∃ e, s.tx.keyboardText = some e ∧ (s.record e).send.status = .abandoned ∧ t = s.dropKeyboardText e) ∨
    ∃ e, s.tx.keyboardText = none ∧ s.nextKeyboardText = some e ∧ t = s.takeKeyboardText e := by
  simp only [settleItems] at h
  split at h
  · rename_i r hfilter
    obtain ⟨hsome, hany⟩ := Option.filter_eq_some_iff.mp hfilter
    obtain ⟨e, he, rfl⟩ := Option.map_eq_some_iff.mp h
    exact .inl ⟨r, e, hsome, he, by simpa [he] using hany, rfl⟩
  split at h
  · rename_i r hfilter
    obtain ⟨hsome, hdone⟩ := Option.filter_eq_some_iff.mp hfilter
    cases h
    exact .inr (.inl ⟨r, hsome, hdone, rfl⟩)
  split at h
  · rename_i e hkt
    split at h <;> cases h
    rename_i howes
    exact .inr (.inr (.inl ⟨e, hkt, by simpa using howes, rfl⟩))
  · rename_i hnone
    obtain ⟨e, he, rfl⟩ := Option.map_eq_some_iff.mp h
    exact .inr (.inr (.inr ⟨e, hnone, he, rfl⟩))

/-- The done signal changes neither the contexts nor the kind of the sequence. -/
theorem operationDone_contexts (s : State) :
    s.operationDone.print.contexts = s.print.contexts ∧ s.operationDone.print.kind = s.print.kind := by
  have hbell (p : Profile) (b : PrintBlock) : (b.marginBell p).contexts = b.contexts ∧ (b.marginBell p).kind = b.kind := by
    unfold PrintBlock.marginBell
    split <;> exact ⟨rfl, rfl⟩
  unfold operationDone
  split
  · exact ⟨rfl, rfl⟩
  · simp only [onPrint_print]
    unfold PrintBlock.complete
    split
    · exact hbell _ _
    all_goals exact ⟨rfl, rfl⟩

theorem Refs.deleteRecord (h : Refs s) (e : Nat) : Refs (s.deleteRecord e) := by
  obtain ⟨hcur, hcopy⟩ := deleteRecord_refs (s := s) e
  exact h.onPunch (by rw [hcur]; exact fun _ => .inl) (fun x hx => .inl (hcopy hx))
    (of_offMechanisms State.tx (fun _ => rfl) (deleteRecord_offMechanisms s e))

theorem Refs.foldl {α : Type} (h : Refs s) (f : State → α → State) (hf : ∀ u a, Refs u → Refs (f u a)) (l : List α) :
    Refs (l.foldl f s) := by
  induction l generalizing s with
  | nil => exact h
  | cons a l ih => exact ih (hf s a h)

theorem Refs.of_unrecorded (h : Refs s) (ht : t.unrecorded = s.unrecorded) : Refs t :=
  h.of_eq (congrArg PunchBlock.refs (State.of_unrecorded State.punch (fun _ => rfl) ht))
    (State.of_unrecorded State.tx (fun _ => rfl) ht)

theorem Refs.closeComposing (h : Refs s) : Refs s.closeComposing :=
  Refs.of_unrecorded (s := s.onKb fun b => { b with closeTimer := none }) (h.of_eq rfl rfl) (closeComposing_unrecorded s)

theorem Refs.erase (h : Refs s) : Refs s.erase := by
  have hclosed : Refs (s.store.openStack.foldl closeEntry s) :=
    h.foldl _ (fun u a hu => hu.of_unrecorded (closeEntry_unrecorded u a)) _
  have hvoid : Refs ((s.store.openStack.foldl closeEntry s).setStack
      ((s.store.openStack.foldl closeEntry s).store.openStack.map fun t => { t with entry := none })) := hclosed.of_eq rfl rfl
  unfold State.erase forRecords
  exact hvoid.closeComposing.foldl _ (fun u a hu => hu.deleteRecord a) _

theorem Whole.requestDelete (hs : Whole s) (he : Numbered e) : Whole (s.requestDelete e).1 := by
  have hk := hs.kept
  have hm := requestDelete_offMechanisms s e
  refine .of_kept (hk.requestDelete he) (of_offMechanisms (·.store.openStack) (fun _ => rfl) hm) (hs.refs.onPunch ?_ ?_
    (of_offMechanisms State.tx (fun _ => rfl) hm))
  all_goals
    have hr := deleteRecord_refs (s := s) e
    simp only [State.requestDelete]
    repeat' split
  · exact fun _ => .inl
  · exact fun _ => .inl
  · rw [hr.1]
    exact fun _ => .inl
  · exact fun _ => .inl
  · exact fun _ => .inl
  · exact fun _ hx => .inl (hr.2 hx)

theorem Whole.requestCopy (hs : Whole s) (he : Numbered e) : Whole (s.requestCopy e).1 := by
  have hk := hs.kept
  refine hs.of_offPunch (hk.requestCopy he) (requestCopy_offPunch s e) ?_ ?_
  all_goals
    simp only [State.requestCopy]
    repeat' split
  · exact fun _ => .inl
  · exact fun _ => .inl
  · exact fun _ => .inl
  · rw [claimRequest_refs]
    exact fun _ => .inl
  · exact fun _ => .inl
  · exact fun _ => .inl
  · exact fun _ => .inl
  · rw [claimRequest_refs]
    intro x hx
    obtain hx | hx := List.mem_append.mp hx
    · exact .inl hx
    · exact .inr (List.mem_singleton.mp hx ▸ he)

theorem Whole.requestRetrieval (hs : Whole s) (he : Numbered e) : Whole (s.requestRetrieval e).1 := by
  have hk := hs.kept
  refine hs.of_offTx (hk.requestRetrieval he) (requestRetrieval_offTx s e) ?_ ?_ ?_ <;>
    obtain htx | ⟨r, hr, htx⟩ := s.requestRetrieval_tx e <;> rw [htx]
  · exact fun _ => .inl
  · intro x hx
    rw [TxBlock.retrieved, Option.bind_some, hr] at hx
    cases hx
    exact .inr he
  · exact fun _ => .inl
  · exact fun _ => .inl
  · exact .inr (.inl rfl)
  · exact .inr (.inl rfl)

theorem Whole.punchStep (hs : Whole s) (h : s.punchStep = some t) : Whole t := by
  have hk := hs.kept
  obtain ⟨hcur, hcopy⟩ := punchStep_refs h
  refine hs.of_offPunch (hk.punchStep hs.refs.current hs.refs.copies h) (punchStep_offPunch h) ?_ fun x hx => .inl (hcopy hx)
  obtain hcur | hcur | ⟨src, e, hnext, hcur⟩ := hcur
  · rw [hcur]
    exact fun _ => .inl
  · simp [hcur]
  · intro x hx
    rw [hcur] at hx
    cases hx
    exact .inr (nextToPunch_numbered hk hs.refs.copies hnext)

theorem Whole.sendCell (hs : Whole s) {item : TxItem} (hitem : s.tx.Sends item e) : Whole (s.sendCell item e) := by
  have hk := hs.kept
  have hn : Numbered e := hitem.elim (fun h => hs.refs.retrieved e h.2) fun h => hs.refs.keyboardText e h.2
  have hkind := hitem.imp (·.1) (·.1)
  obtain ⟨r, rest, sh, heq⟩ | heq := sendCell_cases (s := s) hkind
  · refine hs.of_offTx (hk.sendCell hn hkind) (sendCell_offTx s hkind) ?_ ?_ ?_ <;> rw [heq]
    · exact fun _ => .inl
    · exact fun _ => .inl
    · refine .inr (.inr ⟨e, hn, ?_⟩)
      obtain rfl | rfl := hkind
      · exact .inl rfl
      · exact .inr rfl
  · rw [heq]
    exact (hs.onTx _ ⟨rfl, rfl, .inr rfl⟩).advanceSend hn

theorem Whole.endRetrieval (hs : Whole s) {r : Retrieval} (hr : s.tx.retrieval = some r) : Whole (s.endRetrieval r) := by
  have hk := hs.kept
  refine hs.of_offTx (hk.endRetrieval fun e he => hs.refs.retrieved e ?_) (endRetrieval_offTx s r) ?_ ?_ ?_
  · simpa [TxBlock.retrieved, hr] using he
  all_goals rw [endRetrieval_tx]
  · intro x hx
    cases hx
  · exact fun _ => .inl
  · exact .inr (.inl rfl)

theorem Whole.settleItems (hs : Whole s) (h : s.settleItems = some t) : Whole t := by
  have hk := hs.kept
  have hkept := hk.settleItems hs.refs.retrieved hs.refs.keyboardText h
  have hoff := settleItems_offTx h
  obtain ⟨r, e, hr, he, -, rfl⟩ | ⟨r, hr, -, rfl⟩ | ⟨e, he, -, rfl⟩ | ⟨e, -, he, rfl⟩ := settleItems_cases h
  · obtain ⟨r', hr', htx⟩ := s.abandonRetrieval_tx r e
    refine hs.of_offTx hkept hoff ?_ ?_ ?_ <;> rw [htx]
    · simp [TxBlock.retrieved, hr']
    · exact fun _ => .inl
    · exact .inr (.inl rfl)
  · refine hs.of_offTx hkept hoff ?_ ?_ ?_ <;> rw [endRetrieval_tx]
    · simp [TxBlock.retrieved]
    · exact fun _ => .inl
    · exact .inr (.inl rfl)
  · have htx : (s.dropKeyboardText e).tx = { s.tx with keyboardText := none } := by
      rw [dropKeyboardText, letGoSend, updRecord_tx]
      rfl
    refine hs.of_offTx hkept hoff ?_ ?_ ?_ <;> rw [htx]
    · exact fun _ => .inl
    · simp
    · exact .inr (.inl rfl)
  · have htx : (s.takeKeyboardText e).tx = { s.tx with keyboardText := some e } :=
      congrArg (fun b : TxBlock => { b with keyboardText := some e }) (updRecord_tx s e _)
    refine hs.of_offTx hkept hoff ?_ ?_ ?_ <;> rw [htx]
    · exact fun _ => .inl
    · intro x hx
      cases hx
      exact .inr (hk.arrival_numbered e (List.mem_of_find?_eq_some he))
    · exact .inr (.inl rfl)

theorem Whole.endKeyboardText (hs : Whole s) (h : s.tx.keyboardText = some e) : Whole (s.endKeyboardText e) := by
  have hk := hs.kept
  have htx : (s.endKeyboardText e).tx = { s.tx with keyboardText := none } := updRecord_tx _ e _
  refine hs.of_offTx (hk.endKeyboardText (hs.refs.keyboardText e h)) (endKeyboardText_offTx s e) ?_ ?_ ?_ <;> rw [htx]
  · exact fun _ => .inl
  · simp
  · exact .inr (.inl rfl)

end State

open State in
theorem Inner.whole {s t : State} (h : Inner s t) (hs : Whole s) (hp : s.ProfilesWellFormed) : Whole t := by
  have hk := hs.kept
  cases h
  case lineText x => exact hs.of_offStore (hk.lineText x) (lineText_offStore s x)
  case heading p n hp => exact hs.of_offStore (hk.heading hp n) (heading_offStore s p n)
  case endMessage => exact hs.of_offStore hk.endMessage (endMessage_offStore s)
  case offerKey x _ h =>
    refine hs.of_offStore ?_ (offerKey_offStore h)
    rw [(offerKey_store h).2]
    exact hk.offerKey (keyboardPrecedence_le hp) h
  case notice text =>
    refine hs.of_offStore ?_ (notice_offStore s text)
    rw [notice_openStack]
    exact hk.notice text
  case printSwitch on => exact hs.linePrint on
  case requestDelete e he => exact hs.requestDelete he
  case requestCopy e he => exact hs.requestCopy he
  case requestRetrieval e he => exact hs.requestRetrieval he
  case printStep h => exact hs.of_offPrint (hk.printStep h) (printStep_offPrint h)
  case operationFault => exact hs.of_offPrint hk.operationFault (operationFault_offPrint s)
  case clearPrintFault => exact hs.of_offPrint hk.clearPrintFault (clearPrintFault_offPrint s)
  case claimRequest src _ => exact hs.of_punchSame (hk.claimRequest src) (claimRequest_offPunch s src) (claimRequest_refs s src)
  case releaseRequest src _ =>
    exact hs.of_punchSame (hk.releaseRequest src) (releaseRequest_offPunch s src) (releaseRequest_refs s src)
  case tapeKey => exact hs.of_punchSame hk.tapeKey (tapeKey_offPunch s) (tapeKey_refs s)
  case feedRequest h =>
    simp only [State.feedRequest] at h
    split at h <;> cases h
    exact hs.of_punchSame (hk.onPunch _) rfl rfl
  case newTapeRequest h =>
    simp only [State.newTapeRequest] at h
    split at h
    · cases h
    · split at h <;> cases h
      · exact hs.of_punchSame (hk.onPunch _) rfl rfl
      · exact hs.of_punchSame hk.newReel rfl rfl
  case punchStep h => exact hs.punchStep h
  case rowDone => exact hs.of_punchSame hk.rowDone (rowDone_offPunch s) (rowDone_refs s)
  case rowFault =>
    unfold State.rowFault
    split
    · exact hs
    · exact hs.of_punchSame (hk.onPunch _) rfl rfl
  case clearPunchFault =>
    unfold State.clearPunchFault
    split
    · exact hs.of_punchSame (hk.onPunch _) rfl rfl
    · exact hs
  case tx f hf => exact hs.onTx f hf
  case sendCell item e hitem _ _ => exact hs.sendCell hitem
  case endRetrieval r hr _ => exact hs.endRetrieval hr
  case settleItems _ h => exact hs.settleItems h
  case endKeyboardText e h _ => exact hs.endKeyboardText h
  case discardSends => exact hs.discardSends

open State in
theorem Move.whole {c : Instr} {s t : State} (h : Move c s t) (hs : Whole s) (hp : s.ProfilesWellFormed) : Whole t := by
  cases h
  case inner h => exact h.whole hs hp
  case kb f => exact hs.onKb f
  case dir f => exact hs.onDir f
  case motor f => exact hs.onMotor f
  case falseStart =>
    unfold State.falseStartEvent
    split
    · exact (hs.onRx _).onRx _
    · exact hs
  case sampleElement =>
    unfold State.sampleElement
    split
    · exact hs.onRx _
    · exact hs
  case adoptRate h =>
    unfold State.adoptRate at h
    split at h <;> cases h
    exact hs.onRx _
  case conditionChange d => exact hs.onConn _
  case noticeTraffic => exact hs.noticeTraffic
  case adoptLineType h =>
    unfold State.adoptLineType at h
    split at h <;> cases h
    exact hs.onConn _
  case enterClearing => exact hs.enterClearing
  case enterLost => exact (hs.leaveConnected .lost).onConn _
  case enterConnected => exact hs.enterConnected
  case answerRequest =>
    unfold State.answerRequest
    split
    · exact hs.onConn _
    · exact hs
  case seizeRequest =>
    unfold State.seizeRequest
    split
    · exact hs.onConn _
    · exact hs
  case callChange p =>
    have h (u : State) (b : Bool) (hu : Whole u) : Whole (if b then u.enterAnswering else u) := by
      split
      · exact hu.onConn _
      · exact hu
    exact h _ _ (hs.onConn _)
  case stationReset => exact hs.stationResetEffect
  case deselect => exact hs.deselect
  case unattend =>
    have h : Whole (s.setAttended false).closeComposing := (show Whole (s.setAttended false) from hs.onConn _).closeComposing
    exact h.of_same rfl rfl rfl rfl rfl
  case setParameter => exact hs.changeWorking _
  case closeComposing => exact hs.closeComposing
  case erase => exact ⟨hs.kept.erase, hs.refs.erase⟩
  case cellSent x after item e h hitem =>
    have hn : Numbered e := hs.refs.cell item e ((cellInFlight_iff hitem).mpr ⟨x, [], after, h⟩) hitem
    exact (hs.onTx _ ⟨rfl, rfl, .inl rfl⟩).noticeTraffic.advanceSend hn
  case operationDone =>
    obtain ⟨hctx, hkind⟩ := s.operationDone_contexts
    have hprint : s.operationDone.store = s.store ∧ s.operationDone.punch = s.punch ∧ s.operationDone.tx = s.tx := by
      unfold State.operationDone
      split <;> exact ⟨rfl, rfl, rfl⟩
    exact hs.of_same hprint.1 hctx hkind (by rw [hprint.2.1]) hprint.2.2
  case closeSource src => cases src <;> exact hs.onAccess _
  case openOperator src _ => cases src <;> exact hs.onAccess _
  case rightNumber src w _ _ => cases src <;> exact hs.of_same rfl rfl rfl rfl rfl
  all_goals exact hs.of_same rfl rfl rfl rfl rfl

namespace State

/-- The records of a start-up are EMPTY. -/
theorem start_record {s : State} (h : s.store = .start) (e : Nat) : s.record e = .empty := by
  have hdir : StoreBlock.start.dir = List.replicate 32 .empty := rfl
  simp only [record, h, hdir, List.getD_eq_getElem?_getD, List.getElem?_replicate]
  split <;> rfl

theorem start_whole {s : State} (hstore : s.store = .start) (hctx : s.print.contexts = []) (hpunch : s.punch.refs = (none, []))
    (htx : s.tx = .start) : s.Whole := by
  have hr := start_record hstore
  have hempty (e : Nat) : ¬s.InUse e := fun h => h.2.2 (by rw [hr]; rfl)
  refine ⟨⟨⟨?_, ?_, fun e => ?_, ?_, fun e _ => ?_, fun d e hd => absurd hd (hempty d)⟩,
    .voids (fun x hx => absurd hx (hempty x)) ?_, ⟨?_, ?_, fun e _ => ?_, fun _ c hc => ?_⟩, .inl rfl⟩, ?_, ?_, ?_, ?_, fun item e hi => ?_⟩
  · simp [hstore, StoreBlock.start]
  · simp [hstore, StoreBlock.start]
  · simpa [hstore, StoreBlock.start] using hempty e
  · rw [hstore, show StoreBlock.start.dir = List.replicate 32 .empty by rw [StoreBlock.start],
      show StoreBlock.start.free = List.range 256 by rw [StoreBlock.start], List.map_replicate]
    simp only [Record.empty, List.flatten_replicate_nil, List.append_nil]
    exact .refl _
  · rw [hr]
    simp [Record.empty]
  · simp [hstore, StoreBlock.start]
  · simp [hctx]
  · simp [hctx]
  · rw [hr]
    simp [Record.empty, Output.none]
  · rw [hctx] at hc
    cases hc
  · simp [hpunch]
  · simp [hpunch]
  · simp [htx, TxBlock.start, TxBlock.retrieved]
  · simp [htx, TxBlock.start]
  · rw [htx] at hi
    cases hi

end State

/-- Settles O59: each move keeps the store, its stack, the contexts and the references. -/
theorem stepsKeepTheStoreAndThePrinterSound : Obligations.StepsKeepTheStoreAndThePrinterSound := by
  refine Robust.keptByStep (P := fun s => s.StoreAndPrinterSound)
    { pending := fun _ _ => id
      startUp := fun s hs => ?_
      losePower := fun s hs => ?_
      lineCond := fun _ _ => id
      callInput := fun _ _ => id
      paper := fun _ _ _ => id
      move := fun c s t h hs => ?_ }
  · rw [State.storeAndPrinterSound_iff] at hs ⊢
    have hcut := s.cutCommit_profilesWellFormed hs.1
    exact ⟨⟨Image.loaded_wf hcut.2.1, hcut.2.1, fun _ h => by cases h⟩, Rises.nil, State.start_whole rfl rfl rfl rfl⟩
  · rw [State.storeAndPrinterSound_iff] at hs ⊢
    obtain ⟨hprof, hrise, hwhole⟩ := hs
    have hsame : s.losePower.store = s.store ∧ s.losePower.print = s.print ∧ s.losePower.punch = s.punch ∧
        s.losePower.tx = s.tx := by
      unfold State.losePower State.cutCommit
      split <;> exact ⟨rfl, rfl, rfl, rfl⟩
    obtain ⟨hstore, hprint, hpunch, htx⟩ := hsame
    refine ⟨s.cutCommit_profilesWellFormed hprof, ?_, hwhole.of_same hstore (by rw [hprint]) (by rw [hprint]) (by rw [hpunch]) htx⟩
    unfold State.StackRises
    rwa [hstore]
  · rw [State.storeAndPrinterSound_iff] at hs ⊢
    obtain ⟨hprof, hrise, hwhole⟩ := hs
    exact ⟨h.profilesWellFormed hprof, h.stackRises hrise, h.whole hwhole hprof⟩

end Sys2Proof.Machine
end

section
/-! PROOF. The claim table as a block of its own, and what the punch and the send items rest on in the records: the changes of an entry that
keep it (sections 3.4, 5.3, 5.4, 6.4, 7.6, 7.7). -/

namespace Sys2Proof.Machine

/-! ### The claim table -/

/-- The claim table: at most one holder, the counts, the copy list's length, and a trailer's DRAINING holder (R101, R104, R105). -/
structure PunchBlock.Claims (b : PunchBlock) : Prop where
  holder : ∀ x y, (b.claim x).holds = true → (b.claim y).holds = true → x = y
  count : ∀ x, (b.claim x).count ≤ 15 ∧
    ((b.claim x).count = 0 ↔ (b.claim x).state = .idle ∨ (b.claim x).state = .draining)
  nodup : b.copyList.Nodup
  copies : b.copyList.length ≤ 8
  copyCount : b.copyClaim.count = b.copyList.length
  trailer : b.piece = .trailer → ∃ x, (b.claim x).state = .draining

namespace PunchBlock

variable {b : PunchBlock} {src x : PunchSource}

theorem claim_setClaim (b : PunchBlock) (src x : PunchSource) (c : Claim) :
    (b.setClaim src c).claim x = if x = src then c else b.claim x := by
  cases src <;> cases x <;> rfl

@[simp] theorem setClaim_copyList (b : PunchBlock) (src : PunchSource) (c : Claim) : (b.setClaim src c).copyList = b.copyList := by
  cases src <;> rfl
@[simp] theorem setClaim_piece (b : PunchBlock) (src : PunchSource) (c : Claim) : (b.setClaim src c).piece = b.piece := by
  cases src <;> rfl

theorem holds_iff {c : Claim} : c.holds = true ↔ c.state = .holding ∨ c.state = .draining := by simp [Claim.holds]

/-- The holder is the source that holds. -/
theorem holder_some (h : b.holder = some src) : (b.claim src).holds = true := by
  exact List.find?_some (p := fun src => (b.claim src).holds) h

theorem holder_none (h : b.holder = none) (x : PunchSource) : (b.claim x).holds = false := by
  have := List.find?_eq_none.mp h x (by cases x <;> simp [punchSources])
  simpa using this

/-- One entry of the claim table replaced, with the copy list as it is then. -/
theorem Claims.setClaim (h : b.Claims) {b' : PunchBlock} {c : Claim} (hclaim : ∀ x, b'.claim x = if x = src then c else b.claim x)
    (hhold : c.holds = true → (b.claim src).holds = true ∨ ∀ x, (b.claim x).holds = false) (hcount : c.count ≤ 15)
    (hzero : c.count = 0 ↔ c.state = .idle ∨ c.state = .draining) (hnodup : b'.copyList.Nodup)
    (hlength : b'.copyList.length ≤ 8) (hcopies : b'.copyClaim.count = b'.copyList.length)
    (hpiece : b'.piece = .trailer → c.state = .draining ∨ ∃ x, x ≠ src ∧ (b.claim x).state = .draining) : b'.Claims := by
  refine ⟨fun x y hx hy => ?_, fun x => ?_, hnodup, hlength, hcopies, fun hp => ?_⟩
  · rw [hclaim] at hx hy
    by_cases hxs : x = src <;> by_cases hys : y = src
    · rw [hxs, hys]
    · rw [if_pos hxs] at hx
      rw [if_neg hys] at hy
      obtain hold | hnone := hhold hx
      · exact absurd (h.holder y src hy hold) hys
      · rw [hnone y] at hy
        cases hy
    · rw [if_neg hxs] at hx
      rw [if_pos hys] at hy
      obtain hold | hnone := hhold hy
      · exact absurd (h.holder x src hx hold) hxs
      · rw [hnone x] at hx
        cases hx
    · rw [if_neg hxs] at hx
      rw [if_neg hys] at hy
      exact h.holder x y hx hy
  · rw [hclaim]
    split
    · exact ⟨hcount, hzero⟩
    · exact h.count x
  · obtain hd | ⟨x, hne, hx⟩ := hpiece hp
    · exact ⟨src, by rw [hclaim, if_pos rfl]; exact hd⟩
    · exact ⟨x, by rw [hclaim, if_neg hne]; exact hx⟩

/-- The claim table and the copy list the same, and no trailer that was not. -/
theorem Claims.of_eq (h : b.Claims) {b' : PunchBlock} (hclaim : ∀ x, b'.claim x = b.claim x) (hlist : b'.copyList = b.copyList)
    (hpiece : b'.piece = .trailer → b.piece = .trailer) : b'.Claims := by
  have hcopy : b'.copyClaim = b.copyClaim := hclaim .copy
  refine ⟨?_, ?_, by rw [hlist]; exact h.nodup, by rw [hlist]; exact h.copies, by rw [hlist, hcopy]; exact h.copyCount,
    fun hp => ?_⟩
  · simpa only [hclaim] using h.holder
  · simpa only [hclaim] using h.count
  · simpa only [hclaim] using h.trailer (hpiece hp)

/-- A claim request of a source other than COPY, or of COPY with the copy list longer by one. -/
theorem Claims.claimed (h : b.Claims) {l : List Nat} (hlist : src ≠ .copy → l = b.copyList)
    (hcopy : src = .copy → l.Nodup ∧ l.length ≤ 8 ∧ l.length = b.copyList.length + 1) :
    ({ b with copyList := l }.claimed src).Claims := by
  have hclaim (x : PunchSource) : ({ b with copyList := l } : PunchBlock).claim x = b.claim x := by cases x <;> rfl
  have hl : l.Nodup ∧ l.length ≤ 8 := by
    by_cases hs : src = .copy
    · exact ⟨(hcopy hs).1, (hcopy hs).2.1⟩
    · rw [hlist hs]
      exact ⟨h.nodup, h.copies⟩
  have hother {b' : PunchBlock} (hs : src ≠ .copy) (hb : b'.copyClaim = b.copyClaim) : b'.copyClaim.count = l.length := by
    rw [hb, h.copyCount, hlist hs]
  obtain ⟨hcount, hzero⟩ := h.count src
  have hone : (b.claim src).count = 0 → src = .copy → l.length = 1 := by
    intro h0 hs
    subst hs
    have : b.copyClaim.count = 0 := h0
    rw [(hcopy rfl).2.2, ← h.copyCount, this]
  have hcases (b' : PunchBlock) (c : Claim) (hc : ∀ x, b'.claim x = if x = src then c else b.claim x)
      (hone : src = .copy → c.count = l.length) : b'.copyClaim.count = l.length := by
    have h' := hc .copy
    by_cases hs : src = .copy
    · subst hs
      rw [if_pos rfl] at h'
      rw [← hone rfl, ← h']
      rfl
    · rw [if_neg (Ne.symm hs)] at h'
      exact hother hs h'
  have hset (c : Claim) (x : PunchSource) :
      (({ b with copyList := l } : PunchBlock).setClaim src c).claim x = if x = src then c else b.claim x := by
    rw [claim_setClaim, hclaim]
  unfold PunchBlock.claimed
  rw [hclaim]
  have hmore (hst : (b.claim src).state = .holding ∨ (b.claim src).state = .waiting) :
      (if (b.claim src).count < 15 then
        ({ b with copyList := l } : PunchBlock).setClaim src { b.claim src with count := (b.claim src).count + 1 }
      else { b with copyList := l }).Claims := by
    split
    · rename_i hlt
      refine h.setClaim (src := src) (hset _) (fun hh => .inl hh) hlt (by rcases hst with hst | hst <;> simp [hst]) (by simpa using hl.1)
        (by simpa using hl.2) ?_ ?_
      · rw [setClaim_copyList]
        refine hcases _ _ (hset _) fun hs => ?_
        subst hs
        rw [(hcopy rfl).2.2, ← h.copyCount]
        rfl
      · rw [setClaim_piece]
        intro hp
        obtain ⟨x, hx⟩ := h.trailer hp
        refine .inr ⟨x, fun heq => ?_, hx⟩
        rw [← heq, hx] at hst
        simp at hst
    · rename_i hfull
      have hs : src ≠ .copy := by
        rintro rfl
        have : b.copyClaim.count = b.copyList.length := h.copyCount
        have hlen := h.copies
        simp only [PunchBlock.claim] at hfull
        omega
      exact h.of_eq hclaim (hlist hs) id
  split
  · exact hmore (.inl ‹_›)
  · exact hmore (.inr ‹_›)
  · rename_i hst
    have hdrop (c : PunchBlock) : (∀ x, c.dropTrailer.claim x = c.claim x) ∧ c.dropTrailer.copyList = c.copyList ∧
        c.dropTrailer.piece ≠ .trailer := by
      unfold PunchBlock.dropTrailer
      split
      · exact ⟨fun x => by cases x <;> rfl, rfl, by simp⟩
      · exact ⟨fun _ => rfl, rfl, ‹_›⟩
    obtain ⟨hdc, hdl, hdp⟩ := hdrop (({ b with copyList := l } : PunchBlock).setClaim src ⟨.holding, 1⟩)
    have hclaim' (x : PunchSource) := (hdc x).trans (hset ⟨.holding, 1⟩ x)
    refine h.setClaim (src := src) hclaim' (fun _ => .inl (by simp [Claim.holds, hst])) (by decide) (by simp)
      (by rw [hdl]; simpa using hl.1) (by rw [hdl]; simpa using hl.2) ?_ fun hp => absurd hp hdp
    rw [hdl, setClaim_copyList]
    exact hcases _ _ hclaim' fun hs => (hone (hzero.mpr (.inr hst)) hs).symm
  · rename_i hst
    have h0 := hzero.mpr (.inl hst)
    have hholder : ({ b with copyList := l } : PunchBlock).holder = b.holder := rfl
    rw [hholder]
    split
    · rename_i hnone
      have hno := holder_none (Option.isNone_iff_eq_none.mp hnone)
      have hheld : (({ b with copyList := l } : PunchBlock).setClaim src ⟨.holding, 1⟩).Claims := by
        refine h.setClaim (src := src) (hset _) (fun _ => .inr hno) (by decide) (by simp) (by simpa using hl.1)
          (by simpa using hl.2) ?_ fun hp => ?_
        · rw [setClaim_copyList]
          exact hcases _ _ (hset _) fun hs => (hone h0 hs).symm
        · rw [setClaim_piece] at hp
          obtain ⟨x, hx⟩ := h.trailer hp
          have := hno x
          simp [Claim.holds, hx] at this
      exact hheld.of_eq (fun x => by cases x <;> rfl) rfl id
    · refine h.setClaim (src := src) (hset ⟨.waiting, 1⟩) (by simp [Claim.holds]) (by decide) (by simp) (by simpa using hl.1)
        (by simpa using hl.2) ?_ fun hp => ?_
      · rw [setClaim_copyList]
        exact hcases _ _ (hset _) fun hs => (hone h0 hs).symm
      · rw [setClaim_piece] at hp
        obtain ⟨x, hx⟩ := h.trailer hp
        refine .inr ⟨x, fun heq => ?_, hx⟩
        rw [heq, hst] at hx
        cases hx

end PunchBlock
end Sys2Proof.Machine
end

section
/-! PROOF. What the punch and the send items rest on in the records, and the changes of an entry that keep it (sections 3.4, 5.4, 6.4, 7.6,
7.7). -/

namespace Sys2Proof.Machine
namespace State

variable {s t : State} {e x : Nat} {l : List Nat}

/-- The records of the copy list `l`, the punch cursors, and the punch's current record. -/
structure PunchSide (l : List Nat) (s : State) : Prop where
  copies : ∀ e ∈ l, s.InUse e ∧ (s.record e).punch.status = .pending ∧ (s.record e).punchSource = .copy ∧
    (s.record e).punch.mark = true
  cursor : ∀ e, Numbered e → (s.record e).punch.cursor ≤ (s.record e).length
  current : ∀ e ∈ s.punch.current, s.InUse e ∧ (s.record e).punch.mark = true ∧
    (s.punch.piece = .cell → (s.record e).punch.cursor < (s.record e).length)

/-- The send cursors, the records that the send items refer to, the cell in flight and the send lag. -/
structure SendSide (s : State) : Prop where
  cursor : ∀ e, Numbered e → (s.record e).send.cursor ≤ (s.record e).length
  retrieved : ∀ e ∈ s.tx.retrieved, s.InUse e ∧ (s.record e).send.mark = true ∧ s.tx.keyboardText ≠ some e
  keyboardText : ∀ e ∈ s.tx.keyboardText, s.InUse e ∧ (s.record e).send.mark = true ∧
    ((s.record e).send.status = .pending ∨ (s.record e).deletePending = true)
  cell : ∀ item e, s.tx.cellInFlight = some item → item = .retrievalCell e ∨ item = .keyboardCell e →
    s.tx.Sends item e ∧ (s.record e).send.cursor < (s.record e).length
  lag : ∀ e, Numbered e → (s.record e).state = .composing → (s.record e).send.status = .pending →
    (s.record e).length ≤ (s.record e).send.cursor + 64

/-- The two sides, with the size of the directory and an arrival list of entry numbers. -/
structure Sides (l : List Nat) (s : State) : Prop where
  dir : s.store.dir.length = 32
  arrival : ∀ e ∈ s.store.arrival, Numbered e
  punch : PunchSide l s
  send : SendSide s

theorem claimsSound_iff :
    s.ClaimsSound ∧ s.ReadersSound ↔ s.punch.Claims ∧ PunchSide s.punch.copyList s ∧ SendSide s := by
  have hcell (item : TxItem) (e : Nat) (hitem : item = .retrievalCell e ∨ item = .keyboardCell e) :
      s.tx.cellInFlight = some item ↔ ∃ c rest after, s.tx.inFlight = some (.character c rest after item) :=
    cellInFlight_iff hitem
  constructor
  · rintro ⟨⟨h1, h2, h3, h4, h5, h6, h7⟩, ⟨k1, k2, k3, k4, k5, k6, k7⟩⟩
    refine ⟨⟨h1, h2, h3, h4, h5, h7⟩, ⟨h6, fun e he => (k1 e he.1 he.2).1, k2⟩, fun e he => (k1 e he.1 he.2).2,
      fun e he => ?_, k4, fun item e hi hitem => ?_, fun e he => k7 e he.1 he.2⟩
    · obtain ⟨r, hr, hre⟩ := Option.bind_eq_some_iff.mp he
      exact k3 r hr e hre
    · obtain ⟨c, rest, after, hfly⟩ := (hcell item e hitem).mp hi
      obtain rfl | rfl := hitem
      · obtain ⟨⟨r, hr, hre⟩, hlt⟩ := k5 c rest after e hfly
        exact ⟨.inl ⟨rfl, Option.bind_eq_some_iff.mpr ⟨r, hr, hre⟩⟩, hlt⟩
      · obtain ⟨hk, hlt⟩ := k6 c rest after e hfly
        exact ⟨.inr ⟨rfl, hk⟩, hlt⟩
  · rintro ⟨⟨h1, h2, h3, h4, h5, h7⟩, ⟨h6, hpc, k2⟩, ⟨hsc, k3, k4, k56, k7⟩⟩
    refine ⟨⟨h1, h2, h3, h4, h5, h6, h7⟩, ⟨fun e he he' => ⟨hpc e ⟨he, he'⟩, hsc e ⟨he, he'⟩⟩, k2,
      fun r hr e he => k3 e (Option.bind_eq_some_iff.mpr ⟨r, hr, he⟩), k4, fun c rest after e hfly => ?_,
      fun c rest after e hfly => ?_, fun e he he' => k7 e ⟨he, he'⟩⟩⟩
    · obtain ⟨hs, hlt⟩ := k56 _ e ((hcell _ e (.inl rfl)).mpr ⟨c, rest, after, hfly⟩) (.inl rfl)
      obtain ⟨-, hs⟩ | ⟨heq, -⟩ := hs
      · exact ⟨Option.bind_eq_some_iff.mp hs, hlt⟩
      · cases heq
    · obtain ⟨hs, hlt⟩ := k56 _ e ((hcell _ e (.inr rfl)).mpr ⟨c, rest, after, hfly⟩) (.inr rfl)
      obtain ⟨heq, -⟩ | ⟨-, hs⟩ := hs
      · cases heq
      · exact ⟨hs, hlt⟩

/-! ### By the records that are marked -/

/-- What the punch rests on stands where the records marked for it stay in use with their punch output, and grow at most. -/
theorem PunchSide.of_marked (h : PunchSide l s) (hp : t.punch = s.punch)
    (hr : ∀ x, s.InUse x → (s.record x).punch.mark = true → t.InUse x ∧ (t.record x).punch = (s.record x).punch ∧
      (t.record x).punchSource = (s.record x).punchSource ∧ (s.record x).length ≤ (t.record x).length)
    (hc : ∀ x, Numbered x → (t.record x).punch.cursor ≤ (t.record x).length) : PunchSide l t := by
  refine ⟨fun e he => ?_, hc, fun e he => ?_⟩
  · obtain ⟨hu, hst, hsrc, hm⟩ := h.copies e he
    obtain ⟨hu', hp', hs', -⟩ := hr e hu hm
    rw [hp', hs']
    exact ⟨hu', hst, hsrc, hm⟩
  · rw [hp] at he ⊢
    obtain ⟨hu, hm, hcell⟩ := h.current e he
    obtain ⟨hu', hp', -, hl⟩ := hr e hu hm
    rw [hp']
    exact ⟨hu', hm, fun hpiece => (hcell hpiece).trans_le hl⟩

/-- What the send items rest on stands where the records marked for them stay in use with their send output, and grow at most. -/
theorem SendSide.of_marked (h : SendSide s) (ht : t.tx = s.tx)
    (hr : ∀ x, s.InUse x → (s.record x).send.mark = true → t.InUse x ∧ (t.record x).send = (s.record x).send ∧
      ((s.record x).deletePending = true → (t.record x).deletePending = true) ∧
      (s.record x).length ≤ (t.record x).length)
    (hc : ∀ x, Numbered x → (t.record x).send.cursor ≤ (t.record x).length)
    (hlag : ∀ x, Numbered x → (t.record x).state = .composing → (t.record x).send.status = .pending →
      (t.record x).length ≤ (t.record x).send.cursor + 64) : SendSide t := by
  have hsends {item : TxItem} {e : Nat} (hi : s.tx.Sends item e) : s.InUse e ∧ (s.record e).send.mark = true := by
    obtain ⟨-, hr⟩ | ⟨-, hk⟩ := hi
    · exact ⟨(h.retrieved e hr).1, (h.retrieved e hr).2.1⟩
    · exact ⟨(h.keyboardText e hk).1, (h.keyboardText e hk).2.1⟩
  refine ⟨hc, fun e he => ?_, fun e he => ?_, fun item e hi hitem => ?_, hlag⟩
  · rw [ht] at he ⊢
    obtain ⟨hu, hm, hk⟩ := h.retrieved e he
    obtain ⟨hu', hs', -⟩ := hr e hu hm
    rw [hs']
    exact ⟨hu', hm, hk⟩
  · rw [ht] at he
    obtain ⟨hu, hm, hk⟩ := h.keyboardText e he
    obtain ⟨hu', hs', hd', -⟩ := hr e hu hm
    rw [hs']
    exact ⟨hu', hm, hk.imp_right hd'⟩
  · rw [ht] at hi ⊢
    obtain ⟨hs, hlt⟩ := h.cell item e hi hitem
    obtain ⟨hu, hm⟩ := hsends hs
    obtain ⟨-, hs', -, hl⟩ := hr e hu hm
    rw [hs']
    exact ⟨hs, hlt.trans_le hl⟩

/-- The store's directory and arrival list, the punch and the transmitter the same. -/
theorem Sides.of_eq (h : Sides l s) (hd : t.store.dir = s.store.dir) (ha : t.store.arrival = s.store.arrival)
    (hp : t.punch = s.punch) (ht : t.tx = s.tx) : Sides l t := by
  have hr (x : Nat) : t.record x = s.record x := by simp only [record, hd]
  have huse (x : Nat) : t.InUse x ↔ s.InUse x := by simp only [InUse, hr]
  refine ⟨by rw [hd]; exact h.dir, by rw [ha]; exact h.arrival, h.punch.of_marked hp ?_ ?_, h.send.of_marked ht ?_ ?_ ?_⟩
  · exact fun x hx _ => ⟨(huse x).mpr hx, by rw [hr], by rw [hr], by rw [hr]⟩
  · simpa only [hr] using h.punch.cursor
  · exact fun x hx _ => ⟨(huse x).mpr hx, by rw [hr], by rw [hr]; exact id, by rw [hr]⟩
  · simpa only [hr] using h.send.cursor
  · simpa only [hr] using h.send.lag

/-! ### Changes of one entry -/

/-- An entry replaced by a record with the same punch and send outputs, no shorter, in use where it was. -/
theorem Sides.setOther (h : Sides l s) (he : Numbered e) {r : Record} (hp : r.punch = (s.record e).punch)
    (hsrc : r.punchSource = (s.record e).punchSource) (hs : r.send = (s.record e).send) (hl : (s.record e).length ≤ r.length)
    (hst : r.state = .empty → (s.record e).state = .empty)
    (hd : (s.record e).deletePending = true → r.deletePending = true)
    (hlag : r.state = .composing → r.send.status = .pending → r.length ≤ r.send.cursor + 64) :
    Sides l (s.setRecord e r) := by
  have hr {x : Nat} (hx : Numbered x) := record_setRecord h.dir he hx r
  have huse {x : Nat} (hx : s.InUse x) : (s.setRecord e r).InUse x := by
    have hn := numbered_of_inUse hx
    rw [inUse_iff, hr hn]
    split
    · rename_i heq
      subst heq
      exact ⟨hn, fun hempty => hx.2.2 (hst hempty)⟩
    · exact ⟨hn, hx.2.2⟩
  refine ⟨by simpa using h.dir, h.arrival, h.punch.of_marked rfl (fun x hx _ => ⟨huse hx, ?_⟩) fun x hx => ?_,
    h.send.of_marked rfl (fun x hx _ => ⟨huse hx, ?_⟩) (fun x hx => ?_) fun x hx => ?_⟩
  · rw [hr (numbered_of_inUse hx)]
    split
    · rename_i heq
      subst heq
      exact ⟨hp, hsrc, hl⟩
    · exact ⟨rfl, rfl, le_rfl⟩
  · rw [hr hx]
    split
    · rw [hp]
      exact (h.punch.cursor e he).trans hl
    · exact h.punch.cursor x hx
  · rw [hr (numbered_of_inUse hx)]
    split
    · rename_i heq
      subst heq
      exact ⟨hs, hd, hl⟩
    · exact ⟨rfl, id, le_rfl⟩
  · rw [hr hx]
    split
    · rw [hs]
      exact (h.send.cursor e he).trans hl
    · exact h.send.cursor x hx
  · rw [hr hx]
    split
    · exact hlag
    · exact h.send.lag x hx

/-- The same with the length and, where it is COMPOSING, the state as they were. -/
theorem Sides.setSame (h : Sides l s) (he : Numbered e) {r : Record} (hp : r.punch = (s.record e).punch)
    (hsrc : r.punchSource = (s.record e).punchSource) (hs : r.send = (s.record e).send) (hl : r.length = (s.record e).length)
    (hst : r.state = .empty → (s.record e).state = .empty)
    (hd : (s.record e).deletePending = true → r.deletePending = true)
    (hc : r.state = .composing → (s.record e).state = .composing) : Sides l (s.setRecord e r) :=
  h.setOther he hp hsrc hs hl.ge hst hd fun hcomp hpend => by
    rw [hs, hl]
    exact h.send.lag e he (hc hcomp) (hs ▸ hpend)

/-- A freed record was marked for nobody. -/
theorem Sides.freeRecord (h : Sides l s) (he : Numbered e) (hp : (s.record e).punch.mark = false)
    (hs : (s.record e).send.mark = false) : Sides l (s.freeRecord e) := by
  have hr {x : Nat} (hx : Numbered x) := record_freeRecord (s := s) h.dir he hx
  have hother {x : Nat} (hx : s.InUse x) (hne : x ≠ e) : (s.freeRecord e).InUse x ∧ (s.freeRecord e).record x = s.record x := by
    have hrec : (s.freeRecord e).record x = s.record x := by rw [hr (numbered_of_inUse hx), if_neg hne]
    exact ⟨by rw [inUse_iff, hrec]; exact ⟨numbered_of_inUse hx, hx.2.2⟩, hrec⟩
  refine ⟨by simpa using h.dir, fun x hx => h.arrival x (List.mem_of_mem_erase hx),
    h.punch.of_marked rfl (fun x hx hm => ?_) fun x hx => ?_,
    h.send.of_marked rfl (fun x hx hm => ?_) (fun x hx => ?_) fun x hx => ?_⟩
  · obtain ⟨hu, hrec⟩ := hother hx (by rintro rfl; rw [hp] at hm; cases hm)
    rw [hrec]
    exact ⟨hu, rfl, rfl, le_rfl⟩
  · rw [hr hx]
    split
    · simp [Record.empty, Output.none]
    · exact h.punch.cursor x hx
  · obtain ⟨hu, hrec⟩ := hother hx (by rintro rfl; rw [hs] at hm; cases hm)
    rw [hrec]
    exact ⟨hu, rfl, id, le_rfl⟩
  · rw [hr hx]
    split
    · simp [Record.empty, Output.none]
    · exact h.send.cursor x hx
  · rw [hr hx]
    split
    · simp [Record.empty]
    · exact h.send.lag x hx

theorem Sides.examine (h : Sides l s) (he : Numbered e) : Sides l (s.examine e) := by
  rw [examine_eq]
  split
  · rename_i hdisp
    obtain ⟨-, -, -, -, -, -, hpm, hsm⟩ := (Record.disposable_iff _).mp hdisp
    rw [Record.printDone_punch] at hpm
    rw [Record.printDone_send] at hsm
    exact h.freeRecord he hpm hsm
  · exact h.setSame he (by simp) (by simp) (by simp) (by simp) (by simp) (by simp) (by simp)

theorem Sides.updSame (h : Sides l s) (he : Numbered e) {f : Record → Record} (hp : (f (s.record e)).punch = (s.record e).punch)
    (hsrc : (f (s.record e)).punchSource = (s.record e).punchSource) (hs : (f (s.record e)).send = (s.record e).send)
    (hl : (f (s.record e)).length = (s.record e).length)
    (hst : (f (s.record e)).state = .empty → (s.record e).state = .empty)
    (hd : (s.record e).deletePending = true → (f (s.record e)).deletePending = true)
    (hc : (f (s.record e)).state = .composing → (s.record e).state = .composing) : Sides l (s.updRecord e f) :=
  (h.setSame he hp hsrc hs hl hst hd hc).examine he

/-- The punch output of an entry replaced. -/
theorem Sides.setPunch (h : Sides l s) (he : Numbered e) (o : Output) (src : PunchSource) {l' : List Nat}
    (hc : o.cursor ≤ (s.record e).length) (hl : ∀ x ∈ l', x ∈ l ∨ x = e)
    (hcopy : e ∈ l' → s.InUse e ∧ o.status = .pending ∧ src = .copy ∧ o.mark = true)
    (hcur : s.punch.current = some e → o.mark = true ∧ (s.punch.piece = .cell → o.cursor < (s.record e).length)) :
    Sides l' (s.setRecord e { s.record e with punch := o, punchSource := src }) := by
  have hr {x : Nat} (hx : Numbered x) := record_setRecord h.dir he hx { s.record e with punch := o, punchSource := src }
  have hstate {x : Nat} (hx : Numbered x) :
      ((s.setRecord e { s.record e with punch := o, punchSource := src }).record x).state = (s.record x).state := by
    rw [hr hx]
    split
    · rename_i heq
      rw [heq]
    · rfl
  have huse {x : Nat} (hx : s.InUse x) : (s.setRecord e { s.record e with punch := o, punchSource := src }).InUse x :=
    inUse_iff.mpr ⟨numbered_of_inUse hx, by rw [hstate (numbered_of_inUse hx)]; exact hx.2.2⟩
  refine ⟨by simpa using h.dir, h.arrival, ⟨fun x hx => ?_, fun x hx => ?_, fun x hx => ?_⟩,
    h.send.of_marked rfl (fun x hx _ => ⟨huse hx, ?_⟩) (fun x hx => ?_) fun x hx => ?_⟩
  · by_cases hxe : x = e
    · subst hxe
      obtain ⟨hu, hst, hsrc, hm⟩ := hcopy hx
      rw [hr he, if_pos rfl]
      exact ⟨huse hu, hst, hsrc, hm⟩
    · obtain ⟨hu, hrest⟩ := h.punch.copies x ((hl x hx).resolve_right hxe)
      rw [hr (numbered_of_inUse hu), if_neg hxe]
      exact ⟨huse hu, hrest⟩
  · rw [hr hx]
    split
    · exact hc
    · exact h.punch.cursor x hx
  · obtain ⟨hu, hm, hcell⟩ := h.punch.current x hx
    rw [hr (numbered_of_inUse hu)]
    split
    · rename_i heq
      subst heq
      exact ⟨huse hu, hcur hx⟩
    · exact ⟨huse hu, hm, hcell⟩
  all_goals first | rw [hr hx] | rw [hr (numbered_of_inUse hx)]
  · split
    · rename_i heq
      subst heq
      exact ⟨rfl, id, le_rfl⟩
    · exact ⟨rfl, id, le_rfl⟩
  · split
    · exact h.send.cursor e he
    · exact h.send.cursor x hx
  · split
    · exact h.send.lag e he
    · exact h.send.lag x hx

/-- The send output of an entry replaced. -/
theorem Sides.setSend (h : Sides l s) (he : Numbered e) (o : Output) (hc : o.cursor ≤ (s.record e).length)
    (hret : s.tx.retrieved = some e → o.mark = true)
    (hkt : s.tx.keyboardText = some e → o.mark = true ∧ (o.status = .pending ∨ (s.record e).deletePending = true))
    (hcell : ∀ item, s.tx.cellInFlight = some item → item = .retrievalCell e ∨ item = .keyboardCell e →
      o.cursor < (s.record e).length)
    (hlag : (s.record e).state = .composing → o.status = .pending → (s.record e).length ≤ o.cursor + 64) :
    Sides l (s.setRecord e { s.record e with send := o }) := by
  have hr {x : Nat} (hx : Numbered x) := record_setRecord h.dir he hx { s.record e with send := o }
  have hstate {x : Nat} (hx : Numbered x) :
      ((s.setRecord e { s.record e with send := o }).record x).state = (s.record x).state := by
    rw [hr hx]
    split
    · rename_i heq
      rw [heq]
    · rfl
  have huse {x : Nat} (hx : s.InUse x) : (s.setRecord e { s.record e with send := o }).InUse x :=
    inUse_iff.mpr ⟨numbered_of_inUse hx, by rw [hstate (numbered_of_inUse hx)]; exact hx.2.2⟩
  refine ⟨by simpa using h.dir, h.arrival, h.punch.of_marked rfl (fun x hx _ => ⟨huse hx, ?_⟩) fun x hx => ?_,
    ⟨fun x hx => ?_, fun x hx => ?_, fun x hx => ?_, fun item x hi hitem => ?_, fun x hx => ?_⟩⟩
  · rw [hr (numbered_of_inUse hx)]
    split
    · rename_i heq
      subst heq
      exact ⟨rfl, rfl, le_rfl⟩
    · exact ⟨rfl, rfl, le_rfl⟩
  · rw [hr hx]
    split
    · exact h.punch.cursor e he
    · exact h.punch.cursor x hx
  · rw [hr hx]
    split
    · exact hc
    · exact h.send.cursor x hx
  · obtain ⟨hu, hm, hk⟩ := h.send.retrieved x hx
    rw [hr (numbered_of_inUse hu)]
    split
    · rename_i heq
      subst heq
      exact ⟨huse hu, hret hx, hk⟩
    · exact ⟨huse hu, hm, hk⟩
  · obtain ⟨hu, hm, hk⟩ := h.send.keyboardText x hx
    rw [hr (numbered_of_inUse hu)]
    split
    · rename_i heq
      subst heq
      exact ⟨huse hu, hkt hx⟩
    · exact ⟨huse hu, hm, hk⟩
  · obtain ⟨hs, hlt⟩ := h.send.cell item x hi hitem
    have hn : Numbered x := by
      obtain ⟨-, h'⟩ | ⟨-, h'⟩ := hs
      · exact numbered_of_inUse (h.send.retrieved x h').1
      · exact numbered_of_inUse (h.send.keyboardText x h').1
    rw [hr hn]
    split
    · rename_i heq
      subst heq
      exact ⟨hs, hcell item hi hitem⟩
    · exact ⟨hs, hlt⟩
  · rw [hr hx]
    split
    · exact hlag
    · exact h.send.lag x hx

end State
end Sys2Proof.Machine
end

section
/-! PROOF. The operations of the Message Store and of the printer leave what the punch and the send items rest on (sections 3.2 to 3.6, 4.5 to
4.8). -/

namespace Sys2Proof.Machine
namespace State

variable {s t : State} {e x : Nat} {l : List Nat} {st : List StackEntry} {top : RecState}

namespace Sides

/-! ### The Message Store -/

theorem onStore (h : Sides l s) (f : StoreBlock → StoreBlock) (hd : (f s.store).dir = s.store.dir)
    (ha : (f s.store).arrival = s.store.arrival) : Sides l (s.onStore f) := h.of_eq hd ha rfl rfl

theorem setStack (h : Sides l s) (q : List StackEntry) : Sides l (s.setStack q) := h.of_eq rfl rfl rfl rfl
theorem onKb (h : Sides l s) (f : KbBlock → KbBlock) : Sides l (s.onKb f) := h.of_eq rfl rfl rfl rfl

/-- A state given to a record, COMPOSING only where it was. -/
theorem setState (h : Sides l s) (he : Numbered e) {q : Record → RecState} (hne : ∀ r, q r ≠ .empty)
    (hc : ∀ r, q r ≠ .composing) : Sides l (s.updRecord e fun r => { r with state := q r }) :=
  h.updSame he rfl rfl rfl rfl (fun hq => absurd hq (hne _)) id fun hq => absurd hq (hc _)

theorem closeEntry (h : Sides l s) {a : StackEntry} (ha : ∀ e, a.entry = some e → Numbered e) : Sides l (s.closeEntry a) := by
  unfold State.closeEntry
  split
  · exact h
  · rename_i e he
    exact h.setState (ha e he) (fun r => by split <;> simp) fun r => by split <;> simp

theorem cutFrom (h : Sides l s) (p : Nat) (ha : ∀ a ∈ st, ∀ e, a.entry = some e → Numbered e) : Sides l (cutFrom p st s) := by
  induction st generalizing s with
  | nil => exact h.setStack []
  | cons a rest ih =>
    simp only [State.cutFrom]
    split
    · exact ih (h.closeEntry (ha a List.mem_cons_self)) fun b hb => ha b (List.mem_cons_of_mem a hb)
    · exact h.setStack _

theorem topTakes (h : Sides l s) (ha : ∀ a ∈ s.store.openStack, ∀ e, a.entry = some e → Numbered e) {q : RecState}
    (hne : q ≠ .empty) (hc : q ≠ .composing) : Sides l (s.topTakes q) := by
  unfold State.topTakes
  split
  · rename_i p e rest hst
    exact h.setState (ha _ (by rw [hst]; exact List.mem_cons_self) e rfl) (fun _ => hne) fun _ => hc
  · exact h

theorem closeComposing (h : Sides l s) : Sides l s.closeComposing := by
  unfold State.closeComposing
  split
  · exact h.onKb _
  · rename_i e hc
    exact (h.onKb _).setState (h.arrival e (List.mem_of_find?_eq_some hc)) (fun _ => by decide) fun _ => by decide

/-- A new record in an EMPTY entry. -/
theorem placed (h : Sides l s) (he : Numbered e) (hempty : (s.record e).state = .empty) {r : Record} (hl : r.length = 0)
    (hp : r.punch.cursor = 0) (hs : r.send.cursor = 0) : Sides l (s.placed e r) := by
  have hr {x : Nat} (hx : Numbered x) := record_placed h.dir he hx r
  have hother {x : Nat} (hx : s.InUse x) : (s.placed e r).InUse x ∧ (s.placed e r).record x = s.record x := by
    have hrec : (s.placed e r).record x = s.record x := by
      rw [hr (numbered_of_inUse hx), if_neg]
      rintro rfl
      exact hx.2.2 hempty
    exact ⟨by rw [inUse_iff, hrec]; exact ⟨numbered_of_inUse hx, hx.2.2⟩, hrec⟩
  refine ⟨by simpa [State.placed] using h.dir, fun x hx => ?_, h.punch.of_marked rfl (fun x hx _ => ?_) fun x hx => ?_,
    h.send.of_marked rfl (fun x hx _ => ?_) (fun x hx => ?_) fun x hx => ?_⟩
  · obtain hx | hx := List.mem_append.mp hx
    · exact h.arrival x hx
    · exact List.mem_singleton.mp hx ▸ he
  · obtain ⟨hu, hrec⟩ := hother hx
    rw [hrec]
    exact ⟨hu, rfl, rfl, le_rfl⟩
  · rw [hr hx]
    split
    · simp [hp]
    · exact h.punch.cursor x hx
  · obtain ⟨hu, hrec⟩ := hother hx
    rw [hrec]
    exact ⟨hu, rfl, id, le_rfl⟩
  · rw [hr hx]
    split
    · simp [hs]
    · exact h.send.cursor x hx
  · rw [hr hx]
    split
    · simp [hl]
    · exact h.send.lag x hx

/-- A cell appended, with fewer than 64 cells unsent where the record is COMPOSING and its send PENDING. -/
theorem append (h : Sides l s) (he : Numbered e) {c : Cell} (ht : s.append e c = some t)
    (hlag : (s.record e).state = .composing → (s.record e).send.status = .pending →
      (s.record e).length < (s.record e).send.cursor + 64) : Sides l t := by
  obtain ⟨-, harr, hdir, taken, -, -, -, hr⟩ := append_some h.dir he ht
  have hoff := append_offStore ht
  have hstate {x : Nat} (hx : s.InUse x) : t.InUse x := by
    have hn := numbered_of_inUse hx
    rw [inUse_iff, hr x hn]
    split
    · rename_i heq
      subst heq
      exact ⟨hn, hx.2.2⟩
    · exact ⟨hn, hx.2.2⟩
  refine ⟨hdir, by rw [harr]; exact h.arrival,
    h.punch.of_marked (of_offStore State.punch (fun _ => rfl) hoff) (fun x hx _ => ⟨hstate hx, ?_⟩) fun x hx => ?_,
    h.send.of_marked (of_offStore State.tx (fun _ => rfl) hoff) (fun x hx _ => ⟨hstate hx, ?_⟩) (fun x hx => ?_) fun x hx => ?_⟩
  · rw [hr x (numbered_of_inUse hx)]
    split
    · rename_i heq
      subst heq
      exact ⟨rfl, rfl, Nat.le_succ _⟩
    · exact ⟨rfl, rfl, le_rfl⟩
  · rw [hr x hx]
    split
    · exact (h.punch.cursor e he).trans (Nat.le_succ _)
    · exact h.punch.cursor x hx
  · rw [hr x (numbered_of_inUse hx)]
    split
    · rename_i heq
      subst heq
      exact ⟨rfl, id, Nat.le_succ _⟩
    · exact ⟨rfl, id, le_rfl⟩
  · rw [hr x hx]
    split
    · exact (h.send.cursor e he).trans (Nat.le_succ _)
    · exact h.send.cursor x hx
  · rw [hr x hx]
    split
    · exact fun hc hp => hlag hc hp
    · exact h.send.lag x hx

theorem appendLine (h : Sides l s) (he : Numbered e) (hc : (s.record e).state ≠ .composing) (c : Cell) :
    Sides l (s.appendLine e c) := by
  unfold State.appendLine
  split
  · exact h.append he ‹_› fun hcomp => absurd hcomp hc
  · have hmarked : Sides l (s.setRecord e { s.record e with overflowed := true }) :=
      h.setSame he rfl rfl rfl rfl id id id
    exact hmarked.onStore _ rfl rfl

theorem append_state {c : Cell} (hd : s.store.dir.length = 32) (he : Numbered e) (ht : s.append e c = some t) :
    (t.record e).state = (s.record e).state := by
  obtain ⟨-, -, -, taken, -, -, -, hr⟩ := append_some hd he ht
  rw [hr e he, if_pos rfl]
  rfl

theorem appendAll (h : Sides l s) (he : Numbered e) (hc : (s.record e).state ≠ .composing) (cs : List Code) :
    Sides l (appendAll e cs s) := by
  induction cs generalizing s with
  | nil => exact h
  | cons c cs ih =>
    cases ha : s.append e ⟨c, .good⟩ with
    | none => simpa [State.appendAll, ha] using ih h hc
    | some t =>
      have ht := h.append he ha fun hcomp => absurd hcomp hc
      simpa [State.appendAll, ha] using ih ht (by rwa [append_state h.dir he ha])

theorem stack_numbered (h : Stacked st top s) : ∀ a ∈ st, ∀ e, a.entry = some e → Numbered e := fun a ha _ he =>
  numbered_of_inUse (h.mem (List.mem_filterMap.mpr ⟨a, ha, he⟩)).1

theorem heading (h : Sides l s) (hk : Kept s.store.openStack top s) (p n : Nat) : Sides l (s.heading p n) := by
  obtain ⟨top', hcut⟩ := hk.cutFrom p
  rw [← (cutFrom_store s p s.store.openStack).2] at hcut
  have hu := (h.cutFrom p (stack_numbered hk.stack)).topTakes (stack_numbered hcut.stack) (q := .suspended) (by decide)
    (by decide)
  simp only [State.heading]
  generalize (State.cutFrom p s.store.openStack s).topTakes .suspended = u at hu ⊢
  split
  · exact (hu.setStack _).onStore _ rfl rfl
  · rename_i v e hcreate
    obtain ⟨hlow, rfl⟩ := create_some hcreate
    obtain ⟨hn, hempty⟩ := lowestEmpty_some hlow
    exact (hu.placed hn hempty rfl rfl rfl).setStack _

theorem lineText (h : Sides l s) (hk : Kept s.store.openStack .receiving s) (c : Cell) : Sides l (s.lineText c) := by
  match hst : s.store.openStack with
  | [] =>
    simp only [State.lineText, hst]
    split
    · exact (h.setStack _).onStore _ rfl rfl
    · rename_i v e hcreate
      obtain ⟨hlow, rfl⟩ := create_some hcreate
      obtain ⟨hn, hempty⟩ := lowestEmpty_some hlow
      refine appendLine (s := (s.placed e (s.lineRecord 0 none)).push ⟨0, some e⟩)
        ((h.placed hn hempty rfl rfl rfl).setStack _) hn ?_ c
      have hrec : ((s.placed e (s.lineRecord 0 none)).push ⟨0, some e⟩).record e =
          { s.lineRecord 0 none with retained := !s.conn.attended && s.working.retainUnattended } :=
        (record_placed h.dir hn hn _).trans (if_pos rfl)
      rw [hrec]
      simp [lineRecord]
  | ⟨p, some e⟩ :: rest =>
    rw [lineText_record c hst]
    rw [hst] at hk
    obtain ⟨hu, hstate⟩ := hk.stack.head _ rfl e rfl
    exact h.appendLine (numbered_of_inUse hu) (by rw [hstate]; decide) c
  | ⟨p, none⟩ :: rest => rwa [lineText_void c hst]

theorem endMessage (h : Sides l s) (hk : Kept s.store.openStack .receiving s) : Sides l s.endMessage := by
  match hst : s.store.openStack with
  | [] =>
    rw [endMessage_nil hst]
    exact h.onStore _ rfl rfl
  | t :: rest =>
    have hnum := stack_numbered hk.stack
    rw [hst] at hnum
    rw [endMessage_cons hst]
    have hdone : Sides l ((s.setStack rest).completeEntry t) := by
      unfold State.completeEntry
      split
      · exact h.setStack rest
      · rename_i e he
        exact (h.setStack rest).setState (hnum t List.mem_cons_self e he) (fun _ => by decide) fun _ => by decide
    refine hdone.topTakes ?_ (by decide) (by decide)
    rw [completeEntry_openStack]
    exact fun a ha => hnum a (List.mem_cons_of_mem t ha)

theorem notice (h : Sides l s) (text : List Code) : Sides l (s.notice text) := by
  simp only [State.notice]
  split
  · exact h.onStore _ rfl rfl
  · rename_i v e hmade
    split at hmade
    · obtain ⟨hlow, rfl⟩ := create_some hmade
      obtain ⟨hn, hempty⟩ := lowestEmpty_some hlow
      have hplaced : Sides l (s.placed e s.noticeRecord) := h.placed hn hempty rfl rfl rfl
      have hstate : ((s.placed e s.noticeRecord).record e).state ≠ .composing := by
        rw [record_placed h.dir hn hn, if_pos rfl]
        simp [noticeRecord]
      exact (show Sides l (takeSerial _) from (hplaced.appendAll hn hstate _).onStore _ rfl rfl).examine hn
    · cases hmade

theorem offerKey {c : Code} (h : Sides l s) (hlag : s.sendLagLock = false) (ht : s.offerKey c = some t) : Sides l t := by
  unfold State.offerKey at ht
  split at ht
  · unfold State.createKeyboard at ht
    split at ht
    · cases ht
    · rename_i v e hmade
      obtain ⟨u, hu, rfl⟩ := Option.map_eq_some_iff.mp ht
      obtain ⟨hlow, rfl⟩ := create_some hmade
      obtain ⟨hn, hempty⟩ := lowestEmpty_some hlow
      have hplaced : Sides l (s.placed e s.keyboardRecord) := h.placed hn hempty rfl rfl rfl
      refine (hplaced.append hn hu fun _ _ => ?_).onStore _ rfl rfl
      rw [record_placed h.dir hn hn, if_pos rfl]
      simp [keyboardRecord, Record.empty]
  · rename_i e hc
    have hn := h.arrival e (List.mem_of_find?_eq_some hc)
    refine h.append hn ht fun hcomp hpend => ?_
    have hle := h.send.lag e hn hcomp hpend
    have hcur := h.send.cursor e hn
    simp only [sendLagLock, hc, Output.owed, hpend, beq_self_eq_true, Bool.true_and, beq_eq_false_iff_ne] at hlag
    omega

/-! ### The printer -/

theorem onPrint (h : Sides l s) (f : PrintBlock → PrintBlock) : Sides l (s.onPrint f) := h.of_eq rfl rfl rfl rfl

/-- An entry replaced in what the printer writes to it. -/
theorem setPrint (h : Sides l s) (he : Numbered e) (o : Output) (started : Bool) :
    Sides l (s.setRecord e { s.record e with print := o, started := started }) := h.setSame he rfl rfl rfl rfl id id id

theorem updPrint (h : Sides l s) (he : Numbered e) (o : Record → Output) :
    Sides l (s.updRecord e fun r => { r with print := o r }) := h.updSame he rfl rfl rfl rfl id id id

theorem markPrint (h : Sides l s) (he : Numbered e) (m : Bool) : Sides l (s.markPrint e m) := h.updPrint he _

theorem onTop (h : Sides l s) (f : PrintContext → PrintContext) : Sides l (s.onTop f) := h.onPrint _

theorem setLineStart (h : Sides l s) (n : Nat) : Sides l (s.setLineStart n) := h.onPrint _

theorem pushContext (h : Sides l s) (he : Numbered e) : Sides l (s.pushContext e) := by
  unfold State.pushContext
  exact Sides.onPrint (h.setPrint he _ _) _

theorem preempt (h : Sides l s) {c : Nat} (he : Numbered c) : Sides l (s.preempt c) :=
  (show Sides l s.markMidLine from h.onPrint _).pushContext he

theorem context_numbered (hk : Kept st top s) : ∀ c ∈ s.print.contexts, Numbered c.entry := fun c hc =>
  numbered_of_inUse (hk.contexts.mem c hc).1

theorem dropTop (h : Sides l s) (hk : Kept st top s) (d : Bool) : Sides l (s.dropTop d) := by
  unfold State.dropTop
  split
  · exact h
  · rename_i c rest hc
    exact (h.onPrint _).updPrint (context_numbered hk c (by rw [hc]; exact List.mem_cons_self)) _

theorem exceeding_numbered (hk : Kept st top s) {c : Nat} (hc : s.exceeding e = some c) : Numbered c :=
  numbered_of_inUse (bestCandidate_some hk.store (exceeding_some hc).1).1

theorem afterPop (cs : List PrintContext) (h : Sides l s) (hk : Kept st top s) (hkind : s.print.kind ≠ .cell)
    (hcs : s.print.contexts = cs) : Sides l (afterPop cs s) := by
  induction cs generalizing s with
  | nil => exact h
  | cons c rest ih =>
    simp only [State.afterPop]
    split
    · obtain ⟨hdrop, hkind', hctx⟩ := hk.dropTop hkind true
      exact ih (h.dropTop hk true) hdrop (by rwa [hkind']) (by rw [hctx, hcs]; rfl)
    · split
      · exact h.preempt (exceeding_numbered hk ‹_›)
      · exact h.onPrint _

theorem popContext (h : Sides l s) (hk : Kept st top s) (hkind : s.print.kind ≠ .cell) (d : Bool) :
    Sides l (s.popContext d) := by
  obtain ⟨hdrop, hkind', -⟩ := hk.dropTop hkind d
  exact (h.dropTop hk d).afterPop _ hdrop (by rwa [hkind']) rfl

theorem takePrintCell (h : Sides l s) (e : Nat) : Sides l (s.takePrintCell e) := by
  simp only [State.takePrintCell]
  split
  · exact (h.onPrint _).setLineStart _
  · exact h.onPrint _

theorem cellDone (h : Sides l s) (he : Numbered e) : Sides l (s.cellDone e) := by
  simp only [State.cellDone]
  split
  · exact (h.setPrint he _ _).setLineStart _
  · exact h.setPrint he _ _

theorem rewind (h : Sides l s) {c : PrintContext} (he : Numbered c.entry) : Sides l (s.rewind c) := by
  simp only [State.rewind]
  split
  · exact (h.setPrint he _ _).onPrint _
  · exact h

theorem endSequence (h : Sides l s) (hk : Kept st top s) : Sides l s.endSequence := by
  have hnone := h.onPrint fun b => { b with kind := .none }
  simp only [State.endSequence]
  split
  · exact hnone
  · rename_i c rest hc
    have hn : Numbered c.entry :=
      context_numbered hk c (by rw [show s.print.contexts = c :: rest from hc]; exact List.mem_cons_self)
    cases s.print.kind <;> dsimp only
    case none => exact hnone
    case opening =>
      split
      · exact hnone.setLineStart _
      · exact hnone
    case resumption => exact hnone.rewind hn
    case cell => exact hnone.cellDone hn

theorem printBoundary (h : Sides l s) (hk : Kept st top s) (hkind : s.print.kind ≠ .cell) (ht : s.printBoundary = some t) :
    Sides l t := by
  simp only [State.printBoundary] at ht
  split at ht
  · obtain ⟨e, hbest, rfl⟩ := Option.map_eq_some_iff.mp ht
    exact h.pushContext (numbered_of_inUse (bestCandidate_some hk.store hbest).1)
  · rename_i c rest hc
    have htake {v : State} (hv : (if (s.record c.entry).print.cursor < (s.record c.entry).length then
        some (s.takePrintCell c.entry) else none) = some v) : Sides l v := by
      split at hv <;> cases hv
      exact h.takePrintCell _
    split at ht
    · cases ht
      exact h.popContext hk hkind false
    split at ht
    · cases ht
      exact h.popContext hk hkind true
    split at ht
    · rename_i d hd
      split at ht
      · cases ht
        exact h.preempt (exceeding_numbered hk hd)
      · exact htake ht
    · exact htake ht

theorem printStep (h : Sides l s) (hk : Kept st top s) (ht : s.printStep = some t) : Sides l t := by
  simp only [State.printStep] at ht
  split at ht
  · cases ht
  split at ht
  · split at ht
    · cases ht
      exact h.onPrint _
    · split at ht <;> cases ht
      exact h.onPrint _
  split at ht
  · cases ht
    exact h.onPrint _
  split at ht
  · rename_i hkind
    exact h.printBoundary hk (by rw [hkind]; decide) ht
  · cases ht
    exact h.endSequence hk

theorem foldl (h : Sides l s) (es : List Nat) (hl : ∀ e ∈ es, Numbered e) (f : State → Nat → State)
    (hf : ∀ u e, Numbered e → Sides l u → Sides l (f u e)) : Sides l (es.foldl f s) := by
  induction es generalizing s with
  | nil => exact h
  | cons a es ih => exact ih (hf s a (hl a List.mem_cons_self) h) fun e he => hl e (List.mem_cons_of_mem a he)

theorem forRecords (h : Sides l s) (f : State → Nat → State) (hf : ∀ u e, Numbered e → Sides l u → Sides l (f u e)) :
    Sides l (s.forRecords f) := h.foldl _ h.arrival f hf

theorem resetPrint (h : Sides l s) (hk : Kept st top s) : Sides l s.resetPrint := by
  refine (h.onPrint _).foldl _ (fun e he => ?_) _ fun u e he hu => hu.markPrint he false
  obtain ⟨c, hc, rfl⟩ := List.mem_map.mp he
  exact context_numbered hk c hc

theorem dropBeneath (h : Sides l s) (he : Numbered e) : Sides l (s.dropBeneath e) := by
  unfold State.dropBeneath
  split
  · exact h
  · split
    · exact (h.onPrint _).updPrint he _
    · exact h

end Sides
end State
end Sys2Proof.Machine
end

section
/-! PROOF. The operations of the punch keep the claim table, the copy list and what the punch rests on in the records (sections 5.2 to
5.6). -/

namespace Sys2Proof.Machine

namespace PunchBlock

variable {b : PunchBlock} {src : PunchSource}

/-- The claim table after a source's count is taken to 0 at once (R103). -/
def released (b : PunchBlock) (src : PunchSource) : PunchBlock :=
  match (b.claim src).state with
  | .idle | .draining => b
  | .holding => b.setClaim src ⟨.draining, 0⟩
  | .waiting => b.setClaim src ⟨.idle, 0⟩

/-- A claim of a source replaced by one of fewer counts, with the copy list as it is then. -/
theorem Claims.lower (h : b.Claims) {l : List Nat} {c : Claim} (hold : c.holds = true → (b.claim src).holds = true)
    (hdrain : (b.claim src).state = .draining → c.state = .draining) (hcount : c.count ≤ 15)
    (hzero : c.count = 0 ↔ c.state = .idle ∨ c.state = .draining) (hl : l.Sublist b.copyList)
    (hlist : src ≠ .copy → l = b.copyList) (hcopy : src = .copy → c.count = l.length) :
    (({ b with copyList := l } : PunchBlock).setClaim src c).Claims := by
  have hclaim (x : PunchSource) : ({ b with copyList := l } : PunchBlock).claim x = b.claim x := by cases x <;> rfl
  have hset (x : PunchSource) : (({ b with copyList := l } : PunchBlock).setClaim src c).claim x =
      if x = src then c else b.claim x := by
    rw [claim_setClaim, hclaim]
  refine h.setClaim hset (fun hh => .inl (hold hh)) hcount hzero (by simpa using h.nodup.sublist hl)
    (by simpa using hl.length_le.trans h.copies) ?_ fun hp => ?_
  · rw [setClaim_copyList]
    have hc := hset .copy
    by_cases hs : src = .copy
    · rw [if_pos hs.symm] at hc
      show (PunchBlock.claim _ .copy).count = l.length
      rw [hc]
      exact hcopy hs
    · rw [if_neg (Ne.symm hs)] at hc
      show (PunchBlock.claim _ .copy).count = l.length
      rw [hc, hlist hs]
      exact h.copyCount
  · rw [setClaim_piece] at hp
    obtain ⟨x, hx⟩ := h.trailer hp
    by_cases hxs : x = src
    · exact .inl (hdrain (hxs ▸ hx))
    · exact .inr ⟨x, hxs, hx⟩

/-- A release of a source other than COPY, or of COPY with an empty copy list. -/
theorem Claims.released (h : b.Claims) {l : List Nat} (hl : l.Sublist b.copyList) (hlist : src ≠ .copy → l = b.copyList)
    (hcopy : src = .copy → l = [] ∧ ((b.claim src).state = .holding ∨ (b.claim src).state = .waiting)) :
    (({ b with copyList := l } : PunchBlock).released src).Claims := by
  have hclaim : ({ b with copyList := l } : PunchBlock).claim src = b.claim src := by cases src <;> rfl
  have hsame (hst : ¬((b.claim src).state = .holding ∨ (b.claim src).state = .waiting)) :
      ({ b with copyList := l } : PunchBlock).Claims :=
    h.of_eq (fun x => by cases x <;> rfl) (hlist fun hs => hst (hcopy hs).2) id
  unfold PunchBlock.released
  rw [hclaim]
  cases hst : (b.claim src).state <;> dsimp only
  case idle => exact hsame (by simp [hst])
  case draining => exact hsame (by simp [hst])
  case holding =>
    exact h.lower (by simp [Claim.holds, hst]) (by simp [hst]) (by decide) (by decide) hl hlist fun hs => by simp [(hcopy hs).1]
  case waiting =>
    exact h.lower (by simp [Claim.holds]) (by simp [hst]) (by decide) (by decide) hl hlist fun hs => by simp [(hcopy hs).1]

/-- A release that leaves a count. -/
theorem Claims.countedDown (h : b.Claims) {l : List Nat} (hst : (b.claim src).state = .holding ∨ (b.claim src).state = .waiting)
    (hmore : 1 < (b.claim src).count) (hl : l.Sublist b.copyList) (hlist : src ≠ .copy → l = b.copyList)
    (hcopy : src = .copy → l.length = b.copyList.length - 1) :
    (({ b with copyList := l } : PunchBlock).setClaim src { b.claim src with count := (b.claim src).count - 1 }).Claims := by
  obtain ⟨hcount, -⟩ := h.count src
  refine h.lower id id (by simp only; omega) ?_ hl hlist fun hs => ?_
  · constructor
    · intro h0
      simp only at h0
      omega
    · rintro (hx | hx) <;> obtain hst | hst := hst <;> rw [show (b.claim src).state = _ from hx] at hst <;> cases hst
  · subst hs
    rw [hcopy rfl, ← h.copyCount]
    rfl

theorem released_refs (b : PunchBlock) (src : PunchSource) : (b.released src).refs = b.refs ∧ (b.released src).piece = b.piece := by
  unfold released
  split
  · exact ⟨rfl, rfl⟩
  · exact ⟨rfl, rfl⟩
  · exact ⟨State.setClaim_refs b src _, setClaim_piece b src _⟩
  · exact ⟨State.setClaim_refs b src _, setClaim_piece b src _⟩

theorem claimed_piece (b : PunchBlock) (src : PunchSource) (h : (b.claimed src).piece = .cell) : b.piece = .cell := by
  unfold claimed at h
  split at h
  · split at h
    · simpa using h
    · exact h
  · split at h
    · simpa using h
    · exact h
  · unfold dropTrailer at h
    split at h
    · cases h
    · simpa using h
  · split at h
    · exact (setClaim_piece b src _).symm.trans h
    · simpa using h

end PunchBlock

namespace State

variable {s t : State} {e x : Nat} {l l' : List Nat} {src : PunchSource}

theorem releaseAll_eq (s : State) (src : PunchSource) :
    s.releaseAll src =
      if (s.punch.claim src).state = .waiting then (s.onPunch (·.released src)).abandonMarked src
      else s.onPunch (·.released src) := by
  cases hst : (s.punch.claim src).state <;> simp only [releaseAll, PunchBlock.released, hst, onPunch] <;> rfl

namespace Sides

/-- The punch changed, with a part of the copy list; what it then refers to, it did, with a cell in progress below its record's
length. -/
theorem onPunch (h : Sides l s) (f : PunchBlock → PunchBlock) (hl : ∀ x ∈ l', x ∈ l)
    (hcur : ∀ e ∈ (f s.punch).current, e ∈ s.punch.current ∧ ((f s.punch).piece = .cell →
      s.punch.piece = .cell ∨ (s.record e).punch.cursor < (s.record e).length)) : Sides l' (s.onPunch f) := by
  refine ⟨h.dir, h.arrival, ⟨fun x hx => h.punch.copies x (hl x hx), h.punch.cursor, fun x hx => ?_⟩, h.send.of_marked rfl
    (fun x hx _ => ⟨hx, rfl, id, le_rfl⟩) h.send.cursor h.send.lag⟩
  obtain ⟨hx', hcell⟩ := hcur x hx
  obtain ⟨hu, hm, hold⟩ := h.punch.current x hx'
  exact ⟨hu, hm, fun hp => (hcell hp).elim hold id⟩

/-- The punch changed in neither its current record nor its piece. -/
theorem onPunchSame (h : Sides l s) (f : PunchBlock → PunchBlock) (hcur : (f s.punch).current = s.punch.current)
    (hpiece : (f s.punch).piece = .cell → s.punch.piece = .cell) : Sides l (s.onPunch f) :=
  h.onPunch f (fun _ => id) fun _ he => ⟨hcur ▸ he, fun hp => .inl (hpiece hp)⟩

theorem updPunch (h : Sides l s) (he : Numbered e) (o : Record → Output) (hl : ∀ x ∈ l', x ∈ l)
    (hc : (o (s.record e)).cursor ≤ (s.record e).length)
    (hcopy : e ∈ l' → (o (s.record e)).status = .pending ∧ (o (s.record e)).mark = true)
    (hcur : s.punch.current = some e → (o (s.record e)).mark = true ∧
      (s.punch.piece = .cell → (o (s.record e)).cursor < (s.record e).length)) :
    Sides l' (s.updRecord e fun r => { r with punch := o r }) := by
  refine Sides.examine (h.setPunch he (o (s.record e)) (s.record e).punchSource hc (fun x hx => .inl (hl x hx)) (fun hx => ?_) hcur) he
  obtain ⟨hu, -, hsrc, -⟩ := h.punch.copies e (hl e hx)
  exact ⟨hu, (hcopy hx).1, hsrc, (hcopy hx).2⟩

theorem giveUp_mark (o : Output) : o.giveUp.mark = o.mark ∧ o.giveUp.cursor = o.cursor := by
  unfold Output.giveUp
  split <;> exact ⟨rfl, rfl⟩

theorem abandonMarked (h : Sides l s) (hl : src = .copy → l = []) : Sides l (s.abandonMarked src) := by
  refine h.forRecords _ fun u e he hu => ?_
  dsimp only
  split
  · rename_i hcond
    simp only [Bool.and_eq_true, beq_iff_eq] at hcond
    have hnot : e ∉ l := by
      intro hmem
      obtain ⟨-, -, hsrc, -⟩ := hu.punch.copies e hmem
      rw [hl (hcond.2.symm.trans hsrc)] at hmem
      cases hmem
    refine hu.updPunch he (fun r => r.punch.giveUp) (fun _ => id) ?_ (fun hmem => absurd hmem hnot) fun hcur => ?_
    · rw [(giveUp_mark _).2]
      exact hu.punch.cursor e he
    · rw [(giveUp_mark _).1, (giveUp_mark _).2]
      exact (hu.punch.current e hcur).2
  · exact hu

theorem releaseAll (h : Sides l s) (hl : src = .copy → l = []) : Sides l (s.releaseAll src) := by
  have hreleased : Sides l (s.onPunch (·.released src)) := by
    obtain ⟨hrefs, hpiece⟩ := s.punch.released_refs src
    exact h.onPunchSame _ (congrArg Prod.fst hrefs) fun hp => hpiece ▸ hp
  rw [releaseAll_eq]
  split
  · exact hreleased.abandonMarked hl
  · exact hreleased

theorem unmarkPunch (h : Sides l s) (he : Numbered e) (hl : e ∉ l) (hcur : s.punch.current ≠ some e) :
    Sides l (s.markPunch e false) :=
  h.updPunch he (fun r => { r.punch with mark := false }) (fun _ => id) (h.punch.cursor e he) (fun hmem => absurd hmem hl)
    fun hc => absurd hc hcur

theorem advancePunch (h : Sides l s) (he : Numbered e) (hlt : (s.record e).punch.cursor < (s.record e).length)
    (hpiece : s.punch.piece ≠ .cell) : Sides l (s.advancePunch e) :=
  h.updPunch he (fun r => { r.punch with cursor := r.punch.cursor + 1 }) (fun _ => id) hlt
    (fun hmem => ⟨(h.punch.copies e hmem).2.1, (h.punch.copies e hmem).2.2.2⟩)
    fun hc => ⟨(h.punch.current e hc).2.1, fun hp => absurd hp hpiece⟩

theorem letGoPunch (h : Sides l s) (he : Numbered e) (hl : e ∉ l) : Sides l (s.letGoPunch e) :=
  (h.onPunch (l' := l) (fun b => { b with current := none }) (fun _ => id) fun _ hx => by cases hx).unmarkPunch he hl
    (by simp)

end Sides

/-! ### The claims and the records together -/

/-- The claim table, and what the punch and the send items rest on with the copy list as it is. -/
structure Reads (s : State) : Prop where
  claims : s.punch.Claims
  sides : Sides s.punch.copyList s

namespace Reads

/-- The punch as it was. -/
theorem of_punch (h : Reads s) (hs : Sides s.punch.copyList t) (hp : t.punch = s.punch) : Reads t :=
  ⟨hp ▸ h.claims, hp ▸ hs⟩

/-- The punch changed in none of its claims, its copy list and its current record. -/
theorem onPunch (h : Reads s) (f : PunchBlock → PunchBlock) (hclaim : ∀ x, (f s.punch).claim x = s.punch.claim x)
    (hlist : (f s.punch).copyList = s.punch.copyList) (hcur : (f s.punch).current = s.punch.current)
    (htrailer : (f s.punch).piece = .trailer → s.punch.piece = .trailer)
    (hcell : (f s.punch).piece = .cell → s.punch.piece = .cell) : Reads (s.onPunch f) :=
  ⟨h.claims.of_eq hclaim hlist htrailer, by
    rw [onPunch_punch, hlist]
    exact h.sides.onPunchSame f hcur hcell⟩

theorem claimRequest (h : Reads s) (hsrc : src ≠ .copy) : Reads (s.claimRequest src).1 := by
  have hrefs := claimed_refs s.punch src
  rw [claimRequest_fst]
  refine ⟨h.claims.claimed (fun _ => rfl) fun hs => absurd hs hsrc, ?_⟩
  rw [onPunch_punch, show (s.punch.claimed src).copyList = s.punch.copyList from congrArg Prod.snd hrefs]
  exact h.sides.onPunchSame _ (congrArg Prod.fst hrefs) (s.punch.claimed_piece src)

theorem releaseAll (h : Reads s) (hsrc : src ≠ .copy) : Reads (s.releaseAll src) := by
  have hpunch : (s.releaseAll src).punch = s.punch.released src := by
    rw [releaseAll_eq]
    split
    · rw [abandonMarked_punch]
      rfl
    · rfl
  refine ⟨?_, ?_⟩
  · rw [hpunch]
    exact h.claims.released (.refl _) (fun _ => rfl) fun hs => absurd hs hsrc
  · rw [hpunch, show (s.punch.released src).copyList = s.punch.copyList from congrArg Prod.snd (s.punch.released_refs src).1]
    exact h.sides.releaseAll fun hs => absurd hs hsrc

theorem claims_iff (c : Claim) : State.claims c = true ↔ c.state = .holding ∨ c.state = .waiting := by simp [State.claims]

theorem releaseRequest (h : Reads s) (hsrc : src ≠ .copy) : Reads (s.releaseRequest src).1 := by
  rw [releaseRequest_fst]
  split
  · rename_i hcond
    refine ⟨h.claims.countedDown ((claims_iff _).mp hcond.1) hcond.2 (.refl _) (fun _ => rfl) fun hs => absurd hs hsrc, ?_⟩
    rw [onPunch_punch, PunchBlock.setClaim_copyList]
    exact h.sides.onPunchSame _ (congrArg Prod.fst (setClaim_refs s.punch src _)) fun hp => by simpa using hp
  · exact h.releaseAll hsrc

theorem tapeKey (h : Reads s) : Reads s.tapeKey := by
  unfold State.tapeKey
  split
  · exact h.claimRequest (by decide)
  · exact h.claimRequest (by decide)
  · exact h.releaseAll (by decide)
  · exact h.releaseAll (by decide)

/-- A member leaves the copy list (R107). -/
theorem leaveCopyList (hc : s.punch.Claims) (he : e ∈ s.punch.copyList) (h : Sides (s.punch.copyList.erase e) s)
    (hn : Numbered e) : Reads (s.leaveCopyList e) := by
  have hsub : (s.punch.copyList.erase e).Sublist s.punch.copyList := List.erase_sublist
  have hlen : (s.punch.copyList.erase e).length = s.punch.copyList.length - 1 := List.length_erase_of_mem he
  have hpos : 0 < s.punch.copyList.length := List.length_pos_of_mem he
  have hcount : (s.punch.claim .copy).count = s.punch.copyList.length := hc.copyCount
  have hstate : (s.punch.claim .copy).state = .holding ∨ (s.punch.claim .copy).state = .waiting := by
    have hzero := (hc.count .copy).2
    cases hst : (s.punch.claim .copy).state
    case idle => have := hzero.mpr (.inl hst); omega
    case draining => have := hzero.mpr (.inr hst); omega
    case holding => exact .inl rfl
    case waiting => exact .inr rfl
  have hshort : Sides (s.punch.copyList.erase e) (s.onPunch fun b => { b with copyList := b.copyList.erase e }) :=
    h.onPunchSame _ rfl id
  have hreleased : Reads ((s.onPunch fun b => { b with copyList := b.copyList.erase e }).releaseRequest .copy).1 := by
    rw [releaseRequest_fst]
    split
    · rename_i hcond
      refine ⟨hc.countedDown hstate hcond.2 hsub (fun hne => absurd rfl hne) fun _ => hlen, ?_⟩
      exact hshort.onPunchSame _ rfl id
    · rename_i hcond
      have hone : ¬1 < (s.punch.claim .copy).count := fun hlt => hcond ⟨(claims_iff _).mpr hstate, hlt⟩
      have hnil : s.punch.copyList.erase e = [] := List.length_eq_zero_iff.mp (by omega)
      have hpunch : ((s.onPunch fun b => { b with copyList := b.copyList.erase e }).releaseAll .copy).punch =
          PunchBlock.released { s.punch with copyList := s.punch.copyList.erase e } .copy := by
        rw [releaseAll_eq]
        split
        · rw [abandonMarked_punch]
          rfl
        · rfl
      refine ⟨?_, ?_⟩
      · rw [hpunch]
        exact hc.released hsub (fun hne => absurd rfl hne) fun _ => ⟨hnil, hstate⟩
      · rw [hpunch, show (PunchBlock.released { s.punch with copyList := s.punch.copyList.erase e } .copy).copyList =
          s.punch.copyList.erase e from congrArg Prod.snd (PunchBlock.released_refs _ _).1]
        exact hshort.releaseAll fun _ => hnil
  simp only [State.leaveCopyList]
  split
  · exact hreleased
  · rename_i hcur
    refine hreleased.of_punch (hreleased.sides.unmarkPunch hn ?_ hcur) (markPunch_punch _ e false)
    have hlist : ((s.onPunch fun b => { b with copyList := b.copyList.erase e }).releaseRequest .copy).1.punch.copyList =
        s.punch.copyList.erase e := congrArg Prod.snd (releaseRequest_refs _ _)
    rw [hlist]
    exact fun hmem => (hc.nodup.mem_erase_iff.mp hmem).1 rfl

theorem requestCopy (h : Reads s) (hn : Numbered e) : Reads (s.requestCopy e).1 := by
  simp only [State.requestCopy]
  split
  · exact h
  split
  · exact h
  split
  · exact h
  rename_i hempty howed hfull
  have hu : s.InUse e := by
    rw [inUse_iff]
    exact ⟨hn, fun heq => hempty (by simp [heq])⟩
  have hnot : e ∉ s.punch.copyList := fun hmem => howed (by simp [Output.owed, (h.sides.punch.copies e hmem).2.1])
  have hset : Sides (s.punch.copyList ++ [e])
      (s.setRecord e { s.record e with punch := ⟨.pending, 0, true⟩, punchSource := .copy }) := by
    refine h.sides.setPunch hn ⟨.pending, 0, true⟩ .copy (Nat.zero_le _) (fun x hx => ?_) (fun _ => ⟨hu, rfl, rfl, rfl⟩)
      fun hcur => ⟨rfl, fun hp => ?_⟩
    · simpa using hx
    · exact (Nat.zero_le _).trans_lt ((h.sides.punch.current e hcur).2.2 hp)
  have hnodup : (s.punch.copyList ++ [e]).Nodup := by
    rw [List.nodup_append]
    exact ⟨h.claims.nodup, List.nodup_singleton e, by simpa using fun a ha => fun heq : a = e => hnot (heq ▸ ha)⟩
  have hclaimed := h.claims.claimed (src := .copy) (l := s.punch.copyList ++ [e]) (fun hne => absurd rfl hne)
    fun _ => ⟨hnodup, by simp only [List.length_append, List.length_singleton]; omega, by simp⟩
  have hrefs := claimed_refs { s.punch with copyList := s.punch.copyList ++ [e] } .copy
  rw [claimRequest_fst]
  refine ⟨hclaimed, ?_⟩
  show Sides (PunchBlock.claimed { s.punch with copyList := s.punch.copyList ++ [e] } .copy).copyList _
  rw [show (PunchBlock.claimed { s.punch with copyList := s.punch.copyList ++ [e] } .copy).copyList = s.punch.copyList ++ [e] from
    congrArg Prod.snd hrefs]
  have hlisted := hset.onPunchSame (fun b => { b with copyList := b.copyList ++ [e] }) rfl id
  exact hlisted.onPunchSame (·.claimed .copy) (congrArg Prod.fst hrefs) (PunchBlock.claimed_piece _ _)

/-- The current record finished: DONE, off the copy list, let go (R109). -/
theorem finishPunch (h : Reads s) (hn : Numbered e) (hcur : s.punch.current = some e) (hpiece : s.punch.piece ≠ .cell) :
    Reads (s.finishPunch e) := by
  have hnot : e ∉ s.punch.copyList.erase e := fun hmem => (h.claims.nodup.mem_erase_iff.mp hmem).1 rfl
  have hdone : Sides (s.punch.copyList.erase e)
      (s.setRecord e { s.record e with punch := { (s.record e).punch with status := .done } }) :=
    h.sides.setPunch hn { (s.record e).punch with status := .done } (s.record e).punchSource (h.sides.punch.cursor e hn)
      (fun x hx => .inl (List.mem_of_mem_erase hx)) (fun hmem => absurd hmem hnot)
      fun _ => ⟨(h.sides.punch.current e hcur).2.1, fun hp => absurd hp hpiece⟩
  have hletGo {u : State} (hu : Reads u) (hnl : e ∉ u.punch.copyList) : Reads (u.letGoPunch e) := by
    have hp : (u.letGoPunch e).punch = { u.punch with current := none } := markPunch_punch _ e false
    refine ⟨?_, ?_⟩
    · rw [hp]
      exact hu.claims.of_eq (fun x => by cases x <;> rfl) rfl id
    · rw [hp]
      exact hu.sides.letGoPunch hn hnl
  simp only [State.finishPunch]
  split
  · rename_i hmem
    have hmem' : e ∈ s.punch.copyList := by simpa using hmem
    refine hletGo (leaveCopyList (s := s.setRecord e _) h.claims hmem' hdone hn) ?_
    have hlist : ((s.setRecord e { s.record e with punch := { (s.record e).punch with status := .done } }).leaveCopyList
        e).punch.copyList = s.punch.copyList.erase e := congrArg Prod.snd (leaveCopyList_refs e)
    rw [hlist]
    exact hnot
  · rename_i hmem
    have hmem' : e ∉ s.punch.copyList := by simpa using hmem
    rw [List.erase_of_not_mem hmem'] at hdone
    exact hletGo ⟨h.claims, hdone⟩ hmem'

theorem letGoPunch (h : Reads s) (hn : Numbered e) (hnl : e ∉ s.punch.copyList) : Reads (s.letGoPunch e) := by
  have hp : (s.letGoPunch e).punch = { s.punch with current := none } := markPunch_punch _ e false
  refine ⟨?_, ?_⟩
  · rw [hp]
    exact h.claims.of_eq (fun x => by cases x <;> rfl) rfl id
  · rw [hp]
    exact h.sides.letGoPunch hn hnl

theorem takePunchCell (h : Reads s) (hn : Numbered e) (hcur : s.punch.current = some e)
    (hlt : (s.record e).punch.cursor < (s.record e).length) (hpiece : s.punch.piece = .none) : Reads (s.takePunchCell e) := by
  have hcell (f : PunchBlock → PunchBlock) (hclaim : ∀ x, (f s.punch).claim x = s.punch.claim x)
      (hlist : (f s.punch).copyList = s.punch.copyList) (hcur' : (f s.punch).current = s.punch.current)
      (hp : (f s.punch).piece = .cell) : Reads (s.onPunch f) := by
    refine ⟨h.claims.of_eq hclaim hlist fun htrailer => ?_, ?_⟩
    · rw [onPunch_punch, hp] at htrailer
      cases htrailer
    · rw [onPunch_punch, hlist]
      refine h.sides.onPunch f (fun _ => id) fun x hx => ?_
      rw [hcur', hcur] at hx
      cases hx
      exact ⟨hcur, fun _ => .inr hlt⟩
  simp only [State.takePunchCell]
  split
  · exact hcell _ (fun x => by cases x <;> rfl) rfl rfl rfl
  split
  · have hskip : Reads s.countPunchSkip := h.onPunch _ (fun x => by cases x <;> rfl) rfl rfl id id
    exact hskip.of_punch (hskip.sides.advancePunch hn hlt (by rw [show s.countPunchSkip.punch.piece = s.punch.piece from rfl, hpiece]; decide))
      (advancePunch_punch _ e)
  · exact hcell _ (fun x => by cases x <;> rfl) rfl rfl rfl

theorem choosePunch (h : Reads s) (hu : s.InUse e) (hpiece : s.punch.piece = .none) : Reads (s.choosePunch e) := by
  have hn := numbered_of_inUse hu
  have hmarked : Sides s.punch.copyList
      (s.setRecord e { s.record e with punch := { (s.record e).punch with mark := true } }) :=
    h.sides.setPunch hn { (s.record e).punch with mark := true } (s.record e).punchSource (h.sides.punch.cursor e hn)
      (fun x hx => .inl hx) (fun hx => by
        obtain ⟨hu, hst, hsrc, -⟩ := h.sides.punch.copies e hx
        exact ⟨hu, hst, hsrc, rfl⟩)
      fun hcur => ⟨rfl, fun hp => by rw [hpiece] at hp; cases hp⟩
  have hself := record_setRecord h.sides.dir hn hn { s.record e with punch := { (s.record e).punch with mark := true } }
  rw [if_pos rfl] at hself
  refine ⟨h.claims.of_eq (fun x => by cases x <;> rfl) rfl id, ⟨hmarked.dir, hmarked.arrival,
    ⟨hmarked.punch.copies, hmarked.punch.cursor, fun x hx => ?_⟩, hmarked.send.of_marked rfl
      (fun x hx _ => ⟨hx, rfl, id, le_rfl⟩) hmarked.send.cursor hmarked.send.lag⟩⟩
  cases hx
  refine ⟨?_, ?_, fun hp => ?_⟩
  · show (s.setRecord e _).InUse e
    rw [inUse_iff, hself]
    exact ⟨hn, hu.2.2⟩
  · show ((s.setRecord e _).record e).punch.mark = true
    rw [hself]
  · rw [show (s.choosePunch e).punch.piece = s.punch.piece from rfl, hpiece] at hp
    cases hp

theorem restartRecord (h : Reads s) (hpiece : s.punch.piece ≠ .cell) : Reads s.restartRecord := by
  unfold State.restartRecord
  split
  · exact h
  · rename_i e hcur
    obtain ⟨hu, hm, -⟩ := h.sides.punch.current e hcur
    have hbegun : Reads (s.onPunch fun b => { b with headingDone := false, endDone := false }) :=
      h.onPunch _ (fun x => by cases x <;> rfl) rfl rfl id id
    exact hbegun.of_punch (hbegun.sides.setPunch (numbered_of_inUse hu) { (s.record e).punch with cursor := 0 }
      (s.record e).punchSource (Nat.zero_le _) (fun x hx => .inl hx) (fun hx => ⟨hu, (h.sides.punch.copies e hx).2⟩)
      fun _ => ⟨hm, fun hp => absurd hp hpiece⟩) rfl

/-- The end of a trailer, whose holder was DRAINING (R104). -/
theorem trailerEnd (h : Reads s) (hdrain : ∃ x, (s.punch.claim x).state = .draining) (hpiece : s.punch.piece = .none) :
    Reads s.trailerEnd := by
  unfold State.trailerEnd
  split
  · exact h
  · rename_i src hholder
    obtain ⟨x, hx⟩ := hdrain
    have hsame : x = src := h.claims.holder x src (by simp [Claim.holds, hx]) (PunchBlock.holder_some hholder)
    subst hsame
    have hzero : (s.punch.claim x).count = 0 := (h.claims.count x).2.mpr (.inr hx)
    have hset (y : PunchSource) : (s.punch.setClaim x ⟨.idle, 0⟩).claim y = if y = x then ⟨.idle, 0⟩ else s.punch.claim y :=
      PunchBlock.claim_setClaim _ _ _ _
    have hidle : Reads (s.onPunch fun b => b.setClaim x ⟨.idle, 0⟩) := by
      refine ⟨h.claims.setClaim hset (by simp [Claim.holds]) (by decide) (by simp) (by simpa using h.claims.nodup)
        (by simpa using h.claims.copies) ?_ fun hp => ?_, ?_⟩
      · rw [onPunch_punch, PunchBlock.setClaim_copyList, ← h.claims.copyCount]
        show (PunchBlock.claim _ .copy).count = (s.punch.claim .copy).count
        rw [hset]
        split
        · rename_i heq
          rw [heq, hzero]
        · rfl
      · rw [onPunch_punch, PunchBlock.setClaim_piece, hpiece] at hp
        cases hp
      · rw [onPunch_punch, PunchBlock.setClaim_copyList]
        exact h.sides.onPunchSame _ (congrArg Prod.fst (setClaim_refs s.punch x _)) fun hp => by simpa using hp
    have hfree (y : PunchSource) : ((s.punch.setClaim x ⟨.idle, 0⟩).claim y).holds = false := by
      rw [hset]
      split
      · rfl
      · rename_i hne
        by_contra hh
        exact hne (h.claims.holder y x (by simpa using hh) (by simp [Claim.holds, hx]))
    unfold State.handover
    split
    · exact hidle
    · rename_i y hy
      have hwait : ((s.punch.setClaim x ⟨.idle, 0⟩).claim y).state = .waiting := by
        have := List.find?_some (p := fun y => ((s.punch.setClaim x ⟨.idle, 0⟩).claim y).state == .waiting) hy
        simpa using this
      generalize hv : (s.onPunch fun b => b.setClaim x ⟨.idle, 0⟩) = v at hidle
      have hvp : v.punch = s.punch.setClaim x ⟨.idle, 0⟩ := by rw [← hv]; rfl
      rw [← hvp] at hwait hfree
      have hset' (z : PunchSource) : (v.punch.setClaim y { v.punch.claim y with state := .holding }).claim z =
          if z = y then { v.punch.claim y with state := .holding } else v.punch.claim z := PunchBlock.claim_setClaim _ _ _ _
      have hheld : (v.punch.setClaim y { v.punch.claim y with state := .holding }).Claims := by
        have hc := hidle.claims.count y
        refine hidle.claims.setClaim hset' (fun _ => .inr hfree) hc.1 ?_ (by simpa using hidle.claims.nodup)
          (by simpa using hidle.claims.copies) ?_ fun hp => ?_
        · simpa [hwait] using hc.2
        · rw [PunchBlock.setClaim_copyList, ← hidle.claims.copyCount]
          show (PunchBlock.claim _ .copy).count = (v.punch.claim .copy).count
          rw [hset']
          split
          · rename_i heq
            rw [heq]
          · rfl
        · rw [PunchBlock.setClaim_piece, hvp, PunchBlock.setClaim_piece, hpiece] at hp
          cases hp
      refine ⟨hheld.of_eq (fun z => by cases z <;> rfl) rfl id, ?_⟩
      show Sides (v.punch.setClaim y { v.punch.claim y with state := .holding }).copyList _
      rw [PunchBlock.setClaim_copyList]
      exact hidle.sides.onPunchSame _ (congrArg Prod.fst (setClaim_refs v.punch y _)) fun hp =>
        (PunchBlock.setClaim_piece v.punch y _).symm.trans hp

theorem endPiece (h : Reads s) : Reads s.endPiece := by
  have hnone : Reads (s.onPunch fun b => { b with piece := .none }) :=
    h.onPunch _ (fun x => by cases x <;> rfl) rfl rfl (fun hp => by cases hp) fun hp => by cases hp
  have hnext (f : PunchBlock → PunchBlock) (hclaim : ∀ b x, (f b).claim x = b.claim x) (hlist : ∀ b, (f b).copyList = b.copyList)
      (hcur : ∀ b, (f b).current = b.current) (hp : ∀ b, (f b).piece = b.piece) :
      Reads ((s.onPunch fun b => { b with piece := .none }).onPunch f) :=
    hnone.onPunch f (hclaim _) (hlist _) (hcur _) (fun h' => by rw [hp] at h'; cases h') fun h' => by rw [hp] at h'; cases h'
  simp only [State.endPiece]
  cases hkind : s.punch.piece <;> dsimp only
  case none => exact hnone
  case feed => exact hnone
  case leader => exact hnext _ (fun b x => by cases x <;> rfl) (fun _ => rfl) (fun _ => rfl) fun _ => rfl
  case heading => exact hnext _ (fun b x => by cases x <;> rfl) (fun _ => rfl) (fun _ => rfl) fun _ => rfl
  case endRows => exact hnext _ (fun b x => by cases x <;> rfl) (fun _ => rfl) (fun _ => rfl) fun _ => rfl
  case reelLeader =>
    have hled := hnext (fun b => { b with shift := .unknown, restart := false }) (fun b x => by cases x <;> rfl) (fun _ => rfl)
      (fun _ => rfl) fun _ => rfl
    split
    · exact hled.restartRecord (by simp)
    · exact hled
  case trailer =>
    have hended := hnext (fun b => { b with shift := .unknown }) (fun b x => by cases x <;> rfl) (fun _ => rfl)
      (fun _ => rfl) fun _ => rfl
    exact hended.trailerEnd (by
      obtain ⟨x, hx⟩ := h.claims.trailer hkind
      exact ⟨x, by cases x <;> exact hx⟩) rfl
  case cell =>
    split
    · exact hnone
    · rename_i e hcur
      obtain ⟨hu, -, hlt⟩ := h.sides.punch.current e hcur
      exact hnone.of_punch (hnone.sides.advancePunch (numbered_of_inUse hu) (hlt hkind) (by simp)) (advancePunch_punch _ e)

/-- A piece begun that is neither a trailer nor a cell. -/
theorem beginPiece (h : Reads s) (f : PunchBlock → PunchBlock) (hclaim : ∀ x, (f s.punch).claim x = s.punch.claim x)
    (hlist : (f s.punch).copyList = s.punch.copyList) (hcur : (f s.punch).current = s.punch.current)
    (hpiece : (f s.punch).piece ≠ .trailer ∧ (f s.punch).piece ≠ .cell) : Reads (s.onPunch f) :=
  h.onPunch f hclaim hlist hcur (fun hp => absurd hp hpiece.1) fun hp => absurd hp hpiece.2

theorem goOnPunching (h : Reads s) (hcur : s.punch.current = some e) (hpiece : s.punch.piece = .none)
    (ht : s.goOnPunching e = some t) : Reads t := by
  have hn := numbered_of_inUse (h.sides.punch.current e hcur).1
  have hcodes (p : Piece) (cs : List Code) (hp : p ≠ .trailer ∧ p ≠ .cell) : Reads (s.beginCodes p cs) :=
    h.beginPiece _ (fun x => by cases x <;> rfl) rfl rfl hp
  simp only [State.goOnPunching] at ht
  split at ht
  · rename_i habandoned
    split at ht
    · cases ht
      exact hcodes _ _ (by decide)
    · cases ht
      refine h.letGoPunch hn fun hmem => ?_
      rw [(h.sides.punch.copies e hmem).2.1] at habandoned
      cases habandoned
  split at ht
  · cases ht
    exact hcodes _ _ (by decide)
  split at ht
  · cases ht
    exact h.takePunchCell hn hcur ‹_› hpiece
  split at ht
  · split at ht
    · cases ht
      exact hcodes _ _ (by decide)
    · cases ht
      exact h.finishPunch hn hcur (by rw [hpiece]; decide)
  · cases ht

theorem nextToPunch_inUse (h : Reads s) (hs : s.StoreLaws) (hn : s.nextToPunch src = some e) : s.InUse e := by
  cases src <;> simp only [nextToPunch] at hn
  case copy => exact (h.sides.punch.copies e (List.mem_of_mem_head? hn)).1
  all_goals exact (hs.arrival e).mp (bestEntry_some hn).1

theorem serveHolder (h : Reads s) (hs : s.StoreLaws) (hpiece : s.punch.piece = .none) (ht : s.serveHolder = some t) :
    Reads t := by
  simp only [State.serveHolder] at ht
  split at ht
  · cases ht
  · rename_i src hholder
    split at ht
    · rename_i e hnext
      cases ht
      exact h.choosePunch (h.nextToPunch_inUse hs hnext) hpiece
    · split at ht <;> cases ht
      rename_i hdrain
      refine ⟨⟨h.claims.holder, h.claims.count, h.claims.nodup, h.claims.copies, h.claims.copyCount, fun _ => ⟨src, ?_⟩⟩,
        h.sides.onPunchSame _ rfl fun hp => by cases hp⟩
      cases src <;> exact hdrain

theorem punchBoundary (h : Reads s) (hs : s.StoreLaws) (hpiece : s.punch.piece = .none) (ht : s.punchBoundary = some t) :
    Reads t := by
  simp only [State.punchBoundary] at ht
  split at ht
  · cases ht
    exact (h.beginPiece _ (fun x => by cases x <;> rfl) rfl rfl ⟨nofun, nofun⟩ : Reads (s.beginBlank .feed _)).onPunch _
      (fun x => by cases x <;> rfl) rfl rfl id id
  split at ht
  · cases ht
    exact (h.beginPiece _ (fun x => by cases x <;> rfl) rfl rfl ⟨nofun, nofun⟩ : Reads (s.beginBlank .leader _)).onPunch _
      (fun x => by cases x <;> rfl) rfl rfl id id
  split at ht
  · exact h.goOnPunching ‹_› hpiece ht
  · exact h.serveHolder hs hpiece ht

theorem punchStep (h : Reads s) (hs : s.StoreLaws) (ht : s.punchStep = some t) : Reads t := by
  have hplain (f : PunchBlock → PunchBlock) (hclaim : ∀ x, (f s.punch).claim x = s.punch.claim x)
      (hlist : (f s.punch).copyList = s.punch.copyList) (hcur : (f s.punch).current = s.punch.current)
      (hp : (f s.punch).piece = s.punch.piece) : Reads (s.onPunch f) :=
    h.onPunch f hclaim hlist hcur (fun h' => hp ▸ h') fun h' => hp ▸ h'
  simp only [State.punchStep] at ht
  split at ht
  · cases ht
  split at ht
  · split at ht
    · cases ht
      exact hplain _ (fun x => by cases x <;> rfl) rfl rfl rfl
    · split at ht <;> cases ht
      exact hplain _ (fun x => by cases x <;> rfl) rfl rfl rfl
  split at ht
  · cases ht
    exact hplain _ (fun x => by cases x <;> rfl) rfl rfl rfl
  split at ht
  · cases ht
    simp only [State.takeFraming]
    split
    · exact hplain (fun b => { b with codes := _, skipCount := sat16 b.skipCount }) (fun x => by cases x <;> rfl) rfl rfl rfl
    · exact hplain (fun b => { b with codes := _, rows := _, shiftAfter := _ }) (fun x => by cases x <;> rfl) rfl rfl rfl
  split at ht
  · exact h.punchBoundary hs ‹_› ht
  · cases ht
    exact h.endPiece

theorem newReel (h : Reads s) : Reads s.newReel := by
  unfold State.newReel beginBlank
  dsimp only
  rw [onPunch_onPunch]
  exact h.beginPiece _ (fun x => by cases x <;> rfl) rfl rfl ⟨nofun, nofun⟩

theorem rowDone (h : Reads s) : Reads s.rowDone := by
  simp only [State.rowDone]
  split
  · have hdone : Reads (s.onPunch fun b => { b with inFlight := none, faultTimer := none, tapeSupply := b.tapeSupply - 1 }) :=
      h.onPunch _ (fun x => by cases x <;> rfl) rfl rfl id id
    split
    · exact hdone.newReel
    · exact hdone
  · exact h

theorem resetPunch (h : Reads s) : Reads s.resetPunch := by
  have hclear {u : State} (hp : u.punch.copyList = [] ∧ u.punch.current = none) (hu : Sides [] u) (es : List Nat)
      (hes : ∀ e ∈ es, Numbered e) :
      Sides [] (es.foldl (fun s e => s.updRecord e fun r => { r with punch := { r.punch.giveUp with mark := false } }) u) := by
    induction es generalizing u with
    | nil => exact hu
    | cons a es ih =>
      refine ih (by rwa [updRecord_punch]) ?_ fun e he => hes e (List.mem_cons_of_mem a he)
      refine hu.updPunch (hes a List.mem_cons_self) (fun r => { r.punch.giveUp with mark := false }) (fun _ => id) ?_ (by simp)
        fun hcur => ?_
      · show (u.record a).punch.giveUp.cursor ≤ _
        rw [(Sides.giveUp_mark _).2]
        exact hu.punch.cursor a (hes a List.mem_cons_self)
      · rw [hp.2] at hcur
        cases hcur
  unfold State.resetPunch State.forRecords
  generalize hf : (fun b : PunchBlock => ({ b with
      lineClaim := .start, keyboardClaim := .start, copyClaim := .start, copyList := [], rows := [], codes := [],
      shiftAfter := none, piece := .none, current := none, framed := false, headingDone := false, endDone := false,
      shift := .unknown, failedRow := none, feedRows := 0, leaderOwed := false, restart := false } : PunchBlock)) = f
  have hpunch (es : List Nat) : (es.foldl (fun s e => s.updRecord e fun r => { r with punch := { r.punch.giveUp with mark := false } })
      (s.onPunch f)).punch = f s.punch := foldl_frame _ State.punch _ (fun v e => updRecord_punch v e _) es
  have hfp : (f s.punch).copyList = [] ∧ (f s.punch).current = none := by
    rw [← hf]
    exact ⟨rfl, rfl⟩
  have hstart : Sides [] (s.onPunch f) := h.sides.onPunch f (by simp) fun x hx => by rw [hfp.2] at hx; cases hx
  refine ⟨?_, ?_⟩
  · rw [hpunch, ← hf]
    refine ⟨fun x y hx => ?_, fun x => ?_, List.nodup_nil, Nat.zero_le _, rfl, fun hp => by cases hp⟩
    · cases x <;> cases hx
    · have hstart : (0 : Nat) ≤ 15 ∧ ((0 : Nat) = 0 ↔ ClaimState.idle = .idle ∨ ClaimState.idle = .draining) := by simp
      cases x <;> exact hstart
  · rw [hpunch, hfp.1]
    exact hclear hfp hstart _ h.sides.arrival

end Reads
end State
end Sys2Proof.Machine
end

section
/-! PROOF. The operations of the line transmitter and the deletions keep what the punch and the send items rest on in the records (sections 3.5,
7.4 to 7.8). -/

namespace Sys2Proof.Machine
namespace State

variable {s t : State} {e x : Nat} {l : List Nat} {st : List StackEntry} {top : RecState}

namespace Sides

/-- The transmitter changed: what it then refers to, it did; a cell then in flight is the cell of an item, below its record's length. -/
theorem onTx (h : Sides l s) (f : TxBlock → TxBlock) (hret : ∀ e ∈ (f s.tx).retrieved, e ∈ s.tx.retrieved)
    (hkt : ∀ e ∈ (f s.tx).keyboardText, e ∈ s.tx.keyboardText)
    (hcell : ∀ item e, (f s.tx).cellInFlight = some item → item = .retrievalCell e ∨ item = .keyboardCell e →
      (f s.tx).Sends item e ∧ (s.record e).send.cursor < (s.record e).length) : Sides l (s.onTx f) := by
  refine ⟨h.dir, h.arrival, h.punch.of_marked rfl (fun x hx _ => ⟨hx, rfl, rfl, le_rfl⟩) h.punch.cursor,
    ⟨h.send.cursor, fun e he => ?_, fun e he => h.send.keyboardText e (hkt e he), hcell, h.send.lag⟩⟩
  obtain ⟨hu, hm, hne⟩ := h.send.retrieved e (hret e he)
  exact ⟨hu, hm, fun hk => hne (hkt e hk)⟩

/-- The transmitter changed in none of its references, and no cell brought in flight. -/
theorem onTxSame (h : Sides l s) (f : TxBlock → TxBlock) (hf : s.tx.SameRefs (f s.tx)) : Sides l (s.onTx f) := by
  obtain ⟨hk, hr, hc⟩ := hf
  refine h.onTx f (fun _ he => hr ▸ he) (fun _ he => hk ▸ he) fun item e hi hitem => ?_
  have hold : s.tx.cellInFlight = some item := by
    obtain hc | hc := hc
    · rw [hc] at hi
      cases hi
    · exact hc ▸ hi
  obtain ⟨hs, hlt⟩ := h.send.cell item e hold hitem
  refine ⟨?_, hlt⟩
  unfold TxBlock.Sends at hs ⊢
  rwa [hk, hr]

/-- The send output of an entry replaced, and the entry examined. -/
theorem updSend (h : Sides l s) (he : Numbered e) (o : Record → Output) (hc : (o (s.record e)).cursor ≤ (s.record e).length)
    (hret : s.tx.retrieved = some e → (o (s.record e)).mark = true)
    (hkt : s.tx.keyboardText = some e → (o (s.record e)).mark = true ∧
      ((o (s.record e)).status = .pending ∨ (s.record e).deletePending = true))
    (hcell : ∀ item, s.tx.cellInFlight = some item → item = .retrievalCell e ∨ item = .keyboardCell e →
      (o (s.record e)).cursor < (s.record e).length)
    (hlag : (s.record e).state = .composing → (o (s.record e)).status = .pending →
      (s.record e).length ≤ (o (s.record e)).cursor + 64) :
    Sides l (s.updRecord e fun r => { r with send := o r }) := (h.setSend he (o (s.record e)) hc hret hkt hcell hlag).examine he

/-- The cursor of a record with a cell left moves on (R138, R139). -/
theorem advanceSend (h : Sides l s) (he : Numbered e) (hlt : (s.record e).send.cursor < (s.record e).length)
    (hfree : s.tx.cellInFlight = none) : Sides l (s.advanceSend e) := by
  refine h.updSend he (fun r => { r.send with cursor := r.send.cursor + 1 }) hlt (fun hr => (h.send.retrieved e hr).2.1)
    (fun hk => (h.send.keyboardText e hk).2) (fun item hi => ?_) fun hcomp hpend => ?_
  · rw [hfree] at hi
    cases hi
  · have := h.send.lag e he hcomp hpend
    simp only
    omega

theorem giveUp_pending {o : Output} : o.giveUp.status ≠ .pending := by
  unfold Output.giveUp
  split
  · nofun
  · rename_i howed
    exact fun hp => howed (by simp [Output.owed, hp])

/-- A record let go that no item refers to and no cell in flight is of (R141). -/
theorem letGoSend (h : Sides l s) (he : Numbered e) (g : Bool) (hret : s.tx.retrieved ≠ some e) (hkt : s.tx.keyboardText ≠ some e)
    (hcell : s.tx.cellInFlight = none) : Sides l (s.letGoSend e g) := by
  have hcursor : (if g then (s.record e).send.giveUp else (s.record e).send).cursor = (s.record e).send.cursor := by
    split
    · exact (giveUp_mark _).2
    · rfl
  refine h.updSend he (fun r => { (if g then r.send.giveUp else r.send) with mark := false }) ?_ (fun hr => absurd hr hret)
    (fun hk => absurd hk hkt) (fun item hi => ?_) fun hcomp hpend => ?_
  · exact hcursor ▸ h.send.cursor e he
  · rw [hcell] at hi
    cases hi
  · show (s.record e).length ≤ (if g then (s.record e).send.giveUp else (s.record e).send).cursor + 64
    rw [hcursor]
    refine h.send.lag e he hcomp ?_
    dsimp only at hpend
    split at hpend
    · exact absurd hpend giveUp_pending
    · exact hpend

/-- The items discarded (R141 to R143). -/
theorem dropItems (h : Sides l s) : Sides l s.dropItems := by
  have hitems : Sides l (s.onTx fun b =>
      { b with
        inFlight := b.inFlight.map TxFlight.orphaned
        answerback := .none
        reply := none
        retrieval := none
        keyboardText := none }) := by
    refine h.onTx _ nofun nofun fun item e hi => ?_
    have hnone : ({ s.tx with
        inFlight := s.tx.inFlight.map TxFlight.orphaned
        answerback := .none
        reply := none
        retrieval := none
        keyboardText := none } : TxBlock).cellInFlight = none := by
      cases hfly : s.tx.inFlight with
      | none => simp [TxBlock.cellInFlight]
      | some x => cases x <;> simp [TxBlock.cellInFlight, TxFlight.orphaned]
    rw [hnone] at hi
    cases hi
  have hgo (es : List Nat) (u : State) (hes : ∀ e ∈ es, Numbered e) (hu : Sides l u)
      (htx : u.tx.retrieved = none ∧ u.tx.keyboardText = none ∧ u.tx.cellInFlight = none) :
      Sides l (es.foldl (fun s e => s.letGoSend e true) u) := by
    induction es generalizing u with
    | nil => exact hu
    | cons a es ih =>
      refine ih _ (fun e he => hes e (List.mem_cons_of_mem a he)) (hu.letGoSend (hes a List.mem_cons_self) true ?_ ?_ htx.2.2) ?_
      · rw [htx.1]
        nofun
      · rw [htx.2.1]
        nofun
      · rwa [show (u.letGoSend a true).tx = u.tx from updRecord_tx u a _]
  have htx := Whole.dropItems_tx s
  refine hgo _ _ (fun e he => ?_) hitems ?_
  · rcases List.mem_append.mp he with he | he
    · exact numbered_of_inUse (h.send.retrieved e (Option.mem_toList.mp he)).1
    · exact numbered_of_inUse (h.send.keyboardText e (Option.mem_toList.mp he)).1
  · have hfold (u : State) (l : List Nat) : (l.foldl (fun s e => s.letGoSend e true) u).tx = u.tx :=
      foldl_frame u State.tx _ (fun v e => updRecord_tx v e _) l
    rw [State.dropItems, hfold] at htx
    exact htx

/-- Sends given up where no keyboard text is in progress (R141, R143). -/
theorem abandonSends (h : Sides l s) (ok : Record → Bool) (hkt : s.tx.keyboardText = none) : Sides l (s.abandonSends ok) := by
  have hgo (es : List Nat) (u : State) (hes : ∀ e ∈ es, Numbered e) (hu : Sides l u) (htx : u.tx.keyboardText = none) :
      Sides l (es.foldl (fun s e => if ok (s.record e) && (s.record e).send.owed then
        s.updRecord e fun r => { r with send := r.send.giveUp } else s) u) := by
    induction es generalizing u with
    | nil => exact hu
    | cons a es ih =>
      have ha := hes a List.mem_cons_self
      rw [List.foldl_cons]
      split
      · refine ih _ (fun e he => hes e (List.mem_cons_of_mem a he)) (hu.updSend ha (fun r => r.send.giveUp) ?_ (fun hr => ?_)
          (fun hk => ?_) (fun item hi hitem => ?_) fun _ hpend => absurd hpend giveUp_pending) (by rwa [updRecord_tx])
        · rw [(giveUp_mark _).2]
          exact hu.send.cursor a ha
        · rw [(giveUp_mark _).1]
          exact (hu.send.retrieved a hr).2.1
        · rw [htx] at hk
          cases hk
        · rw [(giveUp_mark _).2]
          exact (hu.send.cell item a hi hitem).2
      · exact ih _ (fun e he => hes e (List.mem_cons_of_mem a he)) hu htx
  exact hgo _ s h.arrival h hkt

theorem discardSends (h : Sides l s) : Sides l s.discardSends := h.dropItems.abandonSends _ (Whole.dropItems_tx s).2.1

theorem resetTx (h : Sides l s) : Sides l s.resetTx := by
  have htx := Whole.dropItems_tx s
  exact (h.dropItems.onTxSame (fun b => { b with breakPending := false }) ⟨rfl, rfl, .inr rfl⟩).abandonSends _ htx.2.1

theorem requestRetrieval (h : Sides l s) (he : Numbered e) : Sides l (s.requestRetrieval e).1 := by
  simp only [State.requestRetrieval]
  split
  · exact h
  split
  · exact h
  split
  · exact h
  rename_i hnone hempty howed
  have hfresh : s.tx.retrieval = none := by simpa using hnone
  obtain ⟨hne, hdel⟩ : (s.record e).state ≠ .empty ∧ (s.record e).deletePending = false := by simpa using hempty
  obtain ⟨hclosed, hsend⟩ : (s.record e).state.isOpen = false ∧ (s.record e).send.owed = false := by simpa using howed
  have hkt : s.tx.keyboardText ≠ some e := by
    intro hk
    obtain ⟨-, -, hp | hp⟩ := h.send.keyboardText e hk
    · simp [Output.owed, hp] at hsend
    · rw [hdel] at hp
      cases hp
  have hret : s.tx.retrieved = none := by simp [TxBlock.retrieved, hfresh]
  have hunsent {item : TxItem} (hi : s.tx.cellInFlight = some item) (hitem : item = .retrievalCell e ∨ item = .keyboardCell e) :
      False := by
    obtain ⟨-, hr⟩ | ⟨-, hk⟩ := (h.send.cell item e hi hitem).1
    · rw [hret] at hr
      cases hr
    · exact hkt hk
  have hset : Sides l (s.setRecord e { s.record e with send := ⟨.pending, 0, true⟩ }) := by
    refine h.setSend he ⟨.pending, 0, true⟩ (Nat.zero_le _) (fun _ => rfl) (fun _ => ⟨rfl, .inl rfl⟩)
      (fun item hi hitem => (hunsent hi hitem).elim) fun hcomp => ?_
    simp [hcomp, RecState.isOpen] at hclosed
  dsimp only
  refine ⟨hset.dir, hset.arrival, hset.punch.of_marked rfl (fun x hx _ => ⟨hx, rfl, rfl, le_rfl⟩) hset.punch.cursor,
    ⟨hset.send.cursor, fun x hx => ?_, hset.send.keyboardText, fun item x hi hitem => ?_, hset.send.lag⟩⟩
  · cases hx
    have hself := record_setRecord h.dir he he { s.record e with send := ⟨.pending, 0, true⟩ }
    rw [if_pos rfl] at hself
    refine ⟨?_, ?_, hkt⟩
    · show (s.setRecord e _).InUse e
      rw [inUse_iff, hself]
      exact ⟨he, hne⟩
    · show ((s.setRecord e _).record e).send.mark = true
      rw [hself]
  · obtain ⟨hs, hlt⟩ := hset.send.cell item x hi hitem
    refine ⟨?_, hlt⟩
    obtain ⟨-, hr⟩ | ⟨heq, hk⟩ := hs
    · rw [show (s.setRecord e { s.record e with send := ⟨.pending, 0, true⟩ }).tx = s.tx from rfl, hret] at hr
      cases hr
    · exact .inr ⟨heq, hk⟩

/-- The retrieval item ends or goes on without its record, which no other item has. -/
theorem dropRetrieved (h : Sides l s) (hfree : s.tx.inFlight = none) (r : Option Retrieval) (hr : r.bind (·.entry) = none) :
    Sides l (s.onTx fun b => { b with retrieval := r }) :=
  h.onTx _ (fun e he => by rw [show TxBlock.retrieved { s.tx with retrieval := r } = r.bind (·.entry) from rfl, hr] at he; cases he)
    (fun _ => id) fun item e hi => by
      rw [show TxBlock.cellInFlight { s.tx with retrieval := r } = s.tx.cellInFlight from rfl, TxBlock.cellInFlight, hfree] at hi
      cases hi

theorem endRetrieval {r : Retrieval} (h : Sides l s) (hr : s.tx.retrieval = some r) (hfree : s.tx.inFlight = none) :
    Sides l (s.endRetrieval r) := by
  have hended := h.dropRetrieved hfree none rfl
  have hcell : s.tx.cellInFlight = none := by simp [TxBlock.cellInFlight, hfree]
  simp only [State.endRetrieval]
  split
  · exact hended
  · rename_i e he
    obtain ⟨hu, -, hkt⟩ := h.send.retrieved e (by simp [TxBlock.retrieved, hr, he])
    have hn := numbered_of_inUse hu
    refine hended.updSend hn (fun r => { status := if r.send.owed then .done else r.send.status, cursor := r.send.cursor, mark := false })
      (hended.send.cursor e hn) nofun (fun hk => absurd hk hkt) (fun item hi => ?_) fun _ hpend => ?_
    · rw [show (s.onTx fun b => { b with retrieval := none }).tx.cellInFlight = s.tx.cellInFlight from rfl, hcell] at hi
      cases hi
    · dsimp only at hpend
      split at hpend
      · cases hpend
      · rename_i howed
        simp [Output.owed, hpend] at howed

theorem abandonRetrieval {r : Retrieval} (h : Sides l s) (hr : s.tx.retrieval = some r) (he : r.entry = some e)
    (hfree : s.tx.inFlight = none) : Sides l (s.abandonRetrieval r e) := by
  obtain ⟨hu, -, hkt⟩ := h.send.retrieved e (by simp [TxBlock.retrieved, hr, he])
  have hcell : s.tx.cellInFlight = none := by simp [TxBlock.cellInFlight, hfree]
  have hdropped (r' : Retrieval) (hr' : r'.entry = none) : Sides l ((s.setRetrieval r').letGoSend e false) := by
    have hu' : Sides l (s.setRetrieval r') := h.dropRetrieved hfree (some r') hr'
    refine hu'.letGoSend (numbered_of_inUse hu) false ?_ hkt hcell
    rw [show (s.setRetrieval r').tx.retrieved = r'.entry from rfl, hr']
    nofun
  simp only [State.abandonRetrieval]
  exact hdropped _ (by split <;> rfl)

theorem dropKeyboardText (h : Sides l s) (hk : s.tx.keyboardText = some e) (hfree : s.tx.inFlight = none) :
    Sides l (s.dropKeyboardText e) := by
  have hcell : s.tx.cellInFlight = none := by simp [TxBlock.cellInFlight, hfree]
  have hdropped : Sides l (s.onTx fun b => { b with keyboardText := none }) :=
    h.onTx _ (fun _ => id) nofun fun item e hi => by
      rw [show TxBlock.cellInFlight { s.tx with keyboardText := none } = s.tx.cellInFlight from rfl, hcell] at hi
      cases hi
  exact hdropped.letGoSend (numbered_of_inUse (h.send.keyboardText e hk).1) false
    (fun hr => (h.send.retrieved e hr).2.2 hk) nofun hcell

theorem takeKeyboardText (h : Sides l s) (hs : s.StoreLaws) (hnone : s.tx.keyboardText = none) (hnext : s.nextKeyboardText = some e)
    (hfree : s.tx.inFlight = none) : Sides l (s.takeKeyboardText e) := by
  have hcell : s.tx.cellInFlight = none := by simp [TxBlock.cellInFlight, hfree]
  have hu := (hs.arrival e).mp (List.mem_of_find?_eq_some hnext)
  have hn := numbered_of_inUse hu
  obtain ⟨⟨-, howed⟩, hmark⟩ : ((s.record e).origin = .keyboard ∧ (s.record e).send.owed = true) ∧
      (s.record e).send.mark = false := by simpa using List.find?_some hnext
  have hpend : (s.record e).send.status = .pending := by simpa [Output.owed] using howed
  have hret : s.tx.retrieved ≠ some e := fun hr => by
    rw [(h.send.retrieved e hr).2.1] at hmark
    cases hmark
  have hmarked : Sides l (s.updRecord e fun r => { r with send := { r.send with mark := true } }) := by
    refine h.updSend hn (fun r => { r.send with mark := true }) (h.send.cursor e hn) (fun _ => rfl) (fun hk => ?_)
      (fun item hi => ?_) (h.send.lag e hn)
    · rw [hnone] at hk
      cases hk
    · rw [hcell] at hi
      cases hi
  have hself := record_updRecord h.dir hn hn fun r => { r with send := { r.send with mark := true } }
  rw [if_pos rfl] at hself
  have hexamined : (Record.examined { s.record e with send := { (s.record e).send with mark := true } }) =
      Record.printDone { s.record e with send := { (s.record e).send with mark := true } } := by
    rw [Record.examined_eq, if_neg]
    intro hdisp
    have hmark' := (Record.disposable_iff _).mp hdisp
    simp at hmark'
  rw [hexamined] at hself
  have htx : (s.takeKeyboardText e).tx = { s.tx with keyboardText := some e } :=
    congrArg (fun b : TxBlock => { b with keyboardText := some e }) (updRecord_tx s e _)
  refine ⟨hmarked.dir, hmarked.arrival, hmarked.punch.of_marked rfl (fun x hx _ => ⟨hx, rfl, rfl, le_rfl⟩) hmarked.punch.cursor,
    ⟨hmarked.send.cursor, fun x hx => ?_, fun x hx => ?_, fun item x hi => ?_, hmarked.send.lag⟩⟩
  · rw [htx] at hx ⊢
    obtain ⟨hux, hmx, -⟩ := hmarked.send.retrieved x (by rwa [updRecord_tx])
    refine ⟨hux, hmx, fun hk => hret ?_⟩
    cases hk
    exact hx
  · rw [htx] at hx
    cases hx
    have hrec : (s.takeKeyboardText e).record e = _ := hself
    refine ⟨?_, ?_, ?_⟩
    · rw [inUse_iff, hrec]
      exact ⟨hn, by simpa using hu.2.2⟩
    · rw [hrec]
      simp
    · rw [hrec]
      simp [hpend]
  · rw [htx, show TxBlock.cellInFlight { s.tx with keyboardText := some e } = s.tx.cellInFlight from rfl, hcell] at hi
    cases hi

theorem settleItems (h : Sides l s) (hs : s.StoreLaws) (hfree : s.tx.inFlight = none) (ht : s.settleItems = some t) : Sides l t := by
  obtain ⟨r, e, hr, he, -, rfl⟩ | ⟨r, hr, -, rfl⟩ | ⟨e, he, -, rfl⟩ | ⟨e, hnone, he, rfl⟩ := settleItems_cases ht
  · exact h.abandonRetrieval hr he hfree
  · exact h.endRetrieval hr hfree
  · exact h.dropKeyboardText he hfree
  · exact h.takeKeyboardText hs hnone he hfree

theorem sendCell (h : Sides l s) {item : TxItem} (hitem : s.tx.Sends item e) (hfree : s.tx.inFlight = none)
    (hleft : s.allSent e = false) : Sides l (s.sendCell item e) := by
  have hlt : (s.record e).send.cursor < (s.record e).length := by simpa [State.allSent] using hleft
  have hcell : s.tx.cellInFlight = none := by simp [TxBlock.cellInFlight, hfree]
  have hn : Numbered e := by
    obtain ⟨-, h'⟩ | ⟨-, h'⟩ := hitem
    · exact numbered_of_inUse (h.send.retrieved e h').1
    · exact numbered_of_inUse (h.send.keyboardText e h').1
  have hkind : item = .retrievalCell e ∨ item = .keyboardCell e := hitem.imp (·.1) (·.1)
  obtain ⟨r, rest, sh, heq⟩ | heq := sendCell_cases (s := s) hkind <;> rw [heq]
  · refine h.onTx _ (fun _ => id) (fun _ => id) fun item' x hi hitem' => ?_
    have hsame : item' = item := by
      obtain rfl | rfl := hkind <;> exact (Option.some.inj hi).symm
    subst hsame
    have hx : x = e := by
      obtain rfl | rfl := hkind <;> obtain h' | h' := hitem' <;> cases h' <;> rfl
    subst hx
    exact ⟨hitem, hlt⟩
  · exact (h.onTxSame (fun b => { b with skipCount := sat16 b.skipCount }) ⟨rfl, rfl, .inr rfl⟩ : Sides l s.countSendSkip).advanceSend
      hn hlt hcell

theorem endKeyboardText (h : Sides l s) (hk : s.tx.keyboardText = some e) (hsent : s.keyboardTextSent e = true) :
    Sides l (s.endKeyboardText e) := by
  obtain ⟨⟨-, -⟩, hall⟩ : ((s.record e).send.owed = true ∧ (s.record e).state.isClosed = true) ∧ s.allSent e = true := by
    simpa [State.keyboardTextSent] using hsent
  have hle : (s.record e).length ≤ (s.record e).send.cursor := by simpa [State.allSent] using hall
  have hn := numbered_of_inUse (h.send.keyboardText e hk).1
  have hended : Sides l (s.onTx fun b => { b with keyboardText := none }) := by
    refine h.onTx _ (fun _ => id) nofun fun item x hi hitem => ?_
    obtain ⟨hs, hlt⟩ := h.send.cell item x hi hitem
    obtain hs | ⟨-, hx⟩ := hs
    · exact ⟨.inl hs, hlt⟩
    · rw [hk] at hx
      cases hx
      omega
  refine hended.updSend hn (fun r => { status := .done, cursor := r.send.cursor, mark := false }) (hended.send.cursor e hn)
    (fun hr => absurd hk (h.send.retrieved e hr).2.2) nofun (fun item hi hitem => ?_) nofun
  have := (hended.send.cell item e hi hitem).2
  exact this

/-! ### Deletions -/

theorem setRecord_setRecord (s : State) (e : Nat) (r r' : Record) : (s.setRecord e r).setRecord e r' = s.setRecord e r' := by
  simp [State.setRecord, State.onStore, List.set_set]

/-- The deletion of a closed record recorded (R58). -/
theorem setDeleted (h : Sides s.punch.copyList s) (hnodup : s.punch.copyList.Nodup) (he : Numbered e)
    (hclosed : (s.record e).state.isClosed = true) :
    Sides (s.punch.copyList.erase e) (s.setRecord e (s.record e).deleted) := by
  have hstate : (s.record e).state ≠ .empty ∧ (s.record e).state ≠ .composing := by
    cases hst : (s.record e).state <;> simp [hst, RecState.isClosed] at hclosed <;> simp
  have hself {r : Record} : (s.setRecord e r).record e = r := (record_setRecord h.dir he he r).trans (if_pos rfl)
  have hmarked : Sides s.punch.copyList
      (s.setRecord e { s.record e with deletePending := true, retained := false, print := (s.record e).print.giveUp }) :=
    h.setSame he rfl rfl rfl rfl id (fun _ => rfl) id
  have hpunch : Sides (s.punch.copyList.erase e) (s.setRecord e { s.record e with
      deletePending := true, retained := false, print := (s.record e).print.giveUp, punch := (s.record e).punch.giveUp }) := by
    have hset := hmarked.setPunch (l' := s.punch.copyList.erase e) he (s.record e).punch.giveUp (s.record e).punchSource
    rw [hself, setRecord_setRecord] at hset
    refine hset ?_ (fun x hx => .inl (List.mem_of_mem_erase hx)) (fun hx => absurd rfl (hnodup.mem_erase_iff.mp hx).1) fun hcur => ?_
    · rw [(giveUp_mark _).2]
      exact h.punch.cursor e he
    · rw [(giveUp_mark _).1, (giveUp_mark _).2]
      exact (h.punch.current e hcur).2
  have hsend := hpunch.setSend he (s.record e).send.giveUp
  rw [hself, setRecord_setRecord] at hsend
  refine hsend ?_ (fun hr => ?_) (fun hk => ?_) (fun item hi hitem => ?_) fun hcomp => absurd hcomp hstate.2
  · rw [(giveUp_mark _).2]
    exact h.send.cursor e he
  · rw [(giveUp_mark _).1]
    exact (h.send.retrieved e hr).2.1
  · rw [(giveUp_mark _).1]
    exact ⟨(h.send.keyboardText e hk).2.1, .inr rfl⟩
  · rw [(giveUp_mark _).2]
    exact (h.send.cell item e hi hitem).2

end Sides

/-! ### The claims and the records together -/

namespace Reads

theorem deleteRecord (h : Reads s) (he : Numbered e) : Reads (s.deleteRecord e) := by
  simp only [State.deleteRecord]
  split
  · rename_i hcond
    obtain ⟨hclosed, -⟩ : (s.record e).state.isClosed = true ∧ (s.record e).deletePending = false := by simpa using hcond
    have hset := (h.sides.setDeleted h.claims.nodup he hclosed).dropBeneath he
    have hpunch : ((s.setRecord e (s.record e).deleted).dropBeneath e).punch = s.punch :=
      of_offPrint State.punch (fun _ => rfl) (dropBeneath_offPrint _ e)
    generalize (s.setRecord e (s.record e).deleted).dropBeneath e = u at hset hpunch ⊢
    rw [← hpunch] at hset
    have hc : u.punch.Claims := hpunch ▸ h.claims
    have hexamined {v : State} (hv : Reads v) : Reads (v.examine e) := hv.of_punch (hv.sides.examine he) (examine_punch v e)
    split
    · rename_i hmem
      exact hexamined (leaveCopyList hc (by simpa using hmem) hset he)
    · rename_i hmem
      rw [List.erase_of_not_mem (by simpa using hmem)] at hset
      exact hexamined ⟨hc, hset⟩
  · exact h

theorem requestDelete (h : Reads s) (he : Numbered e) : Reads (s.requestDelete e).1 := by
  simp only [State.requestDelete]
  split
  · exact h
  split
  · exact h
  · exact h.deleteRecord he

/-- The store changed, the punch not. -/
theorem of_offStore (h : Reads s) (hs : Sides s.punch.copyList t) (ht : t.offStore = s.offStore) : Reads t :=
  h.of_punch hs (State.of_offStore State.punch (fun _ => rfl) ht)

theorem of_offPrint (h : Reads s) (hs : Sides s.punch.copyList t) (ht : t.offPrint = s.offPrint) : Reads t :=
  h.of_punch hs (State.of_offPrint State.punch (fun _ => rfl) ht)

theorem of_offTx (h : Reads s) (hs : Sides s.punch.copyList t) (ht : t.offTx = s.offTx) : Reads t :=
  h.of_punch hs (State.of_offTx State.punch (fun _ => rfl) ht)

/-- The store, the punch and the transmitter the same. -/
theorem of_same (h : Reads s) (hstore : t.store = s.store) (hp : t.punch = s.punch) (htx : t.tx = s.tx) : Reads t :=
  h.of_punch (h.sides.of_eq (by rw [hstore]) (by rw [hstore]) hp htx) hp

theorem closeComposing (h : Reads s) : Reads s.closeComposing :=
  h.of_punch h.sides.closeComposing ((of_unrecorded State.punch (fun _ => rfl) (closeComposing_unrecorded s)).trans rfl)

theorem foldl {α : Type} (h : Reads s) (es : List α) {P : α → Prop} (hes : ∀ a ∈ es, P a) (f : State → α → State)
    (hf : ∀ u a, P a → Reads u → Reads (f u a)) : Reads (es.foldl f s) := by
  induction es generalizing s with
  | nil => exact h
  | cons a es ih => exact ih (hf s a (hes a List.mem_cons_self) h) fun b hb => hes b (List.mem_cons_of_mem a hb)

/-- Every record deleted, those of the stack closed first (R61). -/
theorem erase (h : Reads s) (hk : Kept s.store.openStack top s) : Reads s.erase := by
  have hnum := Sides.stack_numbered hk.stack
  have hclosed : Reads (s.store.openStack.foldl State.closeEntry s) :=
    h.foldl _ hnum _ fun u a ha hu => hu.of_offStore (hu.sides.closeEntry ha) (offStore_of_unrecorded (closeEntry_unrecorded u a))
  unfold State.erase forRecords
  dsimp only
  generalize s.store.openStack.foldl State.closeEntry s = u at hclosed
  have hv : Reads (u.setStack (u.store.openStack.map fun t => { t with entry := none })).closeComposing :=
    (show Reads (u.setStack (u.store.openStack.map fun t => { t with entry := none })) from
      hclosed.of_punch (hclosed.sides.setStack _) rfl).closeComposing
  exact hv.foldl _ hv.sides.arrival _ fun w e he hw => hw.deleteRecord he

end Reads
end State
end Sys2Proof.Machine
end

section
/-! PROOF. Every move keeps the claim table, the copy list and what the punch and the send items rest on: the statement about the claims and
the readers (sections 3.2, 3.4, 5.3, 5.4, 6.4, 7.6, 7.7). -/

namespace Sys2Proof.Machine
namespace State

variable {s t : State} {e : Nat}

namespace Reads

theorem onRx (h : Reads s) (f : RxBlock → RxBlock) : Reads (s.onRx f) := h.of_same rfl rfl rfl
theorem onKb (h : Reads s) (f : KbBlock → KbBlock) : Reads (s.onKb f) := h.of_same rfl rfl rfl
theorem onConn (h : Reads s) (f : ConnBlock → ConnBlock) : Reads (s.onConn f) := h.of_same rfl rfl rfl
theorem onDir (h : Reads s) (f : DirBlock → DirBlock) : Reads (s.onDir f) := h.of_same rfl rfl rfl
theorem onAccess (h : Reads s) (f : AccessBlock → AccessBlock) : Reads (s.onAccess f) := h.of_same rfl rfl rfl
theorem onProfile (h : Reads s) (f : ProfileBlock → ProfileBlock) : Reads (s.onProfile f) := h.of_same rfl rfl rfl

theorem onTx (h : Reads s) (f : TxBlock → TxBlock) (hf : s.tx.SameRefs (f s.tx)) : Reads (s.onTx f) :=
  h.of_punch (h.sides.onTxSame f hf) rfl

theorem linePrint (h : Reads s) (on : Bool) : Reads (s.onStore fun b => { b with linePrint := on }) :=
  h.of_punch (h.sides.onStore _ rfl rfl) rfl

theorem teardown (h : Reads s) (hk : Kept s.store.openStack .receiving s) : Reads s.teardown :=
  h.of_offStore (h.sides.cutFrom 0 (Sides.stack_numbered hk.stack)) (teardown_offStore s)

theorem resetPrint (h : Reads s) (hk : Kept s.store.openStack .receiving s) : Reads s.resetPrint :=
  h.of_offPrint (h.sides.resetPrint hk) (resetPrint_offPrint s)

theorem resetTx (h : Reads s) : Reads s.resetTx := h.of_offTx h.sides.resetTx (resetTx_offTx s)

theorem discardSends (h : Reads s) : Reads s.discardSends := h.of_offTx h.sides.discardSends (discardSends_offTx s)

theorem noticeTraffic (h : Reads s) : Reads s.noticeTraffic := by
  unfold State.noticeTraffic
  split
  · exact h.onConn _
  · exact h

theorem changeWorking (h : Reads s) (p : Profile) : Reads (s.changeWorking p) := by
  have hnotice (u : State) (q : Prop) [Decidable q] (hu : Reads u) : Reads (if q then u.noticeTraffic else u) := by
    split
    · exact hu.noticeTraffic
    · exact hu
  have hfit (u : State) (q : Prop) [Decidable q] (hu : Reads u) :
      Reads (if q then u.onPrint (PrintBlock.fitForm p) else u) := by
    split
    · exact hu.of_same rfl rfl rfl
    · exact hu
  exact hnotice _ _ (hfit _ _ (h.of_same rfl rfl rfl))

theorem reload (h : Reads s) : Reads s.reload := (h.onProfile _).changeWorking _

theorem stationResetEffect (h : Reads s) (hw : Whole s) : Reads s.stationResetEffect := by
  have hwhole := ((((((hw.abortLineAsm.abortLocalAsm).setQueue []).onKb
    fun b => { b with entryFlag := false }).closeComposing).resetTx).resetPunch)
  have hblocks := ((((((h.onDir fun d => { d with lineAsm := .start }).onDir fun d => { d with localAsm := .start }).onDir
    fun d => { d with queue := [] }).onKb fun b => { b with entryFlag := false }).closeComposing).resetTx).resetPunch
  have hprint := hblocks.resetPrint hwhole.kept
  have htorn := (hprint.onConn fun c => { c with selected := false }).teardown (hwhole.resetPrint.onConn _).kept
  exact ((htorn.linePrint true).onAccess fun a => { a with lineOpen := .closed, localOpen := .closed }).reload

theorem leaveConnected (h : Reads s) (hw : Whole s) (target : ConnState) : Reads (s.leaveConnected target) := by
  have hwlost := ((((hw.onConn fun c =>
    { c with state := target, selected := false, sustainedSpace := none, lineIdle := none }).onRx fun b =>
    { b with state := .watching, transitions := [], samples := [] }).abortLineAsm.setQueue []).onAccess fun a =>
    { a with lineOpen := .closed })
  have hwclosed := ((hwlost.discardSends.onTx (fun b => { b with breakPending := false }) ⟨rfl, rfl, .inr rfl⟩).closeComposing)
  have hlost := ((((h.onConn fun c =>
    { c with state := target, selected := false, sustainedSpace := none, lineIdle := none }).onRx fun b =>
    { b with state := .watching, transitions := [], samples := [] }).onDir fun d => { d with lineAsm := .start }).onDir fun d =>
    { d with queue := [] }).onAccess fun a => { a with lineOpen := .closed }
  have hclosed := ((hlost.discardSends.onTx (fun b => { b with breakPending := false }) ⟨rfl, rfl, .inr rfl⟩).closeComposing)
  have hleft := (hclosed.teardown hwclosed.kept).releaseAll (src := .line) (by decide)
  unfold State.leaveConnected
  dsimp only
  split
  · exact hleft.stationResetEffect (hwclosed.teardown.releaseAll .line)
  · exact hleft

theorem enterClearing (h : Reads s) (hw : Whole s) : Reads s.enterClearing := by
  unfold State.enterClearing
  dsimp only
  split
  · exact (h.leaveConnected hw .clearing).onConn _
  · exact h.onConn _

theorem answerbackRequest (h : Reads s) : Reads s.answerbackRequest := by
  unfold State.answerbackRequest
  split
  · split
    · exact h.onTx _ ⟨rfl, rfl, .inr rfl⟩
    · exact h
  · exact h.onTx _ ⟨rfl, rfl, .inr rfl⟩
  · exact h.onTx _ ⟨rfl, rfl, .inr rfl⟩

theorem enterConnected (h : Reads s) : Reads s.enterConnected := by
  have hif (u : State) (b : Bool) (hu : Reads u) : Reads (if b then u.answerbackRequest else u) := by
    split
    · exact hu.answerbackRequest
    · exact hu
  unfold State.enterConnected
  dsimp only
  exact ((hif _ _ (h.onConn _).noticeTraffic).onRx _).onTx _ ⟨rfl, rfl, .inr rfl⟩

theorem deselect (h : Reads s) (hw : Whole s) : Reads s.deselect := by
  unfold State.deselect
  split
  · exact (h.onConn _).teardown (hw.onConn _).kept
  · exact h

/-- The last character of a cell has been sent (R138, R139). -/
theorem cellSent (h : Reads s) {x : Row} {after : ShiftState} {item : TxItem}
    (hfly : s.tx.inFlight = some (.character x [] after item)) (hitem : item = .retrievalCell e ∨ item = .keyboardCell e) :
    Reads (((s.onTx fun b => { b with inFlight := none, shift := after }).noticeTraffic).advanceSend e) := by
  obtain ⟨hs, hlt⟩ := h.sides.send.cell item e ((cellInFlight_iff hitem).mpr ⟨x, [], after, hfly⟩) hitem
  have hn : Numbered e := by
    obtain ⟨-, h'⟩ | ⟨-, h'⟩ := hs
    · exact numbered_of_inUse (h.sides.send.retrieved e h').1
    · exact numbered_of_inUse (h.sides.send.keyboardText e h').1
  have hdone := (h.onTx (fun b => { b with inFlight := none, shift := after }) ⟨rfl, rfl, .inl rfl⟩).noticeTraffic
  have htx : (s.onTx fun b => { b with inFlight := none, shift := after }).noticeTraffic.tx =
      { s.tx with inFlight := none, shift := after } := by
    unfold State.noticeTraffic
    split <;> rfl
  have hstore : (s.onTx fun b => { b with inFlight := none, shift := after }).noticeTraffic.store = s.store := by
    unfold State.noticeTraffic
    split <;> rfl
  refine hdone.of_punch (hdone.sides.advanceSend hn ?_ ?_) (updRecord_punch _ e _)
  · simp only [record, hstore]
    exact hlt
  · rw [htx]
    rfl

end Reads

/-- A start-up's claims are all IDLE, and nothing is read. -/
theorem start_reads (hstore : s.store = .start) (hpunch : s.punch.copyList = [] ∧ s.punch.current = none ∧ s.punch.piece = .none ∧
    ∀ x, s.punch.claim x = .start) (htx : s.tx = .start) : s.Reads := by
  obtain ⟨hlist, hcur, hpiece, hclaim⟩ := hpunch
  have hr := start_record hstore
  refine ⟨⟨fun x y hx => ?_, fun x => ?_, ?_, ?_, ?_, fun hp => ?_⟩,
    ⟨?_, fun e he => ?_, ⟨fun e he => ?_, fun e _ => ?_, fun e he => ?_⟩,
      ⟨fun e _ => ?_, fun e he => ?_, fun e he => ?_, fun item e hi => ?_, fun e _ hc => ?_⟩⟩⟩
  · rw [hclaim] at hx
    cases hx
  · rw [hclaim]
    decide
  · simp [hlist]
  · simp [hlist]
  · rw [hlist]
    exact congrArg Claim.count (hclaim .copy)
  · rw [hpiece] at hp
    cases hp
  · simp [hstore, StoreBlock.start]
  · simp [hstore, StoreBlock.start] at he
  · rw [hlist] at he
    cases he
  · rw [hr]
    simp [Record.empty, Output.none]
  · rw [hcur] at he
    cases he
  · rw [hr]
    simp [Record.empty, Output.none]
  · rw [htx] at he
    cases he
  · rw [htx] at he
    cases he
  · rw [htx] at hi
    cases hi
  · rw [hr] at hc
    cases hc

end State

open State in
theorem Inner.reads {s t : State} (h : Inner s t) (hw : Whole s) (hs : Reads s) : Reads t := by
  have hk := hw.kept
  have hplain (f : PunchBlock → PunchBlock) (hclaim : ∀ b x, (f b).claim x = b.claim x) (hlist : ∀ b, (f b).copyList = b.copyList)
      (hcur : ∀ b, (f b).current = b.current) (hp : ∀ b, (f b).piece = b.piece) : Reads (s.onPunch f) :=
    hs.onPunch f (hclaim _) (hlist _) (hcur _) (fun h' => (hp _).symm.trans h') fun h' => (hp _).symm.trans h'
  cases h
  case lineText x => exact hs.of_offStore (hs.sides.lineText hk x) (lineText_offStore s x)
  case heading p n _ => exact hs.of_offStore (hs.sides.heading hk p n) (heading_offStore s p n)
  case endMessage => exact hs.of_offStore (hs.sides.endMessage hk) (endMessage_offStore s)
  case offerKey x hlag h => exact hs.of_offStore (hs.sides.offerKey hlag h) (offerKey_offStore h)
  case notice text => exact hs.of_offStore (hs.sides.notice text) (notice_offStore s text)
  case printSwitch on => exact hs.linePrint on
  case requestDelete e he => exact hs.requestDelete he
  case requestCopy e he => exact hs.requestCopy he
  case requestRetrieval e he => exact hs.of_offTx (hs.sides.requestRetrieval he) (requestRetrieval_offTx s e)
  case printStep h => exact hs.of_offPrint (hs.sides.printStep hk h) (printStep_offPrint h)
  case operationFault =>
    unfold State.operationFault
    split
    · exact hs
    · exact hs.of_same rfl rfl rfl
  case clearPrintFault =>
    unfold State.clearPrintFault
    split
    · exact hs.of_same rfl rfl rfl
    · exact hs
  case claimRequest src hsrc => exact hs.claimRequest hsrc
  case releaseRequest src hsrc => exact hs.releaseRequest hsrc
  case tapeKey => exact hs.tapeKey
  case feedRequest h =>
    simp only [State.feedRequest] at h
    split at h <;> cases h
    exact hplain _ (fun b x => by cases x <;> rfl) (fun _ => rfl) (fun _ => rfl) fun _ => rfl
  case newTapeRequest h =>
    simp only [State.newTapeRequest] at h
    split at h
    · cases h
    · split at h <;> cases h
      · exact hplain _ (fun b x => by cases x <;> rfl) (fun _ => rfl) (fun _ => rfl) fun _ => rfl
      · exact hs.newReel
  case punchStep h => exact hs.punchStep hk.store h
  case rowDone => exact hs.rowDone
  case rowFault =>
    unfold State.rowFault
    split
    · exact hs
    · exact hplain _ (fun b x => by cases x <;> rfl) (fun _ => rfl) (fun _ => rfl) fun _ => rfl
  case clearPunchFault =>
    unfold State.clearPunchFault
    split
    · exact hplain _ (fun b x => by cases x <;> rfl) (fun _ => rfl) (fun _ => rfl) fun _ => rfl
    · exact hs
  case tx f hf => exact hs.onTx f hf
  case sendCell item e hitem hfree hleft =>
    exact hs.of_offTx (hs.sides.sendCell hitem hfree hleft) (sendCell_offTx s (hitem.imp (·.1) (·.1)))
  case endRetrieval r hr hfree => exact hs.of_offTx (hs.sides.endRetrieval hr hfree) (endRetrieval_offTx s r)
  case settleItems hfree h => exact hs.of_offTx (hs.sides.settleItems hk.store hfree h) (settleItems_offTx h)
  case endKeyboardText e h hsent => exact hs.of_offTx (hs.sides.endKeyboardText h hsent) (endKeyboardText_offTx s e)
  case discardSends => exact hs.discardSends

open State in
theorem Move.reads {c : Instr} {s t : State} (h : Move c s t) (hw : Whole s) (hs : Reads s) : Reads t := by
  cases h
  case inner h => exact h.reads hw hs
  case falseStart =>
    unfold State.falseStartEvent
    split
    · exact (hs.onRx _).onRx _
    · exact hs
  case sampleElement =>
    unfold State.sampleElement
    split
    · exact hs.onRx _
    · exact hs
  case adoptRate h =>
    unfold State.adoptRate at h
    split at h <;> cases h
    exact hs.onRx _
  case noticeTraffic => exact hs.noticeTraffic
  case adoptLineType h =>
    unfold State.adoptLineType at h
    split at h <;> cases h
    exact hs.onConn _
  case enterClearing => exact hs.enterClearing hw
  case enterLost => exact (hs.leaveConnected hw .lost).onConn _
  case enterConnected => exact hs.enterConnected
  case answerRequest =>
    unfold State.answerRequest
    split
    · exact hs.onConn _
    · exact hs
  case seizeRequest =>
    unfold State.seizeRequest
    split
    · exact hs.onConn _
    · exact hs
  case callChange p =>
    have h (u : State) (b : Bool) (hu : Reads u) : Reads (if b then u.enterAnswering else u) := by
      split
      · exact hu.onConn _
      · exact hu
    exact h _ _ (hs.onConn _)
  case stationReset => exact hs.stationResetEffect hw
  case deselect => exact hs.deselect hw
  case unattend =>
    have h : Reads (s.setAttended false).closeComposing := (show Reads (s.setAttended false) from hs.onConn _).closeComposing
    exact h.of_same rfl rfl rfl
  case setParameter => exact hs.changeWorking _
  case closeComposing => exact hs.closeComposing
  case erase => exact hs.erase hw.kept
  case cellSent x after item e h hitem => exact hs.cellSent h hitem
  case operationDone =>
    have hsame : s.operationDone.store = s.store ∧ s.operationDone.punch = s.punch ∧ s.operationDone.tx = s.tx := by
      unfold State.operationDone
      split <;> exact ⟨rfl, rfl, rfl⟩
    exact hs.of_same hsame.1 hsame.2.1 hsame.2.2
  case closeSource src => cases src <;> exact hs.onAccess _
  case openOperator src _ => cases src <;> exact hs.onAccess _
  case rightNumber src w _ _ => cases src <;> exact hs.of_same rfl rfl rfl
  all_goals exact hs.of_same rfl rfl rfl

open State in
/-- The claims and the readers, as statements of the store's soundness with those of the claims and the records read. -/
theorem State.allSound_iff {s : State} :
    s.StoreAndPrinterSound ∧ s.ClaimsSound ∧ s.ReadersSound ↔ s.ProfilesWellFormed ∧ s.StackRises ∧ s.Whole ∧ s.Reads := by
  rw [claimsSound_iff, storeAndPrinterSound_iff]
  constructor
  · rintro ⟨⟨hprof, hrise, hwhole⟩, hclaims, hpunch, hsend⟩
    exact ⟨hprof, hrise, hwhole, hclaims, hwhole.kept.store.dir, hwhole.kept.arrival_numbered, hpunch, hsend⟩
  · rintro ⟨hprof, hrise, hwhole, hclaims, -, -, hpunch, hsend⟩
    exact ⟨⟨hprof, hrise, hwhole⟩, hclaims, hpunch, hsend⟩

/-- Settles O60: each move keeps the claim table and what the punch and the send items rest on. -/
theorem stepsKeepTheClaimsAndTheReadersSound : Obligations.StepsKeepTheClaimsAndTheReadersSound := by
  refine Robust.keptByStep (P := fun s => s.StoreAndPrinterSound ∧ s.ClaimsSound ∧ s.ReadersSound)
    { pending := fun _ _ => id
      startUp := fun s hs => ?_
      losePower := fun s hs => ?_
      lineCond := fun _ _ => id
      callInput := fun _ _ => id
      paper := fun _ _ _ => id
      move := fun c s t h hs => ?_ }
  · rw [State.allSound_iff] at hs ⊢
    have hcut := s.cutCommit_profilesWellFormed hs.1
    exact ⟨⟨Image.loaded_wf hcut.2.1, hcut.2.1, fun _ h => by cases h⟩, Rises.nil, State.start_whole rfl rfl rfl rfl,
      State.start_reads rfl ⟨rfl, rfl, rfl, fun x => by cases x <;> rfl⟩ rfl⟩
  · rw [State.allSound_iff] at hs ⊢
    obtain ⟨hprof, hrise, hwhole, hreads⟩ := hs
    have hsame : s.losePower.store = s.store ∧ s.losePower.print = s.print ∧ s.losePower.punch = s.punch ∧
        s.losePower.tx = s.tx := by
      unfold State.losePower State.cutCommit
      split <;> exact ⟨rfl, rfl, rfl, rfl⟩
    obtain ⟨hstore, hprint, hpunch, htx⟩ := hsame
    refine ⟨s.cutCommit_profilesWellFormed hprof, ?_, hwhole.of_same hstore (by rw [hprint]) (by rw [hprint]) (by rw [hpunch]) htx,
      hreads.of_same hstore hpunch htx⟩
    unfold State.StackRises
    rwa [hstore]
  · rw [State.allSound_iff] at hs ⊢
    obtain ⟨hprof, hrise, hwhole, hreads⟩ := hs
    exact ⟨h.profilesWellFormed hprof, h.stackRises hrise, h.whole hwhole hprof, h.reads hwhole hreads⟩

end Sys2Proof.Machine
end

section
/-! PROOF. A start-up: the initial values of every block, and that the state after the reset has what every step keeps (sections 0.7 and
2.14 to 11.6). -/

namespace Sys2Proof.Machine

/-- The working copy and the image of the reset are the factory defaults. -/
theorem State.reset_profilesWellFormed : State.reset.ProfilesWellFormed :=
  ⟨Image.loaded_wf Profile.factory_wf, Profile.factory_wf, fun _ h => by cases h⟩

/-- Settles O15: each property holds of a start-up. -/
theorem resetHasWhatStepsKeep : Obligations.ResetHasWhatStepsKeep := by
  have hsound := State.allSound_iff.mpr ⟨State.reset_profilesWellFormed, Rises.nil, State.start_whole rfl rfl rfl rfl,
    State.start_reads rfl ⟨rfl, rfl, rfl, fun x => by cases x <;> rfl⟩ rfl⟩
  have hcarriage : State.reset.CarriageOnForm :=
    (State.carriageOnForm_iff _).mpr ⟨⟨Nat.le_refl 1, Nat.le_add_left 1 _⟩, Nat.le_refl 1, fun h => h, fun _ => rfl⟩
  exact ⟨Memory.wf_nil, Rises.nil, ⟨Nat.zero_le 5, (by decide : false = true ↔ 0 = 5)⟩, State.reset_profilesWellFormed,
    (State.receiverBounded_iff _).mpr (RxBlock.start_bounded _), hcarriage, (State.connectionCoherent_iff _).mpr (State.coherent_start _ _ _),
    hsound⟩

/-- A commit cut short changes only the profile block and the count of the spoilt images. -/
theorem State.cutCommit_same (s : State) : s.cutCommit.conn = s.conn ∧ s.cutCommit.print = s.print ∧ s.cutCommit.pending = s.pending ∧
    (s.profile.commit = none → s.cutCommit.profile.image = s.profile.image) := by
  unfold State.cutCommit
  split
  · rename_i h
    refine ⟨rfl, rfl, rfl, fun hnone => ?_⟩
    simp [hnone] at h
  · exact ⟨rfl, rfl, rfl, fun _ => rfl⟩

/-- Settles O5: a start-up's blocks are those of the reset tables by definition; the image decides the working copy. -/
theorem startUpGivesInitialValues : Obligations.StartUpGivesInitialValues := by
  intro c s hc
  have hexec : exec c s = .next s.startUp := by
    obtain rfl | ⟨rfl, hpow⟩ := hc
    · exact exec_powerOn s
    · rw [exec_hardReset, if_pos hpow]
  obtain ⟨hconn, hprint, hpending, himage⟩ := s.cutCommit_same
  have hloaded (i : Image) : (i.passes = true → i.loaded = i.parts) ∧ (i.passes = false → i.loaded = .factory) := by
    constructor <;> intro h <;> simp [Image.loaded, h]
  obtain ⟨hgood, hbad⟩ := hloaded s.startUp.profile.image
  refine ⟨s.startUp, hexec, rfl, hpending, himage, fun h => ⟨hgood h, ?_⟩, fun h => ⟨hbad h, ?_⟩, ?_⟩
  · show (!s.startUp.profile.image.passes) = false
    rw [h]
    rfl
  · show (!s.startUp.profile.image.passes) = true
    rw [h]
    rfl
  have hout : s.startUp.print.paperOut = s.print.paperOut := by rw [← hprint]; rfl
  have hlow : s.startUp.print.paperLow = s.print.paperLow := by rw [← hprint]; rfl
  have hcond : s.startUp.conn.lineCond = s.conn.lineCond := by rw [← hconn]; rfl
  have hcall : s.startUp.conn.callInput = s.conn.callInput := by rw [← hconn]; rfl
  have hrx : s.startUp.rx = .start s.startUp.working := rfl
  have hstore : s.startUp.store = .start := rfl
  have hpunch : s.startUp.punch = .start s.startUp.working := rfl
  have hprint' : ∃ o l, s.startUp.print = .start o l := ⟨_, _, rfl⟩
  have hkb : ∃ n, s.startUp.kb = .start n := ⟨_, rfl⟩
  have hconn' : s.startUp.conn = .start s.startUp.working s.startUp.conn.lineCond s.startUp.conn.callInput := rfl
  have hrest : s.startUp.profile.commit = none ∧ s.startUp.tx = .start ∧ s.startUp.dir = .start ∧ s.startUp.access = .start ∧
      s.startUp.motor = .start := ⟨rfl, rfl, rfl, rfl, rfl⟩
  generalize s.startUp = t at hrx hstore hpunch hprint' hkb hconn' hrest hout hlow hcond hcall ⊢
  obtain ⟨hcommit, htx, hdir, haccess, hmotor⟩ := hrest
  obtain ⟨n, hkb⟩ := hkb
  obtain ⟨o, l, hprint'⟩ := hprint'
  have hshift : t.shiftLevel = 0 := by
    rw [State.shiftLevel, hkb, KbBlock.start, List.any_replicate]
    rfl
  have hlag : t.sendLagLock = false := by simp [State.sendLagLock, State.composing, hstore, StoreBlock.start]
  have hunattended : t.unattendedLock = true := by rw [State.unattendedLock, hconn']; rfl
  have hbreak : t.breakLock = false := by rw [State.breakLock, hkb]; rfl
  rw [hout, hlow, hcond, hcall, hshift, hlag, hunattended, hbreak, hrx, hstore, hpunch, hprint', hkb, htx, hdir, haccess, hmotor, hcommit]
  rw [hcond, hcall] at hconn'
  generalize hc : t.conn = c at hconn' ⊢
  subst hconn'
  simp only [RxBlock.start, StoreBlock.start, PunchBlock.start, KbBlock.start, ConnBlock.start, MotorBlock.start, and_self, true_and]
  exact ⟨rfl, rfl, rfl, rfl, rfl, rfl, rfl, rfl, rfl, rfl, rfl, rfl, rfl, rfl, rfl, rfl, rfl, trivial⟩

end Sys2Proof.Machine
end

section
/-! PROOF. The line receiver: the sample point and the bias estimate, what starts, shapes and ends a character, and where it is delivered
(sections 2.3 to 2.8, 7.4). -/

namespace Sys2Proof.Machine

/-! ### Arithmetic -/

theorem roundAway_natCast (n d : Nat) (hd : 0 < d) : roundAway n d = (((2 * n + d) / (2 * d) : Nat) : Int) := by
  rcases Nat.eq_zero_or_pos n with rfl | hn
  · rw [show (2 * 0 + d) / (2 * d) = 0 from Nat.div_eq_of_lt (by omega)]
    exact Int.zero_mul _
  · rw [roundAway, Int.sign_eq_one_of_pos (by omega), Int.natAbs_natCast, one_mul]

theorem roundAway_neg (x : Int) (d : Nat) : roundAway (-x) d = -roundAway x d := by
  rw [roundAway, roundAway, Int.sign_neg, Int.natAbs_neg, neg_mul]

/-- Settles O16: by the rounding of a natural number and of its negative. -/
theorem samplePointAndBiasEstimate : Obligations.SamplePointAndBiasEstimate := by
  have hbias {be e : Int} (n : Nat) : applyBias be e = clampInt (-512) 511 (be + roundAway (16 * e - be) 8) := rfl
  refine ⟨fun _ => rfl, fun n => ?_, fun n => ?_, fun be e => ?_, fun be e h => ?_, fun be e h => ?_⟩
  · rw [samplePoint, if_pos rfl, roundAway_natCast n 32 (by decide), clampInt]
    omega
  · rw [samplePoint, if_pos rfl, roundAway_neg, roundAway_natCast n 32 (by decide), clampInt]
    omega
  · rw [applyBias, clampInt]
    omega
  · obtain ⟨n, hn⟩ := Int.eq_ofNat_of_zero_le h
    rw [applyBias, hn, roundAway_natCast n 8 (by decide), clampInt]
    omega
  · obtain ⟨n, hn⟩ := Int.eq_ofNat_of_zero_le (show 0 ≤ be - 16 * e by omega)
    rw [applyBias, show 16 * e - be = -(n : Int) by omega, roundAway_neg, roundAway_natCast n 8 (by decide), clampInt]
    omega

namespace State

variable {s : State}

theorem isConnected_iff : s.isConnected = true ↔ s.conn.state = .connected := beq_iff_eq

/-- The stable mark timer does not run in CONNECTED (R146). -/
theorem timesMark_of_connected {c : ConnBlock} (h : c.state = .connected) : timesMark c = false := by
  unfold timesMark
  rw [h]
  cases c.lineType <;> rfl

/-- In CONNECTED a change of the line condition starts and stops the sustained space timer (R150). -/
theorem conditionChange_connected (h : s.conn.state = .connected) (c : LineCond) : s.conditionChange c = s.heard c := by
  unfold conditionChange onConn
  dsimp only
  rw [timesMark_of_connected h, if_neg Bool.false_ne_true, if_pos h]
  rfl

/-- A change of the line condition at a tick that can be the next. -/
theorem lineChange_eq {c : LineCond} {t : Nat} (hc : c ≠ s.conn.lineCond) (ht : s.rx.admits s.conn.lineCond t = true) :
    s.lineChange c t = (s.conditionChange c).receiverChange c t := if_pos ⟨hc, ht⟩

/-! What the receiver makes of a change, in its state (R20, R22, R27, R28). -/

theorem receiverChange_watching {c : LineCond} {t : Nat} (h : s.rx.state = .watching) : s.receiverChange c t = s := by
  simp only [receiverChange, h]

theorem receiverChange_hunting {t : Nat} (h : s.rx.state = .hunting) : s.receiverChange .space t = s.startCharacter := by
  simp only [receiverChange, h]

theorem receiverChange_sampling {c : LineCond} {t : Nat} (h : s.rx.state = .sampling) : s.receiverChange c t = s.measured c t := by
  simp only [receiverChange, h]

theorem receiverChange_candidate {t : Nat} (h : s.rx.state = .candidate) :
    s.receiverChange .mark t = s.receiveMutilated s.rx.peak := by
  simp only [receiverChange, h]

theorem receiverChange_spacing {t : Nat} (h : s.rx.state = .spacing) : s.receiverChange .mark t = s.hunt := by
  simp only [receiverChange, h]

/-- A mutilated character is counted, and the default substitute delivered in its place (R26, R27). -/
theorem receiveMutilated_eq (p : Nat) :
    s.receiveMutilated p =
      ((s.received .mutilated p s.rx.be).noticeTraffic).deliver s.working.defaultSubstitute .mutilated := by
  have h : s.receiveMutilated p = ((s.received .mutilated p s.rx.be).noticeTraffic).deliver
    (s.received .mutilated p s.rx.be).noticeTraffic.working.defaultSubstitute .mutilated := rfl
  rw [h, noticeTraffic_working]
  rfl

end State

open State

/-- Settles O17. -/
theorem transitionsStartAndShapeCharacters : Obligations.TransitionsStartAndShapeCharacters := by
  constructor
  · intro s t hpow hconn hmark hstate
    have h := (EventOf.lineConditionChange .space t).does hpow
    rw [lineChange_eq (by simp [hmark]) (by simp [RxBlock.admits, hstate]), conditionChange_connected hconn,
      receiverChange_hunting (s := s.heard .space) hstate] at h
    exact h
  · intro s c t hpow hconn hstate hc htick hle d
    refine ⟨by omega, ?_⟩
    have h := (EventOf.lineConditionChange c t).does hpow
    rw [lineChange_eq hc (by simp [RxBlock.admits, hstate, htick, hle]), conditionChange_connected hconn,
      receiverChange_sampling (s := s.heard c) hstate] at h
    have hmeasure : measure t (c == .space) = ⟨(t + 32) / 64, d, c == .space, if c = .space then d else -d⟩ := by
      cases c <;> rfl
    rw [← hmeasure]
    cases c <;> exact h

/-- Settles O18. -/
theorem falseStartsAndDataElements : Obligations.FalseStartsAndDataElements := by
  refine ⟨fun s hpow hstate hnone htick hmark => ?_, fun s hpow hstate hlt hdue => ?_, fun e1 e2 e3 e4 e5 => ?_⟩
  · have h := EventOf.falseStart.does hpow
    have hdue : s.rx.falseStartDue s.conn.lineCond = true := by simp [RxBlock.falseStartDue, hnone, htick, hmark]
    rw [falseStartEvent, if_pos ⟨hstate, hdue⟩] at h
    have hcount : s.rx.stats.countFalseStart =
        if s.rx.stats.characters = 65535 then s.rx.stats else { s.rx.stats with falseStarts := sat16 s.rx.stats.falseStarts } := by
      simp [LineStats.countFalseStart, LineStats.full]
    rw [← hcount]
    exact h
  · have h := EventOf.dataElementSample.does hpow
    rw [sampleElement, if_pos ⟨hstate, hlt, hdue⟩] at h
    exact h
  · have hbit (e : LineCond) : (if e = .mark then 1 else 0) ≤ 1 := by split <;> decide
    have h1 := hbit e1
    have h2 := hbit e2
    have h3 := hbit e3
    have h4 := hbit e4
    have h5 := hbit e5
    have hscale (e : LineCond) (n : Nat) : (if e = .mark then n else 0) = n * if e = .mark then 1 else 0 := by split <;> simp
    simp only [lineCode, List.foldr, BitVec.toNat_ofNat, hscale _ 2, hscale _ 4, hscale _ 8, hscale _ 16]
    omega

/-! ### The stop sample -/

theorem peakDistortion_append (ts : List Transition) (t : Transition) :
    peakDistortion (ts ++ [t]) = max (peakDistortion ts) t.displacement.natAbs := by
  rw [peakDistortion, List.foldl_append]
  rfl

/-- The peak distortion is the greatest displacement, 0 without a transition (R22). -/
theorem peakDistortion_greatest (ts : List Transition) : (∀ t ∈ ts, t.displacement.natAbs ≤ peakDistortion ts) ∧
    (ts = [] → peakDistortion ts = 0) ∧ (ts ≠ [] → ∃ t ∈ ts, t.displacement.natAbs = peakDistortion ts) := by
  induction ts using List.reverseRecOn with
  | nil => exact ⟨by simp, fun _ => rfl, fun h => absurd rfl h⟩
  | append_singleton ts t ih =>
    obtain ⟨hle, hnil, hsome⟩ := ih
    rw [peakDistortion_append]
    refine ⟨fun u hu => ?_, fun h => absurd h (by simp), fun _ => ?_⟩
    · obtain hu | hu := List.mem_append.mp hu
      · exact (hle u hu).trans (le_max_left _ _)
      · rw [List.mem_singleton.mp hu]
        exact le_max_right _ _
    · rcases le_total (peakDistortion ts) t.displacement.natAbs with h | h
      · exact ⟨t, by simp, (max_eq_right h).symm⟩
      · rw [max_eq_left h]
        by_cases hts : ts = []
        · rw [hnil hts] at h ⊢
          exact ⟨t, by simp, Nat.le_zero.mp h⟩
        · obtain ⟨u, hu, heq⟩ := hsome hts
          exact ⟨u, by simp [hu], heq⟩

/-- Settles O19. -/
theorem stopSampleClassifies : Obligations.StopSampleClassifies := by
  refine ⟨fun s hpow hstate hlen => ?_, peakDistortion_greatest, fun be ts t => ⟨rfl, ?_⟩⟩
  · intro p be
    have h := EventOf.stopSample.does hpow
    rw [stopEvent, if_pos ⟨hstate, hlen⟩] at h
    have hclass (q : Quality) (hmark : s.conn.lineCond = .mark) (hq : classOf p s.working.doubtfulMargin = q) :
        Does .stopSample s (((s.received q p be).noticeTraffic).decode (lineCode s.rx.samples) q) := by
      rw [← hq]
      rwa [classify, if_pos (show (s.onRx _).conn.lineCond = .mark from hmark)] at h
    refine ⟨fun hmark hle => hclass .good hmark (if_pos hle), fun hmark hlt => hclass .doubtful hmark (if_neg (by omega)),
      fun hspace hmem => ?_, fun hspace hmem => ?_⟩
    · have hall : ¬(s.rx.samples.all (· == .space) = true) := fun hall => by
        have := List.all_eq_true.mp hall _ hmem
        cases this
      rw [classify, if_neg (by simp [hspace]), if_neg hall, receiveMutilated_eq] at h
      exact h
    · have hall : s.rx.samples.all (· == .space) = true := by
        rw [List.all_eq_true]
        intro x hx
        cases x
        · exact absurd hx hmem
        · rfl
      rw [classify, if_neg (by simp [hspace]), if_pos hall] at h
      exact h
  · rw [updateBias, List.foldl_append]
    rfl

/-! ### Delivery -/

/-- A delivered WRU is an answerback request (R31). -/
theorem State.deliver_wru {s : State} {q : Quality} (hq : q ≠ .mutilated) : s.deliver 0o005#7 q = s.answerbackRequest := if_pos ⟨rfl, hq⟩

/-- A delivered character other than WRU (R32, R33). -/
theorem State.deliver_eq {s : State} {c : Code} {q : Quality} (h : c ≠ 0o005#7 ∨ q = .mutilated) :
    s.deliver c q =
      if (c = 0o033#7 ∧ q ≠ .mutilated) ∨ s.dir.lineAsm.state ≠ .idle then s.handLine c q
      else if s.conn.selected then s.offerText c q else s :=
  if_neg fun ⟨hc, hq⟩ => h.elim (absurd hc) hq

/-- Settles O20. -/
theorem decodeAndDelivery : Obligations.DecodeAndDelivery := by
  refine ⟨fun s c q => ⟨fun h => ?_, fun h => ?_, fun h => ?_, fun x h => ?_⟩, fun s c q hwru => ⟨fun hc hq => ?_, fun hasm => ?_,
    fun hlead hidle hsel => ?_, fun hlead hidle hsel => ?_⟩⟩
  · simp only [decode, h]
    rfl
  · simp only [decode, h]
    rfl
  · simp only [decode, h]
  · simp only [decode, h]
    rfl
  · rw [State.deliver_eq hwru, if_pos (.inl ⟨hc, hq⟩), handLine, if_pos ⟨hc, hq⟩]
    exact ⟨rfl, rfl⟩
  · rw [State.deliver_eq hwru, if_pos (.inr hasm)]
  all_goals
    have hnot : ¬((c = 0o033#7 ∧ q ≠ .mutilated) ∨ s.dir.lineAsm.state ≠ .idle) := by
      rintro (⟨hc, hq⟩ | hasm)
      · exact hlead.elim (absurd hc) hq
      · exact hasm hidle
    rw [State.deliver_eq hwru, if_neg hnot]
  · exact if_pos hsel
  · rw [if_neg (by simp [hsel])]

/-- Settles O21. -/
theorem wruGoesToTheTransmitter : Obligations.WruGoesToTheTransmitter := by
  intro s q hq
  rw [State.deliver_wru hq]
  refine ⟨?_, ?_, fun hnone hconn => ?_, fun hnone hconn => ?_, fun hsome => ?_⟩
  · unfold answerbackRequest
    split
    · split <;> rfl
    · rfl
    · rfl
  · unfold answerbackRequest
    split
    · split <;> rfl
    · rfl
    · rfl
  · simp only [answerbackRequest, hnone, isConnected_iff.mpr hconn, if_true]
    rfl
  · simp only [answerbackRequest, hnone]
    exact if_neg fun h => hconn (isConnected_iff.mp h)
  · unfold answerbackRequest
    split
    · exact absurd ‹_› hsome
    · rfl
    · rfl

end Sys2Proof.Machine
end

section
/-! PROOF. The connection: the adoptions, the stable mark timer, the CALL input, and the entry to CONNECTED (sections 2.1, 8.1 to 8.5). -/

namespace Sys2Proof.Machine
namespace State

variable {s : State}

theorem atExpiry_of_some {timer : Option Nat} {f : State → State} (h : timer.isSome = true) : s.atExpiry timer f = f s := if_pos h

/-- An entry to CLEARING from a state other than CONNECTED (R153). -/
theorem enterClearing_of_not_connected (h : s.conn.state ≠ .connected) : s.enterClearing = { s with conn := s.conn.cleared } := by
  have hnot : ¬(s.isConnected = true) := fun hc => h (isConnected_iff.mp hc)
  simp only [enterClearing, if_neg hnot]
  rfl

theorem conditionChange_timed (h : timesMark s.conn = true) (c : LineCond) :
    s.conditionChange c = { s with conn := { s.conn with lineCond := c, stableMark := if c = .mark then some 1000 else none } } := by
  unfold conditionChange onConn
  dsimp only
  rw [if_pos h]
  rfl

theorem adoptLineType_eq (hstate : s.conn.state = .idle ∨ s.conn.state = .lost) (hwanted : s.wantedType ≠ s.conn.lineType) :
    s.adoptLineType = some (s.onConn fun c =>
      { c with
        state := .idle
        lineType := s.wantedType
        callAnswerable := false
        stableMark := if s.wantedType = .permanent then markTimer c else none }) := if_pos ⟨hstate, hwanted⟩

/-- The answerback request made on the entry to CONNECTED, by its parameter (R149, R136). -/
theorem answerbackRequest_connected (h : s.conn.state = .connected) :
    s.answerbackRequest = s.onTx fun b =>
      { b with
        answerback := if b.answerback = .none then .pending else b.answerback
        suppressionCount := if b.answerback ≠ .none then sat16 b.suppressionCount else b.suppressionCount } := by
  unfold answerbackRequest onTx
  cases hb : s.tx.answerback <;> simp [isConnected_iff.mpr h, hb]

/-- In CONNECTED a notice of traffic restarts the line idle timer of a switched line (R151). -/
theorem noticeTraffic_connected (h : s.conn.state = .connected) :
    s.noticeTraffic = s.onConn fun c =>
      { c with lineIdle := if c.lineType = .switched then secondsTimer s.working.lineIdleS else c.lineIdle } := by
  unfold noticeTraffic
  by_cases ht : s.conn.lineType = .switched
  · simp [idleTimed, isConnected, h, ht, onConn, idleTimer]
  · rw [if_neg (by simp [idleTimed, ht])]
    simp [ht, onConn]

/-- The entry to CONNECTED (R149), by the answerback's parameter. -/
theorem enterConnected_eq (s : State) :
    s.enterConnected =
      { s with
        conn :=
          { s.conn with
            state := .connected, stableMark := none, answerTimer := none, callTimer := none, sustainedSpace := none
            callAnswerable := false, selected := s.conn.selected || s.working.selectOnConnect
            lineIdle := if s.conn.lineType = .switched then secondsTimer s.working.lineIdleS else s.conn.lineIdle }
        rx := { s.rx with state := .hunting, plane := .letters }
        tx :=
          { s.tx with
            shift := .unknown
            answerback := if s.working.answerbackOnConnect = true ∧ s.tx.answerback = .none then .pending else s.tx.answerback
            suppressionCount :=
              if s.working.answerbackOnConnect = true ∧ s.tx.answerback ≠ .none then sat16 s.tx.suppressionCount
              else s.tx.suppressionCount } } := by
  simp only [enterConnected]
  rw [noticeTraffic_connected rfl]
  cases hp : s.working.answerbackOnConnect
  · simp only [onConn_working, hp, Bool.false_eq_true, if_false, false_and]
    rfl
  · simp only [onConn_working, hp, if_true, true_and]
    rw [answerbackRequest_connected rfl]
    rfl

end State

open State

/-- Settles O23. -/
theorem adoptionsOfRateAndLineType : Obligations.AdoptionsOfRateAndLineType := by
  refine ⟨fun s hpow hrate hsampling hcandidate hfree => ?_, fun s hpow hstate htype hpar => ?_, fun s hpow hstate htype hpar => ?_⟩
  · have h := EventOf.rateAdoption.does hpow
    have hadopt : s.adoptRate = some (s.onRx fun b => { b with rate := s.working.rateIndex, be := 0 }) :=
      if_pos ⟨by simpa [rateWaits] using hrate, hsampling, hcandidate, hfree⟩
    rw [hadopt] at h
    exact h
  · have h := EventOf.lineTypeAdoption.does hpow
    have hwanted : s.wantedType = .permanent := by simp [wantedType, LineType.ofParam, hpar]
    rw [adoptLineType_eq hstate (by simp [hwanted, htype]), hwanted] at h
    exact h
  · have h := EventOf.lineTypeAdoption.does hpow
    have hwanted : s.wantedType = .switched := by simp [wantedType, LineType.ofParam, hpar]
    rw [adoptLineType_eq hstate (by simp [hwanted, htype]), hwanted] at h
    exact h

/-- Settles O24. -/
theorem stableMarkTimeoutsAndClearing : Obligations.StableMarkTimeoutsAndClearing := by
  refine ⟨fun s c t hpow hwatch hc htimed => ?_, fun s hpow htimer hstate => ?_, fun s hpow htimer hstate => ?_, fun s hpow htimer => ?_⟩
  · have h := (EventOf.lineConditionChange c t).does hpow
    rw [lineChange_eq hc (by simp [RxBlock.admits, hwatch]), conditionChange_timed ((timesMark_iff _).mpr htimed),
      receiverChange_watching (by exact hwatch)] at h
    exact h
  · have h := EventOf.answerTimerExpiry.does hpow
    rwa [atExpiry_of_some htimer, enterClearing_of_not_connected hstate] at h
  · have h := EventOf.callTimerExpiry.does hpow
    rwa [atExpiry_of_some htimer, enterClearing_of_not_connected hstate] at h
  · have h := EventOf.clearingTimerExpiry.does hpow
    rw [atExpiry_of_some htimer] at h
    exact h

/-- Settles O25: by whether a call arrives, and by auto-answer. -/
theorem callsArriveAndGo : Obligations.CallsArriveAndGo := by
  have harrives {s : State} {p : Bool} (b : Bool)
      (hb : (p && !s.conn.callInput && s.conn.state == .idle && s.conn.lineType == .switched) = b) :
      s.callChange p =
        if b && s.working.autoAnswer then (s.onConn fun c =>
          { c with callInput := p, callAnswerable := if p then c.callAnswerable || b else false }).enterAnswering
        else s.onConn fun c => { c with callInput := p, callAnswerable := if p then c.callAnswerable || b else false } := by
    subst hb
    rfl
  refine ⟨fun s hpow hin hstate htype hauto => ?_, fun s hpow hin hstate htype hauto => ?_, fun s hpow hother => ?_, fun s hpow => ?_⟩
  · have h := (EventOf.callInputChange true).does hpow
    rw [harrives true (by simp [hin, hstate, htype]), hauto] at h
    exact h
  · have h := (EventOf.callInputChange true).does hpow
    rw [harrives true (by simp [hin, hstate, htype]), hauto] at h
    simp only [Bool.and_false, Bool.or_true, Bool.false_eq_true, if_false] at h
    exact h
  · have h := (EventOf.callInputChange true).does hpow
    rw [harrives false (by obtain h | h := hother <;> simp [h])] at h
    simp only [Bool.false_and, Bool.or_false, Bool.false_eq_true, if_false] at h
    exact h
  · have h := (EventOf.callInputChange false).does hpow
    rw [harrives false (by simp)] at h
    exact h

/-- Settles O26. -/
theorem stableMarkEntersConnected : Obligations.StableMarkEntersConnected := by
  intro s hpow htimer
  have h := EventOf.stableMarkTimerExpiry.does hpow
  rw [atExpiry_of_some htimer] at h
  rwa [enterConnected_eq] at h

end Sys2Proof.Machine
end

section
/-! PROOF. The keys: what a key-down does to the matrix and the pair, the lock reasons, and the character and function keys (sections 6.1 to
6.6). -/

namespace Sys2Proof.Machine
namespace State

variable {s : State} {k : KeyPos}

/-! ### The matrix -/

/-- A key that goes down is DOWN with the role it is given (R116, R117). -/
theorem setDebounce_setRole (s : State) (k : KeyPos) (r : KeyRole) : (s.setDebounce k .down).setRole k r = s.heldAs k r := by
  by_cases hk : k.toNat < s.kb.keys.length
  · simp [setRole, setDebounce, setKey, heldAs, onKb, keyCell, List.getD_eq_getElem?_getD, hk]
  · simp only [setRole, setDebounce, setKey, heldAs, onKb, List.set_set]
    rw [List.set_eq_of_length_le (by omega), List.set_eq_of_length_le (by omega)]

theorem keyDown_none (h : s.entryNow k = .none) : s.keyDown k = s.memberDown k id := by
  simp only [keyDown, h]

theorem keyDown_character {c : Code} (h : s.entryNow k = .character c) : s.keyDown k = s.memberDown k (·.charDown k c) := by
  simp only [keyDown, h]

theorem keyDown_function {f : KeyFn} (h : s.entryNow k = .function f) (hf : f.isModifier = false) :
    s.keyDown k = s.memberDown k (·.functionKey f) := by
  unfold keyDown
  rw [h]
  cases f
  case repeatFn => cases hf
  case shiftFn => cases hf
  all_goals rfl

theorem keyDown_shift (h : s.entryNow k = .function .shiftFn) : s.keyDown k = s.shiftDown k := by
  simp only [keyDown, h]

theorem keyDown_repeat (h : s.entryNow k = .function .repeatFn) : s.keyDown k = s.repeatDown k := by
  simp only [keyDown, h]

/-- A key going down joins a pair that has a place (R117). -/
theorem memberDown_joined (dispatch : State → State) (h : s.kb.pair.length < 2) :
    (s.setDebounce k .down).memberDown k dispatch = dispatch (s.joined k) := by
  rw [memberDown, if_pos (show (s.setDebounce k .down).kb.pair.length < 2 from h), setDebounce_setRole]
  rfl

/-- A third key is blocked and counted (R117). -/
theorem memberDown_blocked (dispatch : State → State) (h : 2 ≤ s.kb.pair.length) :
    (s.setDebounce k .down).memberDown k dispatch =
      { s.heldAs k .blocked with kb := { (s.heldAs k .blocked).kb with blockedCount := sat16 s.kb.blockedCount } } := by
  rw [memberDown, if_neg (show ¬(s.setDebounce k .down).kb.pair.length < 2 from Nat.not_lt.mpr h), setDebounce_setRole]
  rfl

/-- A function's key-down that can come (log entry 10). -/
theorem functionDown_eq {f : KeyFn} (h : s.Presents k (.function f)) : s.functionDown k f = (s.setDebounce k .down).keyDown k :=
  if_pos ⟨h.2.1, h.2.2⟩

theorem characterDown_eq {c : Code} (h : s.Presents k (.character c)) : s.characterDown k = (s.setDebounce k .down).keyDown k := by
  obtain ⟨-, hfree, hentry⟩ := h
  simp only [characterDown, hentry, hfree, if_true]

/-- A function key that takes its place in the pair. -/
theorem does_functionKey {f : KeyFn} (h : s.Offers k (.function f)) (hf : f.isModifier = false) :
    Does (f.command k) s ((s.joined k).functionKey f) := by
  obtain ⟨hpresents, hpair⟩ := h
  have hdoes := (EventOf.functionKeyDown k f).does hpresents.1
  rw [functionDown_eq hpresents, keyDown_function ((setDebounce_entryNow _ k k .down).trans hpresents.2.2) hf,
    memberDown_joined _ hpair] at hdoes
  exact hdoes

/-- A character key that takes its place in the pair. -/
theorem does_charDown {c : Code} (h : s.Offers k (.character c)) :
    Does (.characterKeyDown k) s ((s.joined k).charDown k c) := by
  obtain ⟨hpresents, hpair⟩ := h
  have hdoes := (EventOf.characterKeyDown k).does hpresents.1
  rw [characterDown_eq hpresents, keyDown_character ((setDebounce_entryNow _ k k .down).trans hpresents.2.2),
    memberDown_joined _ hpair] at hdoes
  exact hdoes

theorem does_shiftDown (h : s.Presents k (.function .shiftFn)) :
    Does (.shiftKey k) s ((s.setDebounce k .down).shiftDown k) := by
  have hdoes := (EventOf.functionKeyDown k .shiftFn).does h.1
  rw [functionDown_eq h, keyDown_shift ((setDebounce_entryNow _ k k .down).trans h.2.2)] at hdoes
  exact hdoes

theorem does_repeatDown (h : s.Presents k (.function .repeatFn)) :
    Does (.repeatKey k) s ((s.setDebounce k .down).repeatDown k) := by
  have hdoes := (EventOf.functionKeyDown k .repeatFn).does h.1
  rw [functionDown_eq h, keyDown_repeat ((setDebounce_entryNow _ k k .down).trans h.2.2)] at hdoes
  exact hdoes

/-! ### Locks and functions -/

theorem functionKey_locked {f : KeyFn} (hl : s.locked = true) (hf : f.exempt = false) : s.functionKey f = s.bell :=
  if_pos (by simp [hl, hf])

/-- A function that no lock reason refuses is carried out, and restarts the close timer (R120, R121). -/
theorem functionKey_effect {f : KeyFn} {t : State} (hl : s.locked = false ∨ f.exempt = true) (ht : s.functionEffect f = some t) :
    s.functionKey f = t.restartClose := by
  rw [functionKey, if_neg (by obtain h | h := hl <;> simp [h]), ht]

/-- A function that its owner refuses sounds the bell. -/
theorem functionKey_refused {f : KeyFn} (hl : s.locked = false ∨ f.exempt = true) (ht : s.functionEffect f = none) :
    s.functionKey f = s.bell := by
  rw [functionKey, if_neg (by obtain h | h := hl <;> simp [h]), ht]

theorem charKey_locked (hl : s.locked = true) (c : Code) : s.charKey c = (s.bell, .refused) := if_pos hl

theorem charKey_entry (hl : s.locked = false) (he : s.kb.entryFlag = true) (c : Code) :
    s.charKey c = (s.restartClose.enterKey c, .taken) := by
  rw [charKey, if_neg (by simp [hl]), if_pos he]

theorem charKey_dropped {c : Code} (hl : s.locked = false) (he : s.kb.entryFlag = false) (hc : s.working.storeCode c = none) :
    s.charKey c = (s, .dropped) := by
  rw [charKey, if_neg (by simp [hl]), if_neg (by simp [he]), hc]

theorem charKey_noRoom {c d : Code} (hl : s.locked = false) (he : s.kb.entryFlag = false) (hc : s.working.storeCode c = some d)
    (hd : s.offerKey d = none) : s.charKey c = (s.noRoom, .refused) := by
  rw [charKey, if_neg (by simp [hl]), if_neg (by simp [he]), hc]
  simp only [hd]

theorem charKey_taken {c d : Code} {v : State} (hl : s.locked = false) (he : s.kb.entryFlag = false)
    (hc : s.working.storeCode c = some d) (hd : s.offerKey d = some v) : s.charKey c = (v.restartClose, .taken) := by
  rw [charKey, if_neg (by simp [hl]), if_neg (by simp [he]), hc]
  simp only [hd]

theorem offerKey_create {c : Code} (h : s.composing = none) : s.offerKey c = s.createKeyboard c := by
  simp only [offerKey, h]

theorem offerKey_append {c : Code} {e : Nat} (h : s.composing = some e) : s.offerKey c = s.append e ⟨c, .good⟩ := by
  simp only [offerKey, h]

/-- The COMPOSING record is the one that is (R63). -/
theorem composing_iff (hs : s.StoreSound) (e : Nat) : s.composing = some e ↔ s.InUse e ∧ (s.record e).state = .composing := by
  have hlaws := storeSound_iff.mp hs
  refine ⟨composing_some hlaws, fun ⟨hu, hc⟩ => ?_⟩
  cases hd : s.composing with
  | none => exact absurd hc (composing_none hlaws hd hu)
  | some d =>
    obtain ⟨hud, hcd⟩ := composing_some hlaws hd
    rw [hs.2.2.2.2.2 d e hud hu hcd hc]

end State

open State

/-- Settles O28. -/
theorem keysLockedOrBlocked : Obligations.KeysLockedOrBlocked := by
  refine ⟨⟨fun s => ⟨?_, ?_, ?_, Iff.rfl⟩, fun s e hs => composing_iff hs e⟩, ⟨fun s k c h hl => ?_, fun s k f h hf hx hl => ?_,
    fun s k h hl => ?_, fun s k h hl => ?_⟩, fun s k c h hpair => ?_, fun s k f h hf hpair => ?_⟩
  · simp [locked, or_assoc]
  · simp [unattendedLock]
  · cases hc : s.composing with
    | none => simp [sendLagLock, hc]
    | some e =>
      simp only [sendLagLock, hc, Output.owed, Bool.and_eq_true, beq_iff_eq, Option.some.injEq, exists_eq_left']
      exact and_congr_right fun _ => by omega
  · have h := does_charDown h
    rwa [charDown, charKey_locked (show (s.joined k).locked = true from hl)] at h
  · have h := does_functionKey h hf
    rwa [functionKey_locked (show (s.joined k).locked = true from hl) hx] at h
  · have h := does_shiftDown h
    rwa [shiftDown, if_pos (show (s.setDebounce k .down).locked = true from hl), setDebounce_setRole] at h
  · have h := does_repeatDown h
    rwa [repeatDown, if_pos (show (s.setDebounce k .down).locked = true from hl), setDebounce_setRole] at h
  · have hdoes := (EventOf.characterKeyDown k).does h.1
    rw [characterDown_eq h, keyDown_character ((setDebounce_entryNow _ k k .down).trans h.2.2), memberDown_blocked _ hpair] at hdoes
    exact hdoes
  · have hdoes := (EventOf.functionKeyDown k f).does h.1
    rw [functionDown_eq h, keyDown_function ((setDebounce_entryNow _ k k .down).trans h.2.2) hf, memberDown_blocked _ hpair] at hdoes
    exact hdoes

/-- A function key that no lock reason refuses (R120, R121). -/
theorem does_function_effect {s t : State} {k : KeyPos} {f : KeyFn} (h : s.Offers k (.function f)) (hf : f.isModifier = false)
    (hl : s.locked = false ∨ f.exempt = true) (ht : (s.joined k).functionEffect f = some t) : Does (f.command k) s t.restartClose := by
  have hdoes := does_functionKey h hf
  rwa [functionKey_effect (s := s.joined k) hl ht] at hdoes

/-- A function key that its owner refuses. -/
theorem does_function_refused {s : State} {k : KeyPos} {f : KeyFn} (h : s.Offers k (.function f)) (hf : f.isModifier = false)
    (hl : s.locked = false ∨ f.exempt = true) (ht : (s.joined k).functionEffect f = none) : Does (f.command k) s (s.joined k).bell := by
  have hdoes := does_functionKey h hf
  rwa [functionKey_refused (s := s.joined k) hl ht] at hdoes

/-- A break request is taken in CONNECTED, with no break pending or in flight (R135). -/
theorem State.breakRequest_taken {s : State} (hconn : s.conn.state = .connected) (hpend : s.tx.breakPending = false)
    (hfly : ∀ n, s.tx.inFlight ≠ some (.brk n)) : s.breakRequest = s.onTx fun b => { b with breakPending := true } := by
  unfold breakRequest
  rw [isConnected_iff.mpr hconn, hpend]
  cases h : s.tx.inFlight with
  | none => rfl
  | some x =>
    cases x with
    | character _ _ _ _ => rfl
    | brk n => exact absurd h (hfly n)

/-- Else it is without effect. -/
theorem State.breakRequest_idle {s : State}
    (h : s.conn.state ≠ .connected ∨ s.tx.breakPending = true ∨ ∃ n, s.tx.inFlight = some (.brk n)) : s.breakRequest = s := by
  refine if_neg ?_
  obtain hn | hp | ⟨n, hn⟩ := h
  · simp [isConnected, hn]
  · simp [hp]
  · simp [hn]

/-- A HERE-IS request (R128): the answerback while CONNECTED, and its notice where it is not empty. -/
theorem State.hereIsRequest_eq (s : State) :
    s.hereIsRequest =
      let v := if s.conn.state = .connected then s.answerbackRequest else s
      if s.working.answerback = [] then v else v.notice (s.working.answerback ++ crlf) := by
  have hworking (c : Prop) [Decidable c] : (if c then s.answerbackRequest else s).working = s.working := by
    split
    · exact congrArg ProfileBlock.working (of_outer State.profile (fun _ => rfl) (answerbackRequest_outer s))
    · rfl
  simp only [hereIsRequest, hworking, List.isEmpty_iff, isConnected_iff]
  rfl

/-- Settles O30: each function by its effect on the state with the key joined to the pair. -/
theorem keysOfTheKeyboardAndTheLine : Obligations.KeysOfTheKeyboardAndTheLine := by
  refine ⟨fun s k h hl => does_function_effect h rfl (.inl hl) rfl, fun s k h hl => ?_, fun s k h hl hconn hpend hfly => ?_,
    fun s k h hl hnot => ?_, fun s k h hl => does_function_effect h rfl (.inl hl) rfl,
    fun s k h hl => does_function_effect h rfl (.inl hl) rfl⟩
  · exact does_function_effect h rfl (.inl hl) (congrArg some (s.joined k).hereIsRequest_eq)
  · exact does_function_effect h rfl (.inl hl) (congrArg some (breakRequest_taken (s := s.joined k) hconn hpend hfly))
  · exact does_function_effect h rfl (.inl hl) (congrArg some (breakRequest_idle (s := s.joined k) hnot))

/-- The printer's and the punch's fault cleared (R70, R97). -/
theorem State.clearFaults_eq (s : State) :
    s.clearFaults =
      { s with
        print :=
          if s.print.fault = true then
            { s.print with fault := false, failedOp := none, ops := s.print.failedOp.toList ++ s.print.ops }
          else s.print
        punch :=
          if s.punch.fault = true then
            { s.punch with fault := false, failedRow := none, rows := s.punch.failedRow.toList ++ s.punch.rows }
          else s.punch } := by
  unfold clearFaults clearPunchFault clearPrintFault
  cases s.print.fault <;> cases hpunch : s.punch.fault <;> simp [hpunch, onPrint, onPunch]

@[simp] theorem State.joined_punch (s : State) (k : KeyPos) : (s.joined k).punch = s.punch := rfl

/-- A new reel fitted (R113). -/
theorem State.newReel_eq (s : State) : s.newReel = { s with punch := s.reelFitted } := by
  have hstatus : (s.punch.current.map fun e => (s.record e).punch.status).getD .none =
      match s.punch.current with
      | none => .none
      | some e => (s.record e).punch.status := by cases s.punch.current <;> rfl
  simp only [newReel, reelFitted, beginBlank, hstatus]
  rw [onPunch_onPunch]
  unfold onPunch
  cases s.punch.piece <;> rfl

/-- Settles O31. -/
theorem keysOfTheMechanisms : Obligations.KeysOfTheMechanisms := by
  refine ⟨fun s k h hl => ?_, fun s k h hl => ?_, fun s k h hf => ?_, fun s k h hf hfly => ?_, fun s k h hf hfly => ?_, fun s k h => ?_⟩
  · have hdoes := does_function_effect h rfl (.inl hl) rfl
    have htape : (s.joined k).tapeKey = match s.punch.keyboardClaim.state with
        | .idle => ((s.joined k).claimRequest .keyboard).1
        | .draining => ((s.joined k).claimRequest .keyboard).1
        | .holding => (s.joined k).releaseAll .keyboard
        | .waiting => (s.joined k).releaseAll .keyboard := by
      rw [tapeKey]
      rfl
    rw [htape] at hdoes
    cases hst : s.punch.keyboardClaim.state <;> simp only [hst] at hdoes <;> exact hdoes
  · split
    · rename_i hcond
      refine does_function_refused h rfl (.inl hl) (if_pos ?_)
      simpa [or_assoc] using hcond
    · rename_i hcond
      refine does_function_effect h rfl (.inl hl) (if_neg ?_)
      simpa [or_assoc] using hcond
  · exact does_function_refused h rfl (.inr rfl) (if_pos hf)
  · refine does_function_effect h rfl (.inr rfl) ?_
    have hnot : ¬((s.joined k).punch.fault = true) := by simpa using hf
    exact (if_neg hnot).trans (if_pos hfly)
  · have hnot : ¬((s.joined k).punch.fault = true) := by simpa using hf
    have hnone : ¬((s.joined k).punch.inFlight.isSome = true) := by simpa using hfly
    have ht : (s.joined k).functionEffect .newTape = some (s.joined k).newReel := (if_neg hnot).trans (if_neg hnone)
    rw [State.newReel_eq] at ht
    exact does_function_effect h rfl (.inr rfl) ht
  · exact does_function_effect h rfl (.inr rfl) (congrArg some (s.joined k).clearFaults_eq)

/-! ### Character keys -/

theorem State.charDown_refused {s v : State} {k : KeyPos} {c : Code} (h : s.charKey c = (v, .refused)) : s.charDown k c = v := by
  simp only [charDown, h]

theorem State.charDown_taken {s v : State} {k : KeyPos} {c : Code} (h : s.charKey c = (v, .taken)) :
    s.charDown k c = v.acceptedChar k := by
  simp only [charDown, h]

theorem State.charDown_dropped {s v : State} {k : KeyPos} {c : Code} (h : s.charKey c = (v, .dropped)) :
    s.charDown k c = v.acceptedChar k := by
  simp only [charDown, h]

/-- An accepted key restarts the close timer while a record is COMPOSING (R125). -/
theorem State.restartClose_eq (s : State) :
    ((∃ e ∈ s.store.arrival, (s.record e).state = .composing) →
      s.restartClose = { s with kb := { s.kb with closeTimer := some (s.working.closeTimeS * 1000) } }) ∧
    ((∀ e ∈ s.store.arrival, (s.record e).state ≠ .composing) → s.restartClose = s) := by
  constructor
  · rintro ⟨e, he, hc⟩
    exact if_pos (List.find?_isSome.mpr ⟨e, he, by simpa using hc⟩)
  · intro h
    refine if_neg ?_
    have hnone : s.composing = none := List.find?_eq_none.mpr (by simpa using h)
    simp [hnone]

theorem State.repeatHeld_iff {s : State} : s.repeatHeld = true ↔ ∃ c ∈ s.kb.keys, c.role = .repeatModifier true := by
  simp [repeatHeld]

/-- Settles O33: by what the key's character becomes. -/
theorem characterKeysAreTaken : Obligations.CharacterKeysAreTaken := by
  refine ⟨fun s k c h hl => ⟨fun he => ?_, fun he hc => ?_, fun he d v hc hnone hv => ?_, fun he d e v hc hsome hv => ?_,
    fun he d hc hd => ?_⟩, restartClose_eq, fun s k => ⟨fun hheld => ?_, fun hnot => ?_⟩⟩
  · have hdoes := does_charDown h
    rwa [charDown_taken (charKey_entry (s := s.joined k) hl he c)] at hdoes
  · have hdoes := does_charDown h
    rwa [charDown_dropped (charKey_dropped (s := s.joined k) hl he hc)] at hdoes
  · have hdoes := does_charDown h
    rwa [charDown_taken (charKey_taken (s := s.joined k) hl he hc ((offerKey_create (s := s.joined k) hnone).trans hv))] at hdoes
  · have hdoes := does_charDown h
    rwa [charDown_taken (charKey_taken (s := s.joined k) hl he hc ((offerKey_append (s := s.joined k) hsome).trans hv))] at hdoes
  · have hdoes := does_charDown h
    rwa [charDown_refused (charKey_noRoom (s := s.joined k) hl he hc hd)] at hdoes
  · exact if_pos (repeatHeld_iff (s := s.setLive k true).mpr hheld)
  · refine if_neg fun hheld => ?_
    obtain ⟨c, hc, hrole⟩ := (repeatHeld_iff (s := s.setLive k true)).mp hheld
    exact hnot c hc hrole

end Sys2Proof.Machine
end

section
/-! PROOF. Modifiers, repetition, key-ups and the scan (sections 6.1 to 6.3). -/

namespace Sys2Proof.Machine
namespace State

variable {s : State} {k : KeyPos}

/-! ### Modifiers and repetition -/

/-- Restarting the close timer changes nothing else (R125). -/
theorem restartClose_kb (s : State) : ∃ x, s.restartClose = { s with kb := { s.kb with closeTimer := x } } := by
  unfold restartClose startCloseTimer
  split
  · exact ⟨_, rfl⟩
  · exact ⟨s.kb.closeTimer, rfl⟩

theorem startRepeat_begin {m : KeyPos} (hnone : s.kb.repeatKey = none) (hlive : s.lastLive = some m) :
    s.startRepeat = s.beginRepeat m := by
  simp only [startRepeat, hnone, hlive]

theorem startRepeat_idle (h : s.kb.repeatKey.isSome = true ∨ s.lastLive = none) : s.startRepeat = s := by
  unfold startRepeat
  split
  · rename_i hnone hlive
    simp [hnone, hlive] at h
  · rfl

theorem repetitionEvent_stop {k : KeyPos} (hk : s.kb.repeatKey = some k) (hc : ∀ c, s.entryNow k ≠ .character c) :
    s.repetitionEvent = s.stopRepeating k := by
  cases he : s.entryNow k with
  | none => simp only [repetitionEvent, hk, he]
  | character c => exact absurd he (hc c)
  | function f => simp only [repetitionEvent, hk, he]

theorem repetitionEvent_refused {k : KeyPos} {c : Code} {v : State} (hk : s.kb.repeatKey = some k) (he : s.entryNow k = .character c)
    (hv : s.charKey c = (v, .refused)) : s.repetitionEvent = v.stopRepeating k := by
  simp only [repetitionEvent, hk, he, hv]

theorem repetitionEvent_accepted {k : KeyPos} {c : Code} {v : State} {r : CharResult} (hk : s.kb.repeatKey = some k)
    (he : s.entryNow k = .character c) (hv : s.charKey c = (v, r)) (hr : r ≠ .refused) :
    s.repetitionEvent = v.onKb fun b => { b with repeatTimer := some 100 } := by
  cases r
  case refused => exact absurd rfl hr
  all_goals simp only [repetitionEvent, hk, he, hv]

/-- A key held with a role is among the keys (R117). -/
theorem heldAs_mem (hkeys : s.kb.keys.length = 64) (r : KeyRole) : ⟨.down, r⟩ ∈ (s.heldAs k r).kb.keys :=
  List.mem_set (by omega) _

theorem shiftDown_taken (hl : s.locked = false) :
    (s.setDebounce k .down).shiftDown k = (s.heldAs k (.shiftModifier true)).restartClose := by
  rw [shiftDown, show (s.setDebounce k .down).locked = false from hl, if_neg Bool.false_ne_true, setDebounce_setRole]

theorem repeatDown_taken (hl : s.locked = false) :
    (s.setDebounce k .down).repeatDown k = (s.heldAs k (.repeatModifier true)).restartClose.startRepeat := by
  rw [repeatDown, show (s.setDebounce k .down).locked = false from hl, if_neg Bool.false_ne_true, setDebounce_setRole]

theorem repeatHeld_false_iff : s.repeatHeld = false ↔ ∀ c ∈ s.kb.keys, c.role ≠ .repeatModifier true := by
  rw [← Bool.not_eq_true, repeatHeld_iff]
  simp

end State

open State

/-- Settles O32. -/
theorem modifiersAndRepetition : Obligations.ModifiersAndRepetition := by
  refine ⟨⟨fun s k h hl hkeys => ⟨?_, ?_⟩, fun s k m h hl hnone hlive => ?_, fun s k h hl hidle => ?_⟩, fun s k hpow hk => ⟨fun hc => ?_,
    fun c he hl => ?_, fun c e d v he hl hentry hc hsome hv => ?_, fun c he hl hentry => ?_, fun c he hl hentry hc => ?_,
    fun c d v he hl hentry hc hnone hv => ?_, fun c d he hl hentry hc hd => ?_⟩, fun s k => ⟨fun hstop => ?_, fun hne hheld => ?_⟩⟩
  · have hdoes := does_shiftDown h
    rwa [shiftDown_taken hl] at hdoes
  · obtain ⟨x, hx⟩ := (s.heldAs k (.shiftModifier true)).restartClose_kb
    rw [hx]
    refine if_pos (List.any_eq_true.mpr ⟨⟨.down, .shiftModifier true⟩, heldAs_mem hkeys _, by simp⟩)
  · have hdoes := does_repeatDown h
    obtain ⟨x, hx⟩ := (s.heldAs k (.repeatModifier true)).restartClose_kb
    rw [repeatDown_taken hl,
      startRepeat_begin (m := m) (by rw [hx]; exact hnone) (by rw [hx]; exact hlive)] at hdoes
    exact hdoes
  · have hdoes := does_repeatDown h
    obtain ⟨x, hx⟩ := (s.heldAs k (.repeatModifier true)).restartClose_kb
    rwa [repeatDown_taken hl, startRepeat_idle (by rw [hx]; exact hidle)] at hdoes
  · have hdoes := EventOf.repetition.does hpow
    rw [repetitionEvent_stop hk hc] at hdoes
    exact hdoes
  · have hdoes := EventOf.repetition.does hpow
    rw [repetitionEvent_refused hk he (charKey_locked hl c)] at hdoes
    exact hdoes
  · have hdoes := EventOf.repetition.does hpow
    rw [repetitionEvent_accepted hk he (charKey_taken hl hentry hc ((offerKey_append hsome).trans hv)) (by decide)] at hdoes
    exact hdoes
  · have hdoes := EventOf.repetition.does hpow
    rw [repetitionEvent_accepted hk he (charKey_entry hl hentry c) (by decide)] at hdoes
    exact hdoes
  · have hdoes := EventOf.repetition.does hpow
    rw [repetitionEvent_accepted hk he (charKey_dropped hl hentry hc) (by decide)] at hdoes
    exact hdoes
  · have hdoes := EventOf.repetition.does hpow
    rw [repetitionEvent_accepted hk he (charKey_taken hl hentry hc ((offerKey_create hnone).trans hv)) (by decide)] at hdoes
    exact hdoes
  · have hdoes := EventOf.repetition.does hpow
    rw [repetitionEvent_refused hk he (charKey_noRoom hl hentry hc hd)] at hdoes
    exact hdoes
  · exact if_pos (hstop.imp_right fun ⟨hsome, hnone⟩ => ⟨hsome, repeatHeld_false_iff.mpr hnone⟩)
  · refine if_neg ?_
    rintro (hk | ⟨hsome, hnone⟩)
    · exact hne hk
    · obtain hidle | ⟨c, hc, hrole⟩ := hheld
      · have hsome : s.kb.repeatKey.isSome = true := hsome
        rw [hidle] at hsome
        cases hsome
      · exact repeatHeld_false_iff.mp hnone c hc hrole

/-! ### The scan -/

namespace State

variable {s : State} {k : KeyPos} {closed : BitVec 64}

/-- The debounce states of the keys. -/
def debounces (s : State) : List Debounce := s.kb.keys.map (·.debounce)

theorem setKey_debounces (s : State) (k : KeyPos) (c : KeyCell) : (s.setKey k c).debounces = s.debounces.set k.toNat c.debounce :=
  List.map_set

theorem setRole_debounces (s : State) (k : KeyPos) (r : KeyRole) : (s.setRole k r).debounces = s.debounces := by
  rw [setRole, setKey_debounces]
  refine List.ext_getElem? fun j => ?_
  rw [List.getElem?_set]
  split
  · rename_i hj
    subst hj
    split
    · rename_i hlt
      have hlt' : k.toNat < s.kb.keys.length := by simpa [debounces] using hlt
      simp [debounces, keyCell, List.getD_eq_getElem?_getD, hlt']
    · rename_i hlt
      rw [List.getElem?_eq_none (Nat.not_lt.mp hlt)]
  · rfl

theorem debounces_of_keys {t : State} (h : t.kb.keys = s.kb.keys) : t.debounces = s.debounces := by rw [debounces, h, debounces]

theorem restartClose_keys (s : State) : s.restartClose.kb.keys = s.kb.keys := by
  obtain ⟨x, hx⟩ := s.restartClose_kb
  rw [hx]

theorem offerKey_keys {c : Code} {v : State} (h : s.offerKey c = some v) : v.kb.keys = s.kb.keys :=
  congrArg KbBlock.keys (of_offStore State.kb (fun _ => rfl) (offerKey_offStore h))

theorem charKey_keys (s : State) (c : Code) : (s.charKey c).1.kb.keys = s.kb.keys := by
  unfold charKey
  split
  · rfl
  split
  · have henter (u : State) : (u.enterKey c).kb.keys = u.kb.keys := by
      unfold enterKey
      rw [keys_of_rooted (handLocal_rooted _ c)]
      split <;> rfl
    exact (henter _).trans s.restartClose_keys
  split
  · rfl
  · split
    · rfl
    · rename_i v hv
      exact (restartClose_keys v).trans (offerKey_keys hv)

theorem acceptedChar_keys (s : State) : (s.acceptedChar k).kb.keys = s.kb.keys := by
  unfold acceptedChar
  dsimp only
  split <;> rfl

theorem charDown_keys (s : State) (c : Code) : (s.charDown k c).kb.keys = s.kb.keys := by
  have h := s.charKey_keys c
  unfold charDown
  split
  · rename_i hv
    rw [hv] at h
    exact h
  all_goals
    rename_i hv
    rw [hv] at h
    exact (acceptedChar_keys _).trans h

/-- A function's effect leaves the matrix alone. -/
theorem functionEffect_keys {f : KeyFn} {t : State} (h : s.functionEffect f = some t) : t.kb.keys = s.kb.keys := by
  cases f <;> simp only [functionEffect, Option.some.injEq] at h
  case lead =>
    subst h
    exact keys_of_rooted (handLocal_rooted _ _)
  case hereIs =>
    subst h
    rw [hereIsRequest_eq]
    have hv (u : State) (x : List Code) (hu : u.kb.keys = s.kb.keys) :
        (if s.working.answerback = [] then u else u.notice x).kb.keys = s.kb.keys := by
      split
      · exact hu
      · exact (congrArg KbBlock.keys (kb_of_outer (notice_outer u x))).trans hu
    refine hv _ _ ?_
    split
    · exact congrArg KbBlock.keys (kb_of_outer (answerbackRequest_outer s))
    · rfl
  case brk =>
    subst h
    exact congrArg KbBlock.keys (kb_of_outer (breakRequest_outer s))
  case lineLocal =>
    subst h
    exact (keys_of_rooted (closeComposing_rooted s.toggleMode)).trans rfl
  case tape =>
    subst h
    exact congrArg KbBlock.keys (kb_of_outer (tapeKey_outer s))
  case feed => exact congrArg KbBlock.keys (kb_of_outer (feedRequest_outer h))
  case newTape => exact congrArg KbBlock.keys (kb_of_outer (newTapeRequest_outer h))
  case endFn =>
    subst h
    exact keys_of_rooted (closeComposing_rooted s)
  case attend =>
    subst h
    rfl
  case unattend =>
    subst h
    exact (keys_of_rooted (closeComposing_rooted (s.setAttended false)) :)
  case answer =>
    subst h
    exact keys_of_rooted (rooted_of_steady (answerRequest_steady s))
  case seize =>
    subst h
    exact keys_of_rooted (rooted_of_steady (seizeRequest_steady s))
  case clearLine =>
    subst h
    exact keys_of_rooted (clearRequest_rooted s)
  case clearFault =>
    subst h
    rw [clearFaults_eq]
  all_goals
    subst h
    rfl

theorem functionKey_keys (s : State) (f : KeyFn) : (s.functionKey f).kb.keys = s.kb.keys := by
  unfold functionKey
  split
  · rfl
  · split
    · rfl
    · rename_i t ht
      exact (restartClose_keys t).trans (functionEffect_keys ht)

/-- A key-down changes no debounce state (R116, R117). -/
theorem keyDown_debounces (s : State) (k : KeyPos) : (s.keyDown k).debounces = s.debounces := by
  have hmember (dispatch : State → State) (hd : ∀ u, (dispatch u).kb.keys = u.kb.keys) :
      (s.memberDown k dispatch).debounces = s.debounces := by
    unfold memberDown
    split
    · exact (debounces_of_keys (hd _)).trans (s.setRole_debounces k _)
    · exact s.setRole_debounces k _
  unfold keyDown
  split
  · exact hmember _ fun _ => rfl
  · exact hmember _ fun u => u.charDown_keys _
  · unfold shiftDown
    split
    · exact s.setRole_debounces k _
    · exact (debounces_of_keys (restartClose_keys _)).trans (s.setRole_debounces k _)
  · unfold repeatDown
    split
    · exact s.setRole_debounces k _
    · have hstart (u : State) : u.startRepeat.kb.keys = u.kb.keys := by
        unfold startRepeat
        split <;> rfl
      exact (debounces_of_keys ((hstart _).trans (restartClose_keys _))).trans (s.setRole_debounces k _)
  · exact hmember _ fun u => u.functionKey_keys _

theorem keyUp_debounces (s : State) (k : KeyPos) : (s.keyUp k).debounces = s.debounces := by
  unfold keyUp
  dsimp only
  split <;> exact s.setRole_debounces k .none

theorem settle_debounces (s : State) : s.settle.debounces = s.debounces := by
  refine debounces_of_keys (of_steady (fun s : State => s.kb.keys) (fun _ => rfl) ?_)
  exact settle_keeps (P := fun t => t.steady = s.steady) s (fun u t h hu => (settleStep_steady h).trans hu) rfl

theorem recognises_eq (s : State) (closed : BitVec 64) (k : Nat) :
    s.recognises closed k = match s.debounces.getD k .up, closed.getLsbD k with
      | .pressing, true => true
      | .releasing, false => true
      | _, _ => false := by
  have h : (s.kb.keys.getD k ⟨.up, .none⟩).debounce = s.debounces.getD k .up := by
    simp only [debounces, List.getD_eq_getElem?_getD, List.getElem?_map]
    cases s.kb.keys[k]? <;> rfl
  rw [recognises, h] <;> rfl

theorem recognises_of_debounces {t : State} {k : Nat} (h : t.debounces.getD k .up = s.debounces.getD k .up) :
    t.recognises closed k = s.recognises closed k := by
  rw [recognises_eq, recognises_eq, h]

/-- What a scan recognises (R116). -/
theorem recognises_iff {j : Nat} : s.recognises closed j = true ↔
    ((s.kb.keys.getD j ⟨.up, .none⟩).debounce = .pressing ∧ closed.getLsbD j = true) ∨
      ((s.kb.keys.getD j ⟨.up, .none⟩).debounce = .releasing ∧ closed.getLsbD j = false) := by
  unfold recognises
  cases (s.kb.keys.getD j ⟨.up, .none⟩).debounce <;> cases closed.getLsbD j <;> simp

theorem keyCell_ofNat {j : Nat} (hj : j < 64) : s.keyCell (BitVec.ofNat 6 j) = s.kb.keys.getD j ⟨.up, .none⟩ := by
  rw [keyCell, BitVec.toNat_ofNat, Nat.mod_eq_of_lt hj]

/-- One key examined: its key-down, its key-up, or neither is recognised (R116). -/
theorem scanKey_down {j : Nat} (hj : j < 64) (hd : (s.kb.keys.getD j ⟨.up, .none⟩).debounce = .pressing)
    (hc : closed.getLsbD j = true) :
    s.scanKey closed j = ((s.setDebounce (BitVec.ofNat 6 j) .down).keyDown (BitVec.ofNat 6 j)).settle := by
  simp only [scanKey, keyCell_ofNat hj, hd, hc]
  rfl

theorem scanKey_up {j : Nat} (hj : j < 64) (hd : (s.kb.keys.getD j ⟨.up, .none⟩).debounce = .releasing)
    (hc : closed.getLsbD j = false) :
    s.scanKey closed j = ((s.setDebounce (BitVec.ofNat 6 j) .up).keyUp (BitVec.ofNat 6 j)).settle := by
  simp only [scanKey, keyCell_ofNat hj, hd, hc]
  rfl

/-- A key neither of whose key-down and key-up is recognised only has its debounce state moved (R116). -/
theorem scanKey_quiet {j : Nat} (hj : j < 64) (h : s.recognises closed j = false) :
    s.scanKey closed j =
      s.setDebounce (BitVec.ofNat 6 j) ((s.kb.keys.getD j ⟨.up, .none⟩).debounce.next (closed.getLsbD j)) := by
  have hnot : ¬(s.recognises closed j = true) := by simp [h]
  rw [recognises_iff] at hnot
  simp only [scanKey, keyCell_ofNat hj]
  generalize hd : (s.kb.keys.getD j ⟨.up, .none⟩).debounce = d at hnot
  generalize closed.getLsbD j = b at hnot
  rw [if_neg, if_neg]
  · rintro ⟨rfl, hnext⟩
    cases b
    · exact hnot (.inr ⟨rfl, rfl⟩)
    · cases hnext
  · rintro ⟨rfl, hnext⟩
    cases b
    · cases hnext
    · exact hnot (.inl ⟨rfl, rfl⟩)

theorem getElem?_keysMoved (s : State) (closed : BitVec 64) (lo hi j : Nat) :
    (s.keysMoved closed lo hi)[j]? =
      if lo ≤ j ∧ j < hi then s.kb.keys[j]?.map fun c => { c with debounce := c.debounce.next (closed.getLsbD j) }
      else s.kb.keys[j]? := by
  rw [keysMoved, List.getElem?_mapIdx]
  split
  · rfl
  · exact Option.map_id'

theorem keysMoved_empty (s : State) (closed : BitVec 64) (lo : Nat) : s.keysMoved closed lo lo = s.kb.keys := by
  refine List.ext_getElem? fun j => ?_
  rw [getElem?_keysMoved, if_neg (by omega)]

/-- The state with the debounce states of a range of keys moved (R116). -/
def moved (s : State) (closed : BitVec 64) (lo hi : Nat) : State := { s with kb := { s.kb with keys := s.keysMoved closed lo hi } }

theorem getD_moved_above (s : State) (closed : BitVec 64) {lo hi j : Nat} (hj : hi ≤ j) :
    (s.moved closed lo hi).kb.keys.getD j ⟨.up, .none⟩ = s.kb.keys.getD j ⟨.up, .none⟩ := by
  rw [List.getD_eq_getElem?_getD, show (s.moved closed lo hi).kb.keys = s.keysMoved closed lo hi from rfl, getElem?_keysMoved,
    if_neg (by omega), List.getD_eq_getElem?_getD]

/-- The next key of the range moved. -/
theorem setDebounce_moved {lo j : Nat} (hlo : lo ≤ j) (hj : j < 64) :
    (s.moved closed lo j).setDebounce (BitVec.ofNat 6 j) ((s.kb.keys.getD j ⟨.up, .none⟩).debounce.next (closed.getLsbD j)) =
      s.moved closed lo (j + 1) := by
  have hcell : (s.moved closed lo j).keyCell (BitVec.ofNat 6 j) = s.kb.keys.getD j ⟨.up, .none⟩ := by
    rw [keyCell_ofNat hj, getD_moved_above s closed le_rfl]
  have hkeys : (s.keysMoved closed lo j).set j { s.kb.keys.getD j ⟨.up, .none⟩ with
      debounce := (s.kb.keys.getD j ⟨.up, .none⟩).debounce.next (closed.getLsbD j) } = s.keysMoved closed lo (j + 1) := by
    refine List.ext_getElem? fun i => ?_
    rw [List.getElem?_set, getElem?_keysMoved, getElem?_keysMoved]
    have hlen : (s.keysMoved closed lo j).length = s.kb.keys.length := List.length_mapIdx
    rw [hlen]
    by_cases hi : j = i
    · subst hi
      rw [if_pos rfl, if_pos (show lo ≤ j ∧ j < j + 1 by omega)]
      by_cases hlt : j < s.kb.keys.length
      · simp [List.getD_eq_getElem?_getD, hlt]
      · rw [if_neg hlt, List.getElem?_eq_none (Nat.not_lt.mp hlt)]
        rfl
    · rw [if_neg hi]
      by_cases hr : lo ≤ i ∧ i < j
      · rw [if_pos hr, if_pos (show lo ≤ i ∧ i < j + 1 by omega)]
      · rw [if_neg hr, if_neg (by omega)]
  rw [setDebounce, hcell, setKey, BitVec.toNat_ofNat, Nat.mod_eq_of_lt hj]
  show { s with kb := { s.kb with keys := (s.keysMoved closed lo j).set j _ } } = _
  rw [hkeys]
  rfl

/-- A range of keys none of which is recognised only has its debounce states moved. -/
theorem foldl_scanKey_quiet (s : State) (closed : BitVec 64) (lo n : Nat) (hn : lo + n ≤ 64)
    (h : ∀ k, lo ≤ k → k < lo + n → s.recognises closed k = false) :
    (List.range' lo n).foldl (scanKey closed) s = s.moved closed lo (lo + n) := by
  induction n with
  | zero =>
    rw [Nat.add_zero, moved, keysMoved_empty]
    rfl
  | succ n ih =>
    rw [List.range'_1_concat, List.foldl_append, ih (by omega) fun k hk hlt => h k hk (by omega)]
    have hsame := getD_moved_above s closed (lo := lo) (le_refl (lo + n))
    have hquiet : (s.moved closed lo (lo + n)).recognises closed (lo + n) = false := by
      unfold recognises
      rw [hsame]
      exact h (lo + n) (by omega) (by omega)
    rw [List.foldl_cons, List.foldl_nil, scanKey_quiet (by omega) hquiet, hsame, setDebounce_moved (by omega) (by omega)]
    rfl

/-- A scan in which one key alone may be recognised: the keys before it moved, it, and the keys after it moved. -/
theorem scanEvent_single {p : Nat} {w : State} (hp : p < 64) (h : ∀ k, k < 64 → k ≠ p → s.recognises closed k = false)
    (hw : (s.moved closed 0 p).scanKey closed p = w) (hdeb : w.debounces = (s.moved closed 0 (p + 1)).debounces) :
    s.scanEvent closed = w.moved closed (p + 1) 64 := by
  have hrange : List.range 64 = List.range' 0 p ++ p :: List.range' (p + 1) (63 - p) := by
    rw [List.range_eq_range', show p :: List.range' (p + 1) (63 - p) = List.range' p (64 - p) by
      rw [show 64 - p = (63 - p) + 1 by omega]
      rfl]
    have := List.range'_append_1 (s := 0) (m := p) (n := 64 - p)
    rw [Nat.zero_add, show p + (64 - p) = 64 by omega] at this
    exact this.symm
  rw [scanEvent, hrange, List.foldl_append, foldl_scanKey_quiet s closed 0 p (by omega) fun k _ hk => h k (by omega) (by omega),
    Nat.zero_add, List.foldl_cons, hw, foldl_scanKey_quiet w closed (p + 1) (63 - p) (by omega), show p + 1 + (63 - p) = 64 by omega]
  intro k hk hlt
  refine (recognises_of_debounces (s := s) ?_).trans (h k (by omega) (by omega))
  have hsame := congrArg KeyCell.debounce (getD_moved_above s closed (lo := 0) (hi := p + 1) (j := k) hk)
  have hget (u : State) : u.debounces.getD k .up = (u.kb.keys.getD k ⟨.up, .none⟩).debounce := by
    simp only [debounces, List.getD_eq_getElem?_getD, List.getElem?_map]
    cases u.kb.keys[k]? <;> rfl
  rw [hdeb, hget, hget, hsame]

end State

open State

/-- Settles O35. -/
theorem scansDebounceEveryKey : Obligations.ScansDebounceEveryKey := by
  refine ⟨fun s closed hpow hlen h => ?_, fun s closed p hpow hlen hp h => ⟨fun hd hc => ?_, fun hd hc => ?_⟩, fun s closed hpow => ?_, rfl,
    fun s k => ⟨fun f h => ?_, fun c h => ?_, fun h hpair => ?_, fun h hpair => ?_⟩⟩
  · have hquiet : ∀ k, k < 64 → s.recognises closed k = false := by
      intro k hk
      obtain ⟨hdown, hup⟩ := h k hk
      rw [← Bool.not_eq_true, recognises_iff]
      exact not_or.mpr ⟨hdown, hup⟩
    have hdoes := (EventOf.scan closed).does hpow
    have hscan := foldl_scanKey_quiet s closed 0 64 (by decide) fun k _ hk => hquiet k (by omega)
    rw [← List.range_eq_range'] at hscan
    rw [scanEvent, hscan] at hdoes
    refine ⟨_, hdoes, by simp [keysMoved, hlen], fun k hk => ?_⟩
    have hcell : (s.keysMoved closed 0 64).getD k ⟨.up, .none⟩ =
        ⟨(s.kb.keys.getD k ⟨.up, .none⟩).debounce.next (closed.getLsbD k), (s.kb.keys.getD k ⟨.up, .none⟩).role⟩ := by
      rw [List.getD_eq_getElem?_getD, getElem?_keysMoved, if_pos ⟨Nat.zero_le k, hk⟩, List.getD_eq_getElem?_getD]
      simp [hlen, hk]
    refine hcell.trans ?_
    generalize s.kb.keys.getD k ⟨.up, .none⟩ = c
    generalize closed.getLsbD k = b
    obtain ⟨d, r⟩ := c
    cases d <;> cases b <;> rfl
  · have hdoes := (EventOf.scan closed).does hpow
    have hsame := getD_moved_above s closed (lo := 0) (le_refl p)
    have hset := setDebounce_moved (s := s) (closed := closed) (Nat.zero_le p) hp
    rw [hd, hc] at hset
    have hw := scanKey_down (s := s.moved closed 0 p) (closed := closed) hp (by rw [hsame, hd]) hc
    rw [show (s.moved closed 0 p).setDebounce (BitVec.ofNat 6 p) .down = s.moved closed 0 (p + 1) from hset] at hw
    rwa [scanEvent_single hp h hw ((settle_debounces _).trans (keyDown_debounces _ _))] at hdoes
  · have hdoes := (EventOf.scan closed).does hpow
    have hsame := getD_moved_above s closed (lo := 0) (le_refl p)
    have hset := setDebounce_moved (s := s) (closed := closed) (Nat.zero_le p) hp
    rw [hd, hc] at hset
    have hw := scanKey_up (s := s.moved closed 0 p) (closed := closed) hp (by rw [hsame, hd]) hc
    rw [show (s.moved closed 0 p).setDebounce (BitVec.ofNat 6 p) .up = s.moved closed 0 (p + 1) from hset] at hw
    rwa [scanEvent_single hp h hw ((settle_debounces _).trans (keyUp_debounces _ _))] at hdoes
  · refine ⟨fun k => (List.range k).foldl (scanKey closed) s, rfl, (EventOf.scan closed).does hpow, fun k hk => ?_⟩
    have hstep : (List.range (k + 1)).foldl (scanKey closed) s = ((List.range k).foldl (scanKey closed) s).scanKey closed k := by
      rw [List.range_succ, List.foldl_append]
      rfl
    simp only [hstep]
    generalize (List.range k).foldl (scanKey closed) s = u
    have hv (d : Debounce) : u.setDebounce (BitVec.ofNat 6 k) d =
        { u with kb := { u.kb with keys := u.kb.keys.set k { u.kb.keys.getD k ⟨.up, .none⟩ with debounce := d } } } := by
      rw [setDebounce, keyCell_ofNat hk, setKey, BitVec.toNat_ofNat, Nat.mod_eq_of_lt hk]
      rfl
    refine ⟨fun hd hc => ?_, fun hd hc => ?_, fun hdown hup => ?_⟩
    · rw [scanKey_down hk hd hc, hv, hc, hd]
      rfl
    · rw [scanKey_up hk hd hc, hv, hc, hd]
      rfl
    · rw [scanKey_quiet hk, hv]
      rw [← Bool.not_eq_true, recognises_iff]
      rintro (⟨hd, hc⟩ | ⟨hd, hc⟩)
      · exact hdown.elim (fun hne => hne hd) fun hne => Bool.false_ne_true (hne.symm.trans hc)
      · exact hup.elim (fun hne => hne hd) fun hne => Bool.false_ne_true (hc.symm.trans hne)
  · have hdoes := (EventOf.functionKeyDown k f).does h.1
    rw [functionDown_eq h] at hdoes
    exact hdoes
  · have hdoes := (EventOf.characterKeyDown k).does h.1
    rw [characterDown_eq h] at hdoes
    exact hdoes
  · show (s.setDebounce k .down).keyDown k = _
    rw [keyDown_none ((setDebounce_entryNow _ k k .down).trans h.2.2), memberDown_joined _ hpair]
    rfl
  · show (s.setDebounce k .down).keyDown k = _
    rw [keyDown_none ((setDebounce_entryNow _ k k .down).trans h.2.2), memberDown_blocked _ hpair]

end Sys2Proof.Machine
end

section
/-! PROOF. The keyboard's and the motor's timers, the motor and the lamps (sections 3.5, 6.3, 6.4, 8.10, 11.1), and the record that a
first keyboard character makes (section 6.4). -/

namespace Sys2Proof.Machine
namespace State

variable {s : State} {e : Nat}

/-! ### Timers, the motor and the lamps -/

theorem closeComposing_of_some (h : s.composing = some e) :
    s.closeComposing =
      ((({ s with kb := { s.kb with closeTimer := none } } : State).setRecord e { s.record e with state := .complete }).examine e) := by
  simp only [closeComposing, h]
  rfl

theorem closeComposing_of_none (h : s.composing = none) :
    s.closeComposing = { s with kb := { s.kb with closeTimer := none } } := by
  simp only [closeComposing, h]
  rfl

theorem PrintBlock.service_ready_iff (b : PrintBlock) :
    b.service = .ready ↔ b.fault = false ∧ b.inFlight = none ∧ b.held = false ∧ b.ops ≠ [] := by
  unfold Machine.PrintBlock.service
  cases b.fault <;> cases b.inFlight <;> cases b.held <;> cases b.ops <;> simp

theorem PunchBlock.service_ready_iff (b : PunchBlock) :
    b.service = .ready ↔ b.fault = false ∧ b.inFlight = none ∧ b.tapeOut = false ∧ b.rows ≠ [] := by
  unfold Machine.PunchBlock.service
  cases b.fault <;> cases b.inFlight <;> cases b.tapeOut <;> cases b.rows <;> simp

theorem demand_iff (s : State) :
    s.demand = true ↔
      (s.print.fault = false ∧ s.print.inFlight = none ∧ s.print.held = false ∧ s.print.ops ≠ []) ∨
      (s.punch.fault = false ∧ s.punch.inFlight = none ∧ s.punch.tapeOut = false ∧ s.punch.rows ≠ []) := by
  rw [demand, Bool.or_eq_true, beq_iff_eq, beq_iff_eq, PrintBlock.service_ready_iff, PunchBlock.service_ready_iff]

theorem motorQuiet_iff (s : State) :
    s.motorQuiet = true ↔ s.print.inFlight = none ∧ s.punch.inFlight = none ∧ s.demand = false := by
  simp [motorQuiet, and_assoc]

theorem motorStep_stopped (h : s.motor.state = .stopped) :
    s.motorStep = if s.demand then
      some { s with motor := { s.motor with state := .starting, runUp := some (100 * s.working.par 25) } } else none := by
  rw [Nat.mul_comm]
  conv_lhs => simp only [motorStep, h]
  rfl

theorem motorStep_running (h : s.motor.state = .running) :
    s.motorStep = if s.motorQuiet = s.motor.quiet then none else
      some { s with motor :=
        { s.motor with quiet := s.motorQuiet, idle := if s.motorQuiet then secondsTimer s.working.motorIdleS else none } } := by
  conv_lhs => simp only [motorStep, h]
  rfl

theorem firstOf_cons (f : State → Option State) (fs : List (State → Option State)) (s : State) :
    firstOf (f :: fs) s = (f s).or (firstOf fs s) := by
  cases h : f s <;> simp [firstOf, h]

theorem settleStep_eq (s : State) :
    s.settleStep = ((((s.adoptLineType.or s.adoptRate).or s.sendStep).or s.printStep).or s.punchStep).or s.motorStep := by
  simp only [settleStep, firstOf_cons, Option.or_assoc]
  simp [firstOf]

theorem repeatStep_none {f : State → Option State} (h : f s = none) (n : Nat) : repeatStep f n s = s := by
  cases n with
  | zero => rfl
  | succ n => simp only [repeatStep, h]

theorem repeatStep_some {f : State → Option State} {t : State} (h : f s = some t) (n : Nat) :
    repeatStep f (n + 1) s = repeatStep f n t := by
  simp only [repeatStep, h]

theorem messageWaitingLamp_iff (hd : s.store.dir.length = 32) :
    s.messageWaitingLamp = true ↔ ∃ e, 1 ≤ e ∧ e ≤ 32 ∧ (s.record e).state ≠ .empty ∧ (s.record e).retained = true := by
  rw [messageWaitingLamp, List.any_eq_true]
  constructor
  · rintro ⟨r, hr, hp⟩
    obtain ⟨i, hi, rfl⟩ := List.mem_iff_getElem.mp hr
    refine ⟨i + 1, by omega, by omega, ?_⟩
    have hget : s.record (i + 1) = s.store.dir[i] := by simp [record, hi]
    simpa [hget] using hp
  · rintro ⟨e, h1, h2, hstate, hret⟩
    have hi : e - 1 < s.store.dir.length := by omega
    have hget : s.record e = s.store.dir[e - 1] := by simp [record, hi]
    rw [hget] at hstate hret
    exact ⟨_, List.getElem_mem hi, by simp [hstate, hret]⟩

end State

/-- Settles O36: the timers by the commands' events, the motor by its state, what the blocks do of themselves by the order of their
steps, and each lamp by what it shows. -/
theorem keyboardAndMotorTimersExpire : Obligations.KeyboardAndMotorTimersExpire := by
  refine ⟨⟨fun s hpow => EventOf.breakLockTimerExpiry.does hpow, fun s e hpow ht hc => ?_, fun s hpow ht hc => ?_⟩,
    ⟨fun s hpow ht => ?_, fun s hpow ht => ?_⟩, fun s => ?_, fun s => ?_⟩
  · have h := EventOf.closeTimerExpiry.does hpow
    rwa [State.closeExpiry, if_pos ht, State.closeComposing_of_some hc] at h
  · have h := EventOf.closeTimerExpiry.does hpow
    rwa [State.closeExpiry, if_pos ht, State.closeComposing_of_none hc] at h
  · have h := EventOf.runUpTimerExpiry.does hpow
    rwa [State.runUpExpiry, if_pos ht] at h
  · have h := EventOf.idleTimerExpiry.does hpow
    rwa [State.idleExpiry, if_pos ht] at h
  · refine ⟨s.demand_iff, fun hm hd => ?_, fun hm hd => ?_, fun hm => ?_, fun hm hq hp hu hd => ?_, fun hm hq hbusy => ?_,
      fun hm hq => ?_, s.settleStep_eq, fun h => State.repeatStep_none h _, rfl, fun f n =>
      ⟨rfl, fun h => State.repeatStep_none h _, fun t h => State.repeatStep_some h n⟩⟩
    · rw [State.motorStep_stopped hm, hd, if_pos rfl]
    · rw [State.motorStep_stopped hm, hd, if_neg Bool.false_ne_true]
    · simp only [State.motorStep, hm]
    · have hquiet : s.motorQuiet = true := s.motorQuiet_iff.mpr ⟨hp, hu, hd⟩
      rw [State.motorStep_running hm, hquiet, hq, if_neg (by decide), Nat.mul_comm]
      rfl
    · have hquiet : s.motorQuiet = false := by
        rw [Bool.eq_false_iff, Ne, State.motorQuiet_iff]
        rintro ⟨hp, hu, hd⟩
        simp [hp, hu, hd] at hbusy
      rw [State.motorStep_running hm, hquiet, hq, if_neg (by decide)]
      rfl
    · rw [State.motorStep_running hm, if_pos]
      rw [Bool.eq_iff_iff, State.motorQuiet_iff, hq]
  · refine ⟨by simp [State.alarmLamp, or_assoc], State.messageWaitingLamp_iff, ?_, Iff.rfl, State.isConnected_iff, Iff.rfl⟩
    exact decide_eq_true_iff

/-! ### The record of a first keyboard character -/

namespace State

variable {s : State} {e : Nat}

theorem lowestEmpty_none_iff (s : State) : s.lowestEmpty = none ↔ ∀ e, 1 ≤ e → e ≤ 32 → (s.record e).state ≠ .empty := by
  simp only [lowestEmpty, List.find?_eq_none, List.mem_map, List.mem_range, beq_iff_eq, forall_exists_index, and_imp]
  constructor
  · intro h e h1 h2
    exact h e (e - 1) (by omega) (by omega)
  · rintro h _ i hi rfl
    exact h (i + 1) (by omega) (by omega)

/-- A record without cells takes its first block. -/
theorem append_first {t : State} {c : Cell} (h0 : (s.record e).length = 0) :
    s.append e c = some t ↔ ∃ b rest, s.store.free = b :: rest ∧ t = (s.granted e b rest).putCell e c := by
  constructor
  · intro h
    obtain ⟨-, ⟨-, b, rest, hfree, rfl⟩ | ⟨hmod, -⟩⟩ := append_cases h
    · exact ⟨b, rest, hfree, rfl⟩
    · exact absurd (by rw [h0]) hmod
  · rintro ⟨b, rest, hfree, rfl⟩
    simp only [append, hfree]
    rw [if_neg (by omega), if_pos (by omega)]
    rfl

theorem placed_length {r : Record} (hr : r.length = 0) : ((s.placed e r).record e).length = 0 := by
  by_cases hlt : e - 1 < s.store.dir.length
  · rw [placed, show State.record (State.onStore (s.setRecord e _) _) e = (s.setRecord e _).record e from rfl,
      record_setRecord_self s e _ hlt]
    exact hr
  · have hout : (s.placed e r).store.dir.length ≤ e - 1 := by simpa [placed] using hlt
    rw [record, List.getD_eq_default _ _ hout]
    rfl

/-- The record of a first character, where an entry is EMPTY and a block is free (R42, R45, R62, R63). -/
theorem createKeyboard_some {c : Code} {v : State} : s.createKeyboard c = some v ↔
    ∃ e b rest, s.lowestEmpty = some e ∧ s.store.free = b :: rest ∧
      v = (((s.placed e s.keyboardRecord).granted e b rest).putCell e ⟨c, .good⟩).takeSerial := by
  rw [createKeyboard, create_eq]
  cases hlow : s.lowestEmpty with
  | none => simp
  | some e =>
    have happ (t : State) := append_first (s := s.placed e s.keyboardRecord) (t := t) (c := ⟨c, .good⟩) (placed_length rfl)
    simp only [Option.map_some, Option.map_eq_some_iff, happ]
    constructor
    · rintro ⟨_, ⟨b, rest, hfree, rfl⟩, rfl⟩
      exact ⟨e, b, rest, rfl, hfree, rfl⟩
    · rintro ⟨_, b, rest, hd, hfree, rfl⟩
      cases hd
      exact ⟨_, ⟨b, rest, hfree, rfl⟩, rfl⟩

/-- No record is made exactly where no entry is EMPTY or no block is free (R42, R45). -/
theorem createKeyboard_none_iff (s : State) (c : Code) :
    s.createKeyboard c = none ↔ s.lowestEmpty = none ∨ s.store.free = [] := by
  rw [Option.eq_none_iff_forall_ne_some]
  constructor
  · intro h
    by_contra hne
    rw [not_or] at hne
    obtain ⟨e, he⟩ := Option.ne_none_iff_exists'.mp hne.1
    obtain ⟨b, rest, hfree⟩ := List.exists_cons_of_ne_nil hne.2
    exact h _ (createKeyboard_some.mpr ⟨e, b, rest, he, hfree, rfl⟩)
  · rintro h v hv
    obtain ⟨e, b, rest, he, hfree, -⟩ := createKeyboard_some.mp hv
    simp [he, hfree] at h

/-- The new record, whole: its one cell in its one block. -/
theorem record_createKeyboard {v : State} {c : Code} {b : Nat} {rest : List Nat} (hd : s.store.dir.length = 32)
    (he : Numbered e) (hv : v = (((s.placed e s.keyboardRecord).granted e b rest).putCell e ⟨c, .good⟩).takeSerial) {x : Nat}
    (hx : Numbered x) :
    v.record x =
      if x = e then { s.keyboardRecord with
        length := 1, blocks := [b], retained := !s.conn.attended && s.working.retainUnattended } else s.record x := by
  have hpd : (s.placed e s.keyboardRecord).store.dir.length = 32 := by simpa [placed] using hd
  have hgd : ((s.placed e s.keyboardRecord).granted e b rest).store.dir.length = 32 := by rwa [granted_dir_length]
  subst hv
  show (putCell _ e _).record x = _
  rw [record_putCell hgd he hx, record_granted hpd he he, record_granted hpd he hx, record_placed hd he he, record_placed hd he hx]
  by_cases hxe : x = e
  · simp only [if_pos hxe]
    rfl
  · simp only [if_neg hxe]

end State

/-- Settles O34: the record made is the one placed, granted its block and written its cell, by the rules of these operations. -/
theorem firstCharacterMakesTheKeyboardRecord : Obligations.FirstCharacterMakesTheKeyboardRecord := by
  refine ⟨fun s c => ⟨?_, State.offerKey_create, fun e => State.offerKey_append⟩, fun s v c hd hv => ?_⟩
  · rw [State.createKeyboard_none_iff, State.lowestEmpty_none_iff]
  · obtain ⟨e, b, rest, hlow, hfree, rfl⟩ := State.createKeyboard_some.mp hv
    have he := (State.lowestEmpty_some hlow).1
    have hrec {x : Nat} (hx : Numbered x) := State.record_createKeyboard (c := c) (b := b) (rest := rest) hd he rfl hx
    refine ⟨e, hlow, fun hwf => ?_, ?_, by rw [hfree]; rfl, rfl, rfl, fun x h1 h2 hne => ?_⟩
    · have hpd : (s.placed e s.keyboardRecord).store.dir.length = 32 := by simpa [State.placed] using hd
      have hwritten : ((s.placed e s.keyboardRecord).granted e b rest).record e =
          { s.keyboardRecord with blocks := [b], retained := !s.conn.attended && s.working.retainUnattended } := by
        rw [State.record_granted hpd he he, if_pos rfl, State.record_placed hd he he, if_pos rfl]
        rfl
      rw [State.cellOf, hrec he, if_pos rfl]
      show Memory.read (Memory.write _ (State.cellAddress (((s.placed e s.keyboardRecord).granted e b rest).record e) _) _) _ = _
      rw [hwritten]
      exact Memory.read_write_self _ _ hwf
    · rw [hrec he, if_pos rfl, hfree]
      simp [State.keyboardRecord, State.wanted, State.claims, Record.empty, State.isConnected]
    · rw [hrec ⟨h1, h2⟩, if_neg hne]

end Sys2Proof.Machine
end

section
/-! PROOF. What a run of changes makes of every record: `Recast s v g` says that from `s` to `v` each record becomes what `g` gives,
and that the freed ones leave the arrival list. The rules of the operations that go through many records (sections 3.3, 3.5). -/

namespace Sys2Proof.Machine

/-! ### Examination -/

namespace Record

variable {r : Record}

theorem printDone_of_open (h : r.state.isClosed = false) : r.printDone = r := by simp [printDone, printedOut, h]

/-- An open record is not changed by an examination (R57, R83). -/
theorem examined_of_open (h : r.state.isClosed = false) : r.examined = r := by
  simp [examined_eq, printDone_of_open h, disposable, h]

theorem printDone_of_marked (h : r.print.mark = true) : r.printDone = r := by simp [printDone, printedOut, h]

/-- A record in a print context is not changed by an examination. -/
theorem examined_of_marked (h : r.print.mark = true) : r.examined = r := by
  simp [examined_eq, printDone_of_marked h, disposable, h]

theorem printDone_printDone (r : Record) : r.printDone.printDone = r.printDone := by
  unfold printDone
  split <;> simp_all [printedOut, Output.owed]

@[simp] theorem examined_empty : Record.empty.examined = Record.empty := examined_of_open rfl

theorem examined_examined (r : Record) : r.examined.examined = r.examined := by
  rw [examined_eq r]
  split
  · exact examined_empty
  · rename_i h
    rw [examined_eq, printDone_printDone, if_neg h]

theorem owed_empty : Record.empty.punch.owed = false ∧ Record.empty.send.owed = false := ⟨rfl, rfl⟩

/-- An examination leaves owed what is owed to the punch and to the send side. -/
theorem examined_owed (r : Record) : r.examined.punch.owed = r.punch.owed ∧ r.examined.send.owed = r.send.owed := by
  rw [examined_eq]
  split
  · rename_i h
    obtain ⟨-, -, hp, hs, -⟩ := (disposable_iff _).mp h
    simp only [printDone_punch, printDone_send] at hp hs
    simp [Output.owed, hp, hs, Record.empty, Output.none]
  · simp

/-- Nor does it change whose an owed record is. -/
theorem examined_of_owed (h : r.punch.owed = true ∨ r.send.owed = true) : r.examined = r.printDone := by
  rw [examined_eq, if_neg]
  rw [disposable_iff]
  simp only [printDone_punch, printDone_send]
  rintro ⟨-, -, hp, hs, -⟩
  simp [Output.owed, hp, hs] at h

theorem printDone_origin (r : Record) : r.printDone.origin = r.origin := by unfold printDone; split <;> rfl

/-- A change of an output that owes nothing new and sets no mark. -/
structure Lets (g : Output → Output) : Prop where
  none : g .none = .none
  owed : ∀ o, o.owed = false → (g o).owed = false
  mark : ∀ o, o.mark = false → (g o).mark = false

theorem Lets.id : Lets fun o => o := ⟨rfl, fun _ h => h, fun _ h => h⟩
theorem Lets.giveUp : Lets Output.giveUp :=
  ⟨rfl, fun o h => by simp [Output.giveUp, h], fun o h => by unfold Output.giveUp; split <;> exact h⟩
theorem Lets.letGo (g : Bool) : Lets fun o => { (if g then o.giveUp else o) with mark := false } :=
  ⟨by cases g <;> rfl, fun o h => by cases g <;> simp_all [Output.giveUp, Output.owed], fun _ _ => rfl⟩

theorem printDone_outputs (g h : Output → Output) (r : Record) :
    ({ r with punch := g r.punch, send := h r.send } : Record).printDone =
      { r.printDone with punch := g r.punch, send := h r.send } := by
  simp only [printDone, show ({ r with punch := g r.punch, send := h r.send } : Record).printedOut = r.printedOut from rfl]
  split <;> rfl

/-- An examination before such a change makes no difference to one after it. -/
theorem examined_outputs {g h : Output → Output} (hg : Lets g) (hh : Lets h) (r : Record) :
    ({ r.examined with punch := g r.examined.punch, send := h r.examined.send } : Record).examined =
      ({ r with punch := g r.punch, send := h r.send } : Record).examined := by
  rw [examined_eq r]
  split
  · rename_i hd
    have hempty : ({ Record.empty with punch := g Record.empty.punch, send := h Record.empty.send } : Record) = .empty := by
      simp only [Record.empty, hg.none, hh.none]
    rw [hempty, examined_empty, examined_eq, printDone_outputs, if_pos]
    obtain ⟨hst, hp, hu, hs, hr, hpm, hum, hsm⟩ := (disposable_iff _).mp hd
    simp only [printDone_punch, printDone_send] at hu hs hum hsm
    rw [disposable_iff]
    refine ⟨hst, hp, ?_, ?_, hr, hpm, hg.mark _ hum, hh.mark _ hsm⟩
    · simpa [Output.owed] using hg.owed r.punch (by simpa [Output.owed] using hu)
    · simpa [Output.owed] using hh.owed r.send (by simpa [Output.owed] using hs)
  · rw [examined_eq, examined_eq, printDone_outputs, printDone_outputs, printDone_printDone]
    simp

/-- The same for the print mark: a marked record is not changed by an examination, and an unmarked one has none to lose. -/
theorem examined_unmark (r : Record) :
    ({ r.examined with print := { r.examined.print with mark := false } } : Record).examined =
      ({ r with print := { r.print with mark := false } } : Record).examined := by
  cases hm : r.print.mark with
  | true => rw [examined_of_marked hm]
  | false =>
    have hsame (q : Record) (hq : q.print.mark = false) : ({ q with print := { q.print with mark := false } } : Record) = q := by
      have hp : ({ q.print with mark := false } : Output) = q.print := by rw [← hq]
      rw [hp]
    have hex : r.examined.print.mark = false := by
      rw [examined_eq]
      split
      · rfl
      · simpa using hm
    rw [hsame _ hex, hsame _ hm, examined_examined]

end Record

/-! ### Every record at once -/

namespace State

variable {s t v : State} {e x : Nat}

/-- The arrival list names each in-use entry of a directory of 32 once (R41, R43). -/
structure Listed (s : State) : Prop where
  dir : s.store.dir.length = 32
  nodup : s.store.arrival.Nodup
  arrival : ∀ e, e ∈ s.store.arrival ↔ s.InUse e

theorem StoreLaws.listed (h : s.StoreLaws) : s.Listed := ⟨h.dir, h.nodup, h.arrival⟩

/-- From `s` to `v` each record becomes what `g` gives, and the freed ones leave the arrival list. -/
structure Recast (s v : State) (g : Nat → Record → Record) : Prop where
  listed : v.Listed
  record : ∀ e, Numbered e → v.record e = g e (s.record e)
  arrival : v.store.arrival.Sublist s.store.arrival

namespace Recast

variable {g h : Nat → Record → Record}

theorem refl (hs : s.Listed) : Recast s s fun _ r => r := ⟨hs, fun _ _ => rfl, .refl _⟩

theorem trans (h1 : Recast s t g) (h2 : Recast t v h) : Recast s v fun e r => h e (g e r) :=
  ⟨h2.listed, fun e he => by rw [h2.record e he, h1.record e he], h2.arrival.trans h1.arrival⟩

theorem congr (h1 : Recast s v g) (hg : ∀ e, Numbered e → g e (s.record e) = h e (s.record e)) : Recast s v h :=
  ⟨h1.listed, fun e he => by rw [h1.record e he, hg e he], h1.arrival⟩

/-- A change that leaves the directory and the arrival list alone changes no record. -/
theorem of_eq (hs : s.Listed) (hd : v.store.dir = s.store.dir) (ha : v.store.arrival = s.store.arrival) :
    Recast s v fun _ r => r := by
  have hr (e : Nat) : v.record e = s.record e := by rw [State.record, State.record, hd]
  exact ⟨⟨by rw [hd, hs.dir], by rw [ha]; exact hs.nodup, fun e => by rw [ha, hs.arrival, inUse_iff, inUse_iff, hr]⟩,
    fun e _ => hr e, by rw [ha]⟩

/-- The same after it. -/
theorem after_eq (h1 : Recast s t g) (hd : v.store.dir = t.store.dir) (ha : v.store.arrival = t.store.arrival) :
    Recast s v g := h1.trans (of_eq h1.listed hd ha)

/-- Entries stay EMPTY. -/
theorem empty (hs : s.Listed) (h1 : Recast s v g) (he : Numbered e) (hempty : (s.record e).state = .empty) : (v.record e).state = .empty := by
  by_contra hne
  have hin : e ∈ v.store.arrival := (h1.listed.arrival e).mpr (inUse_iff.mpr ⟨he, hne⟩)
  have huse := (hs.arrival e).mp (h1.arrival.subset hin)
  exact (inUse_iff.mp huse).2 hempty

/-- The arrival list keeps the records not freed, in its order. -/
theorem arrival_eq (hs : s.Listed) (h1 : Recast s v g) :
    v.store.arrival = s.store.arrival.filter fun e => (v.record e).state != .empty := by
  have hself : v.store.arrival.filter (fun e => (v.record e).state != .empty) = v.store.arrival :=
    List.filter_eq_self.mpr fun e he => by simpa using (inUse_iff.mp ((h1.listed.arrival e).mp he)).2
  have hsub := h1.arrival.filter fun e => (v.record e).state != .empty
  rw [hself] at hsub
  refine hsub.eq_of_length (List.Perm.length_eq ?_)
  rw [List.perm_ext_iff_of_nodup h1.listed.nodup (hs.nodup.filter _)]
  intro e
  rw [List.mem_filter, bne_iff_ne, h1.listed.arrival, hs.arrival, inUse_iff, inUse_iff]
  refine ⟨fun ⟨hn, hne⟩ => ⟨⟨hn, fun hempty => hne (h1.empty hs hn hempty)⟩, hne⟩, fun h => ⟨h.1.1, h.2⟩⟩

/-- One entry changed and examined. -/
theorem updRecord (hs : s.Listed) (he : Numbered e) (f : Record → Record)
    (hf : (f (s.record e)).state = .empty ↔ (s.record e).state = .empty) :
    Recast s (s.updRecord e f) fun x r => if x = e then (f r).examined else r := by
  obtain ⟨hd, hnodup, harr⟩ := hs
  have hr {x : Nat} (hx : Numbered x) := record_updRecord hd he hx f
  have hself : ((s.setRecord e (f (s.record e))).record e) = f (s.record e) := by rw [record_setRecord hd he he, if_pos rfl]
  have hlist : (s.updRecord e f).store.arrival =
      if (f (s.record e)).printDone.disposable then s.store.arrival.erase e else s.store.arrival := by
    rw [State.updRecord, examine_arrival, hself]
    rfl
  have hstate : (f (s.record e)).examined.state ≠ .empty ↔
      (s.record e).state ≠ .empty ∧ (f (s.record e)).printDone.disposable = false := by
    rw [Record.examined_eq]
    split <;> simp_all [Record.empty]
  refine ⟨⟨by rwa [updRecord_dir_length], ?_, fun x => ?_⟩, fun x hx => ?_, ?_⟩
  · rw [hlist]
    split
    · exact hnodup.erase e
    · exact hnodup
  · rw [hlist, inUse_iff]
    by_cases hx : Numbered x
    · rw [hr hx]
      by_cases hxe : x = e
      · subst hxe
        rw [if_pos rfl, hstate]
        split
        · rename_i hdis
          simp [hnodup.mem_erase_iff, hdis]
        · rename_i hdis
          rw [harr, inUse_iff]
          simp [hdis]
      · rw [if_neg hxe]
        split
        · rw [hnodup.mem_erase_iff, harr, inUse_iff]
          simp [hxe]
        · rw [harr, inUse_iff]
    · have hnot : x ∉ s.store.arrival := fun h => hx (numbered_of_inUse ((harr x).mp h))
      simp only [hx, false_and, iff_false]
      split
      · exact fun h => hnot (List.mem_of_mem_erase h)
      · exact hnot
  · rw [hr hx]
    split
    · rename_i hxe
      rw [hxe]
    · rfl
  · rw [hlist]
    split
    · exact List.erase_sublist
    · exact .refl _

/-- The changes of some entries in turn, each in use and named once, each of which changes its own entry alone. -/
theorem foldl {f : State → Nat → State} {g : Record → Record} (l : List Nat) (hs : s.Listed) (hl : l.Nodup)
    (huse : ∀ e ∈ l, s.InUse e)
    (hstep : ∀ (u : State) (e : Nat), u.Listed → u.InUse e → Recast u (f u e) fun x r => if x = e then g r else r) :
    Recast s (l.foldl f s) fun x r => if x ∈ l then g r else r := by
  induction l generalizing s with
  | nil => simpa using refl hs
  | cons a l ih =>
    obtain ⟨hnot, hl'⟩ := List.nodup_cons.mp hl
    have h1 := hstep s a hs (huse a (by simp))
    have hin (e : Nat) (he : e ∈ l) : (f s a).InUse e := by
      have hu := inUse_iff.mp (huse e (by simp [he]))
      rw [inUse_iff, h1.record e hu.1, if_neg (show e ≠ a from fun heq => hnot (heq ▸ he))]
      exact hu
    refine (h1.trans (ih h1.listed hl' hin)).congr fun e he => ?_
    by_cases hea : e = a
    · simp [hea, hnot]
    · simp [hea]

end Recast
end State
end Sys2Proof.Machine
end

section
/-! PROOF. What each operation that goes through many records makes of every record: the send items dropped, the sends and punches given
up, the keyboard record closed, the stack torn down (sections 3.3, 5.3, 6.4, 7.8). -/

namespace Sys2Proof.Machine
namespace State

variable {s t v : State} {e x : Nat}

namespace Recast

/-- Changes of some entries in turn, whatever their order and however often. -/
theorem foldl_idem {f : State → Nat → State} {g : Record → Record} (l : List Nat) (hs : s.Listed) (hl : ∀ e ∈ l, Numbered e)
    (hg : ∀ r, g (g r) = g r)
    (hstep : ∀ (u : State) (e : Nat), u.Listed → Numbered e → Recast u (f u e) fun x r => if x = e then g r else r) :
    Recast s (l.foldl f s) fun x r => if x ∈ l then g r else r := by
  induction l generalizing s with
  | nil => simpa using refl hs
  | cons a l ih =>
    have h1 := hstep s a hs (hl a (by simp))
    refine (h1.trans (ih h1.listed fun e he => hl e (by simp [he]))).congr fun e he => ?_
    by_cases hea : e = a <;> by_cases hel : e ∈ l <;> simp [hea, hel, hg]

/-- A change of one entry that examines it only where it qualifies. -/
theorem ite_updRecord (hs : s.Listed) (he : Numbered e) (p : Record → Bool) (f : Record → Record)
    (hf : (f (s.record e)).state = .empty ↔ (s.record e).state = .empty) :
    Recast s (if p (s.record e) then s.updRecord e f else s)
      fun x r => if x = e then (if p r then (f r).examined else r) else r := by
  split
  · rename_i hp
    refine (updRecord hs he f hf).congr fun x _ => ?_
    by_cases hx : x = e
    · subst hx
      simp [hp]
    · simp [hx]
  · rename_i hp
    refine (refl hs).congr fun x _ => ?_
    by_cases hx : x = e
    · subst hx
      simp [hp]
    · simp [hx]

end Recast

theorem Listed.numbered (hs : s.Listed) (he : e ∈ s.store.arrival) : Numbered e := numbered_of_inUse ((hs.arrival e).mp he)

/-! ### The send side -/

theorem isSent_iff (s : State) (e : Nat) :
    s.isSent e = true ↔ e ∈ (s.tx.retrieval.bind (·.entry)).toList ++ s.tx.keyboardText.toList := by
  simp [isSent, Option.mem_toList]

theorem sent_numbered (hr : s.ReferencesNumbered) {e : Nat}
    (he : e ∈ (s.tx.retrieval.bind (·.entry)).toList ++ s.tx.keyboardText.toList) : Numbered e := by
  obtain ⟨-, -, hret, hkb, -⟩ := hr
  simp only [List.mem_append, Option.mem_toList, Option.bind_eq_some_iff] at he
  obtain ⟨t, ht, hte⟩ | he := he
  · exact hret t ht e hte
  · exact hkb e he

/-- The record of a send item let go (R54, R141). -/
def sendLetGo (r : Record) : Record := ({ r with send := { r.send.giveUp with mark := false } } : Record).examined

theorem sendLetGo_sendLetGo (r : Record) : sendLetGo (sendLetGo r) = sendLetGo r := by
  have h := Record.examined_outputs Record.Lets.id (Record.Lets.letGo true)
    ({ r with send := { r.send.giveUp with mark := false } } : Record)
  have hout (o : Output) : ({ ({ o.giveUp with mark := false } : Output).giveUp with mark := false } : Output) =
      { o.giveUp with mark := false } := by
    obtain ⟨st, c, m⟩ := o
    cases st <;> rfl
  rw [sendLetGo, sendLetGo]
  refine h.trans (congrArg Record.examined ?_)
  simp only [if_pos]
  rw [hout]

theorem dropItems_recast (hs : s.Listed) (hr : s.ReferencesNumbered) :
    Recast s s.dropItems fun e r => if s.isSent e = true then sendLetGo r else r := by
  have h1 : Recast s (s.onTx fun b =>
      { b with inFlight := b.inFlight.map TxFlight.orphaned, answerback := .none, reply := none, retrieval := none
               keyboardText := none }) fun _ r => r := .of_eq hs rfl rfl
  refine (h1.trans (Recast.foldl_idem _ h1.listed (fun e he => sent_numbered hr he) sendLetGo_sendLetGo
    fun u e hu he => .updRecord hu he _ Iff.rfl)).congr fun e he => ?_
  have h2 : (e ∈ (s.tx.retrieval.bind (·.entry)).toList ++ s.tx.keyboardText.toList) = (s.isSent e = true) :=
    propext (s.isSent_iff e).symm
  simp only [h2]

/-- A record that qualifies has its send given up (R141, R143). -/
def sendGivenUp (ok : Record → Bool) (r : Record) : Record :=
  if ok r && r.send.owed then ({ r with send := r.send.giveUp } : Record).examined else r

theorem arrival_mem_iff (hs : s.Listed) (he : Numbered e) : e ∈ s.store.arrival ↔ (s.record e).state ≠ .empty := by
  rw [hs.arrival, inUse_iff]
  exact and_iff_right he

theorem abandonSends_recast (hs : s.Listed) (ok : Record → Bool) :
    Recast s (s.abandonSends ok) fun _ r => if r.state = .empty then r else sendGivenUp ok r := by
  have h := Recast.foldl s.store.arrival hs hs.nodup (fun e he => (hs.arrival e).mp he) fun _ _ hu he =>
    .ite_updRecord hu (numbered_of_inUse he) (fun r => ok r && r.send.owed) (fun r => { r with send := r.send.giveUp }) Iff.rfl
  refine h.congr fun e he => ?_
  by_cases hst : (s.record e).state = .empty
  · rw [if_neg (by simp [arrival_mem_iff hs he, hst]), if_pos hst]
  · rw [if_pos ((arrival_mem_iff hs he).mpr hst), if_neg hst]
    rfl

/-! ### The punch -/

/-- A record that waits for a source's claim has its punch given up (R103). -/
def punchGivenUp (src : PunchSource) (r : Record) : Record :=
  if r.punch.owed && r.punchSource == src then ({ r with punch := r.punch.giveUp } : Record).examined else r

theorem abandonMarked_recast (hs : s.Listed) (src : PunchSource) :
    Recast s (s.abandonMarked src) fun _ r => if r.state = .empty then r else punchGivenUp src r := by
  have h := Recast.foldl s.store.arrival hs hs.nodup (fun e he => (hs.arrival e).mp he) fun _ _ hu he =>
    .ite_updRecord hu (numbered_of_inUse he) (fun r => r.punch.owed && r.punchSource == src)
      (fun r => { r with punch := r.punch.giveUp }) Iff.rfl
  refine h.congr fun e he => ?_
  by_cases hst : (s.record e).state = .empty
  · rw [if_neg (by simp [arrival_mem_iff hs he, hst]), if_pos hst]
  · rw [if_pos ((arrival_mem_iff hs he).mpr hst), if_neg hst]
    rfl

theorem releaseAll_recast (hs : s.Listed) (src : PunchSource) :
    Recast s (s.releaseAll src) fun _ r =>
      if (s.punch.claim src).state = .waiting ∧ r.state ≠ .empty then punchGivenUp src r else r := by
  have h1 : Recast s (s.onPunch (·.released src)) fun _ r => r := .of_eq hs rfl rfl
  rw [releaseAll_eq]
  split
  · rename_i h
    exact (h1.trans (abandonMarked_recast h1.listed src)).congr fun e _ => by
      by_cases hst : (s.record e).state = .empty <;> simp [h, hst]
  · rename_i h
    exact h1.congr fun e _ => by simp [h]

/-! ### The keyboard record and the stack -/

/-- At most one record is COMPOSING (R63). -/
def OneComposing (s : State) : Prop :=
  ∀ d e, s.InUse d → s.InUse e → (s.record d).state = .composing → (s.record e).state = .composing → d = e

theorem closeComposing_recast (hs : s.Listed) (hone : s.OneComposing) :
    Recast s s.closeComposing fun _ r => if r.state = .composing then ({ r with state := .complete } : Record).examined else r := by
  have h1 : Recast s (s.onKb fun b => { b with closeTimer := none }) fun _ r => r := .of_eq hs rfl rfl
  unfold closeComposing
  cases hc : s.composing with
  | none =>
    refine h1.congr fun e he => ?_
    rw [if_neg]
    intro hst
    have := List.find?_eq_none.mp hc e ((hs.arrival e).mpr (inUse_iff.mpr ⟨he, by simp [hst]⟩))
    simp [hst] at this
  | some d =>
    have hd := (hs.arrival d).mp (List.mem_of_find?_eq_some hc)
    have hst : (s.record d).state = .composing := by simpa using List.find?_some hc
    refine (h1.trans (.updRecord h1.listed (numbered_of_inUse hd) _ ?_)).congr fun e he => ?_
    · show RecState.complete = .empty ↔ (s.record d).state = .empty
      simp [hst]
    · by_cases hed : e = d
      · simp [hed, hst]
      · have hne : (s.record e).state ≠ .composing := fun h =>
          hed (hone e d (inUse_iff.mpr ⟨he, by simp [h]⟩) hd h hst)
        simp [hed, hne]

/-- A record that the line side lets go of, closed (R48, R52). -/
def lineClosed (r : Record) : Record := ({ r with state := if r.implicit then .complete else .cut } : Record).examined

theorem closeEntries_eq (st : List StackEntry) :
    st.foldl closeEntry s = (st.filterMap (·.entry)).foldl closeLineRecord s := by
  induction st generalizing s with
  | nil => rfl
  | cons t rest ih =>
    obtain ⟨p, entry⟩ := t
    cases entry <;> exact ih

theorem closeEntries_recast (hs : s.Listed) {st : List StackEntry} (hnodup : (st.filterMap (·.entry)).Nodup)
    (huse : ∀ e ∈ st.filterMap (·.entry), s.InUse e) :
    Recast s (st.foldl closeEntry s) fun e r => if e ∈ st.filterMap (·.entry) then lineClosed r else r := by
  rw [closeEntries_eq]
  refine Recast.foldl _ hs hnodup huse fun u e hu he => .updRecord hu (numbered_of_inUse he) _ ?_
  have := (inUse_iff.mp he).2
  dsimp only
  split <;> simp [this]

/-- What a heading closes: what lies on top from its precedence up (R48, R52). -/
theorem cutFrom_eq (p : Nat) (st : List StackEntry) :
    cutFrom p st s = ((st.takeWhile fun t => decide (p ≤ t.precedence)).foldl closeEntry s).setStack
      (st.dropWhile fun t => decide (p ≤ t.precedence)) := by
  induction st generalizing s with
  | nil => rfl
  | cons t rest ih =>
    rw [cutFrom]
    by_cases h : p ≤ t.precedence
    · rw [if_pos h, ih]
      simp [h]
    · simp [h]

theorem teardown_eq (s : State) : s.teardown = (s.store.openStack.foldl closeEntry s).setStack [] := by
  have htake : s.store.openStack.takeWhile (fun t => decide (0 ≤ t.precedence)) = s.store.openStack :=
    List.takeWhile_eq_self_iff.mpr fun t _ => by simp
  have hdrop : s.store.openStack.dropWhile (fun t => decide (0 ≤ t.precedence)) = [] :=
    List.dropWhile_eq_nil_iff.mpr fun t _ => by simp
  rw [teardown, cutFrom_eq, htake, hdrop]

theorem teardown_recast (hs : s.Listed) (hnodup : (s.store.openStack.filterMap (·.entry)).Nodup)
    (huse : ∀ e ∈ s.store.openStack.filterMap (·.entry), s.InUse e) :
    Recast s s.teardown fun e r => if e ∈ s.store.openStack.filterMap (·.entry) then lineClosed r else r := by
  rw [teardown_eq]
  exact (closeEntries_recast hs hnodup huse).after_eq rfl rfl

end State
end Sys2Proof.Machine
end

section
/-! PROOF. What a break and a leaving of CONNECTED make of the blocks and of every record (sections 3.3, 3.5, 6.4, 7.8, 8.7). -/

namespace Sys2Proof.Machine

/-! ### One record -/

namespace Record

variable {r : Record}

/-- Nothing of a record examined becomes EMPTY but what was, or is freed. -/
theorem examined_state (r : Record) : r.examined.state = .empty ∨ r.examined.state = r.state := by
  rw [examined_eq]
  split
  · exact .inl rfl
  · exact .inr (printDone_state r)

/-- A record whose send side has been dropped (R141): let go by an item of its own, or given up as a keyboard record. -/
def sendDropped (sent : Bool) (r : Record) : Record :=
  { r with
    send :=
      ⟨if r.send.status = .pending ∧ (sent = true ∨ r.origin = .keyboard) then .abandoned else r.send.status, r.send.cursor,
        r.send.mark && !sent⟩ }

/-- Examined where it changed or was sent. -/
def afterDrop (sent : Bool) (r : Record) : Record :=
  if r.sendDropped sent = r ∧ sent = false then r else (r.sendDropped sent).examined

theorem sendDropped_sent (r : Record) : r.sendDropped true = { r with send := { r.send.giveUp with mark := false } } := by
  obtain ⟨⟩ := r
  rename_i send _ _ _ _ _ _
  obtain ⟨st, c, m⟩ := send
  cases st <;> simp [sendDropped, Output.giveUp, Output.owed]

theorem sendDropped_kept (h : r.send.owed = false ∨ r.origin ≠ .keyboard) : r.sendDropped false = r := by
  have hcond : ¬(r.send.status = .pending ∧ (false = true ∨ r.origin = .keyboard)) := by
    rintro ⟨hp, ho⟩
    simp [Output.owed, hp] at h
    simp_all
  rw [sendDropped, if_neg hcond, Bool.not_false, Bool.and_true]

theorem sendDropped_given (ho : r.send.owed = true) (hk : r.origin = .keyboard) :
    r.sendDropped false = { r with send := r.send.giveUp } := by
  have hp : r.send.status = .pending := (owed_iff _).mp ho
  simp [sendDropped, Output.giveUp, Output.owed, hp, hk]

theorem afterDrop_state (sent : Bool) (r : Record) : (r.afterDrop sent).state = .empty ∨ (r.afterDrop sent).state = r.state := by
  unfold afterDrop
  split
  · exact .inr rfl
  · exact examined_state _

/-- An open record is only dropped, not freed. -/
theorem afterDrop_open {sent : Bool} {r : Record} (h : r.state.isClosed = false) : r.afterDrop sent = r.sendDropped sent := by
  unfold afterDrop
  split
  · rename_i heq
    exact heq.1.symm
  · exact examined_of_open h

/-- A record that waited for the LINE claim, with its punch given up where the claim goes (R103). -/
def punchLeft (w : Bool) (r : Record) : Record :=
  { r with
    punch := if w = true ∧ r.punch.status = .pending ∧ r.punchSource = .line then { r.punch with status := .abandoned } else r.punch }

/-- The state of a record that the leaving of CONNECTED closes (R52, R126). -/
def leftState (r : Record) : RecState :=
  if r.state.isOpen = true then (if r.state = .composing ∨ r.implicit = true then .complete else .cut) else r.state

end Record

namespace State

variable {s t v : State} {e x : Nat}

/-- The send items dropped and then the keyboard records' sends given up, on one record. -/
theorem sendGivenUp_sendLetGo {sent : Bool} {r : Record} (hst : r.state ≠ .empty) :
    (let t := if sent = true then sendLetGo r else r
     if t.state = .empty then t else sendGivenUp (fun r => r.origin == .keyboard) t) = r.afterDrop sent := by
  cases sent with
  | true =>
    have howed : (sendLetGo r).send.owed = false := by
      rw [sendLetGo, (Record.examined_owed _).2]
      simp [Output.giveUp, Output.owed]
      split <;> simp_all
    simp only [sendGivenUp, howed, Bool.and_false, Bool.false_eq_true, if_false, ite_self, if_true, Record.afterDrop, and_false,
      reduceCtorEq, Record.sendDropped_sent]
    rfl
  | false =>
    simp only [Bool.false_eq_true, if_false, if_neg hst, sendGivenUp, Record.afterDrop, and_true]
    by_cases hg : r.origin = .keyboard ∧ r.send.owed = true
    · obtain ⟨hk, ho⟩ := hg
      have hne : r.sendDropped false ≠ r := by
        intro heq
        have := congrArg (fun r => r.send.owed) heq
        rw [Record.sendDropped_given ho hk] at this
        simp [Output.giveUp, ho] at this
        simp [Output.owed] at this
      rw [if_neg hne, Record.sendDropped_given ho hk]
      simp [hk, ho]
    · have hsame := Record.sendDropped_kept (r := r) (by
        by_cases ho : r.send.owed = true
        · exact .inr fun hk => hg ⟨hk, ho⟩
        · exact .inl (by simpa using ho))
      rw [if_pos hsame, if_neg (by simpa using hg)]

theorem discardSends_recast (hs : s.Listed) (hr : s.ReferencesNumbered) :
    ∃ g, Recast s s.discardSends g ∧ ∀ e, s.InUse e → g e (s.record e) = (s.record e).afterDrop (s.isSent e) := by
  have h1 := dropItems_recast hs hr
  exact ⟨_, h1.trans (abandonSends_recast h1.listed _), fun e he => sendGivenUp_sendLetGo (inUse_iff.mp he).2⟩

/-! ### The blocks -/

/-- A state that is another but for its records, written so. -/
theorem eq_of_unrecorded (h : v.unrecorded = t.unrecorded) :
    v = { t with store := v.store, dir := { t.dir with queue := v.dir.queue } } :=
  calc v = { v.unrecorded with store := v.store, dir := { v.unrecorded.dir with queue := v.dir.queue } } := rfl
    _ = _ := by rw [h]; rfl

theorem store_of_unrecorded (h : v.unrecorded = t.unrecorded) :
    v.store = { t.store with free := v.store.free, dir := v.store.dir, arrival := v.store.arrival } :=
  calc v.store = { v.unrecorded.store with free := v.store.free, dir := v.store.dir, arrival := v.store.arrival } := rfl
    _ = _ := by rw [h]; rfl

/-- The deferred actions in the reply queue (R167). -/
def deferredActions (s : State) : List Deferred := s.dir.queue.map (·.deferred)

theorem queueCarries_eq (s : State) (a : Deferred) : s.queueCarries a = s.deferredActions.any (· == a) := by
  rw [queueCarries, deferredActions, List.any_map]
  rfl

theorem queueCarries_defers (s : State) (a : Deferred) : s.queueCarries a = s.defers a := rfl

@[simp] theorem examine_deferred (e : Nat) : (s.examine e).deferredActions = s.deferredActions := by
  rw [examine_eq]
  split
  · show (s.dir.queue.map (ReplyEntry.markGone e)).map _ = _
    rw [List.map_map]
    rfl
  · rfl

@[simp] theorem updRecord_deferred (e : Nat) (f : Record → Record) : (s.updRecord e f).deferredActions = s.deferredActions :=
  examine_deferred e

theorem ite_deferred {p : Prop} [Decidable p] (ht : t.deferredActions = s.deferredActions) :
    (if p then t else s).deferredActions = s.deferredActions := by split <;> simp [ht]

@[simp] theorem abandonSends_deferred (ok : Record → Bool) : (s.abandonSends ok).deferredActions = s.deferredActions :=
  foldl_frame s deferredActions _ (fun _ _ => ite_deferred (updRecord_deferred _ _)) _

@[simp] theorem abandonMarked_deferred (src : PunchSource) : (s.abandonMarked src).deferredActions = s.deferredActions :=
  foldl_frame s deferredActions _ (fun _ _ => ite_deferred (updRecord_deferred _ _)) _

@[simp] theorem dropItems_deferred (s : State) : s.dropItems.deferredActions = s.deferredActions :=
  foldl_frame _ deferredActions (fun s e => s.letGoSend e true) (fun _ _ => updRecord_deferred _ _) _

@[simp] theorem discardSends_deferred (s : State) : s.discardSends.deferredActions = s.deferredActions := by simp [discardSends]

@[simp] theorem closeComposing_deferred (s : State) : s.closeComposing.deferredActions = s.deferredActions := by
  unfold closeComposing
  split
  · rfl
  · exact updRecord_deferred _ _

@[simp] theorem closeEntries_deferred (st : List StackEntry) : (st.foldl closeEntry s).deferredActions = s.deferredActions := by
  rw [closeEntries_eq]
  exact foldl_frame _ deferredActions closeLineRecord (fun _ _ => updRecord_deferred _ _) _

@[simp] theorem teardown_deferred (s : State) : s.teardown.deferredActions = s.deferredActions := by
  rw [teardown_eq]
  exact closeEntries_deferred _

@[simp] theorem releaseAll_deferred (src : PunchSource) : (s.releaseAll src).deferredActions = s.deferredActions := by
  rw [releaseAll_eq]
  split
  · exact abandonMarked_deferred _
  · rfl

theorem queue_nil (h : s.deferredActions = []) : s.dir.queue = [] := List.map_eq_nil_iff.mp h

theorem itemsDropped_eq (b : TxBlock) :
    b.itemsDropped = { b with
      inFlight := b.inFlight.map TxFlight.orphaned, answerback := .none, reply := none, retrieval := none, keyboardText := none } := by
  rw [TxBlock.itemsDropped]
  cases b.inFlight with
  | none => rfl
  | some f => cases f <;> rfl

theorem dropItems_unrecorded (s : State) : s.dropItems.unrecorded = ({ s with tx := s.tx.itemsDropped } : State).unrecorded := by
  refine (foldl_frame _ unrecorded (fun s e => s.letGoSend e true) (fun _ _ => updRecord_unrecorded _ _ _) _).trans ?_
  rw [itemsDropped_eq]
  rfl

theorem discardSends_unrecorded (s : State) : s.discardSends.unrecorded = ({ s with tx := s.tx.itemsDropped } : State).unrecorded := by
  rw [discardSends, abandonSends_unrecorded, dropItems_unrecorded]

theorem closeEntries_unrecorded (st : List StackEntry) : (st.foldl closeEntry s).unrecorded = s.unrecorded :=
  foldl_frame s unrecorded closeEntry (fun s t => closeEntry_unrecorded s t) st

theorem teardown_unrecorded (s : State) :
    s.teardown.unrecorded = ({ s with store := { s.store with openStack := [] } } : State).unrecorded := by
  rw [teardown_eq]
  exact congrArg (fun u : State => { u with store := { u.store with openStack := [] } }) (closeEntries_unrecorded _)

theorem releaseAll_unrecorded (src : PunchSource) : (s.releaseAll src).unrecorded = (s.onPunch (·.released src)).unrecorded := by
  rw [releaseAll_eq]
  split
  · exact abandonMarked_unrecorded _ _
  · rfl


/-! ### A break -/

namespace Recast

variable {g : Nat → Record → Record}

theorem inUse (hs : s.Listed) (h : Recast s t g) (he : t.InUse e) : s.InUse e := by
  obtain ⟨hn, hne⟩ := inUse_iff.mp he
  exact inUse_iff.mpr ⟨hn, fun hempty => hne (h.empty hs hn hempty)⟩

theorem oneComposing (hs : s.Listed) (h : Recast s t g) (hone : s.OneComposing)
    (hg : ∀ e, s.InUse e → (t.record e).state = .composing → (s.record e).state = .composing) : t.OneComposing :=
  fun d e hd he hcd hce => hone d e (h.inUse hs hd) (h.inUse hs he) (hg d (h.inUse hs hd) hcd) (hg e (h.inUse hs he) hce)

end Recast

theorem StoreAndPrinterSound.listed (h : s.StoreAndPrinterSound) : s.Listed := (storeSound_iff.mp h.2.2.1).listed
theorem StoreAndPrinterSound.oneComposing (h : s.StoreAndPrinterSound) : s.OneComposing := (storeSound_iff.mp h.2.2.1).composing
theorem StoreAndPrinterSound.references (h : s.StoreAndPrinterSound) : s.ReferencesNumbered := h.2.2.2.2.2

/-- A declared break, before the deferred actions (R28, R121, R126, R141). -/
def brokenOff (s : State) : State :=
  (((s.onRx fun b => { b with state := .spacing, plane := .letters, stats := b.stats.countBreak }).discardSends.onKb fun b =>
    { b with breakTimer := some 1000 }).closeComposing).setQueue []

theorem declareBreak_eq (hst : s.rx.state = .candidate) (hc : s.conn.lineCond = .space) :
    s.declareBreak = s.brokenOff.makeDeferred (s.defers .clear) (s.defers .reset) := by
  rw [declareBreak, if_pos ⟨hst, hc⟩, breakEvent]
  have hq (a : Deferred) : (((s.onRx fun b =>
      { b with state := .spacing, plane := .letters, stats := b.stats.countBreak }).discardSends.onKb fun b =>
        { b with breakTimer := some 1000 }).closeComposing).queueCarries a = s.defers a := by
    rw [queueCarries_eq, ← queueCarries_defers, queueCarries_eq, closeComposing_deferred]
    show List.any (deferredActions (discardSends _)) _ = _
    rw [discardSends_deferred]
    rfl
  rw [emptyQueue, hq, hq]
  rfl

theorem brokenOff_unrecorded (s : State) :
    s.brokenOff.unrecorded =
      ({ s with
        rx := { s.rx with state := .spacing, plane := .letters, stats := s.rx.stats.countBreak }
        kb := { s.kb with breakTimer := some 1000, closeTimer := none }
        tx := s.tx.itemsDropped } : State).unrecorded := by
  show (closeComposing _).unrecorded = _
  rw [closeComposing_unrecorded]
  exact congrArg (fun u : State => { u with kb := { u.kb with breakTimer := some 1000, closeTimer := none } })
    (discardSends_unrecorded _)

theorem brokenOff_recast (hs : s.Listed) (hr : s.ReferencesNumbered) (hone : s.OneComposing) :
    ∃ g, Recast s s.brokenOff g ∧ ∀ e, s.InUse e →
      g e (s.record e) =
        let after : Record := { s.record e with
          state := if (s.record e).state = .composing then .complete else (s.record e).state, send := s.sendDropped e }
        if after = s.record e ∧ s.isSent e = false then s.record e else after.examined := by
  have h1 : Recast s (s.onRx fun b => { b with state := .spacing, plane := .letters, stats := b.stats.countBreak }) fun _ r => r :=
    .of_eq hs rfl rfl
  obtain ⟨g, h2, hg'⟩ := discardSends_recast h1.listed hr
  have hg (e : Nat) (he : s.InUse e) : g e (s.record e) = (s.record e).afterDrop (s.isSent e) := hg' e he
  have h3 : Recast s _ g := h1.trans (h2.after_eq (v := State.onKb _ fun b => { b with breakTimer := some 1000 }) rfl rfl)
  have hone3 : OneComposing _ := h3.oneComposing hs hone fun e he hce => by
    rw [h3.record e (numbered_of_inUse he), hg e he] at hce
    obtain h | h := Record.afterDrop_state (s.isSent e) (s.record e)
    · rw [h] at hce
      cases hce
    · exact h.symm.trans hce
  refine ⟨_, (h3.trans (closeComposing_recast h3.listed hone3)).after_eq rfl rfl, fun e he => ?_⟩
  dsimp only
  rw [hg e he]
  by_cases hst : (s.record e).state = .composing
  · have hopen : (s.record e).state.isClosed = false := by rw [hst]; rfl
    have hne : ({ s.record e with state := .complete, send := s.sendDropped e } : Record) ≠ s.record e := fun h => by
      have := congrArg Record.state h
      rw [hst] at this
      cases this
    simp only [hst, if_true, Record.afterDrop_open hopen]
    rw [if_pos (by simpa [Record.sendDropped] using hst), if_neg fun h => hne h.1]
    rfl
  · simp only [if_neg hst]
    rw [if_neg]
    · rfl
    · intro h
      obtain h' | h' := Record.afterDrop_state (s.isSent e) (s.record e)
      · rw [h'] at h
        cases h
      · exact hst (h'.symm.trans h)

theorem breakTaken (s : State) : s.BreakTaken s.brokenOff := by
  refine ⟨?_, ?_, fun hsound => ?_⟩
  · exact eq_of_unrecorded (brokenOff_unrecorded s)
  · have h := store_of_unrecorded (brokenOff_unrecorded s)
    exact h
  · obtain ⟨g, h, hg⟩ := brokenOff_recast hsound.listed hsound.references hsound.oneComposing
    refine ⟨fun e he => ?_, fun e h1 h2 => h.empty hsound.listed ⟨h1, h2⟩, h.arrival_eq hsound.listed⟩
    rw [h.record e (numbered_of_inUse he)]
    exact hg e he

/-! ### A leaving of CONNECTED -/

/-- The line's blocks at a leaving of CONNECTED for `target`, before the sends are discarded (R155). -/
def lineAborted (s : State) (target : ConnState) : State :=
  (((((s.onConn fun c => { c with state := target, selected := false, sustainedSpace := none, lineIdle := none }).onRx fun b =>
    { b with state := .watching, transitions := [], samples := [] }).abortLineAsm).setQueue []).onAccess fun a =>
      { a with lineOpen := .closed })

/-- A leaving of CONNECTED, before a station reset that was deferred (R155). -/
def lineDropped (s : State) (target : ConnState) : State :=
  ((((s.lineAborted target).discardSends.onTx fun b => { b with breakPending := false }).closeComposing).teardown).releaseAll .line

theorem leaveConnected_eq (s : State) (target : ConnState) :
    s.leaveConnected target = if s.defers .reset = true then (s.lineDropped target).stationResetEffect else s.lineDropped target :=
  rfl

theorem lineDropped_unrecorded (s : State) (target : ConnState) :
    (s.lineDropped target).unrecorded =
      ({ s with
        conn := { s.conn with state := target, selected := false, sustainedSpace := none, lineIdle := none }
        rx := { s.rx with state := .watching, transitions := [], samples := [] }
        kb := { s.kb with closeTimer := none }
        tx := { s.tx.itemsDropped with breakPending := false }
        dir := { s.dir with lineAsm := ⟨.idle, .none, []⟩ }
        access := { s.access with lineOpen := .closed }
        punch := s.punch.released .line
        store := { s.store with openStack := [] } } : State).unrecorded := by
  have hclosed : (closeComposing ((s.lineAborted target).discardSends.onTx fun b => { b with breakPending := false })).unrecorded =
      ({ s.lineAborted target with
        kb := { s.kb with closeTimer := none }, tx := { s.tx.itemsDropped with breakPending := false } } : State).unrecorded := by
    rw [closeComposing_unrecorded]
    exact congrArg (fun u : State => { u with kb := { u.kb with closeTimer := none }, tx := { u.tx with breakPending := false } })
      (discardSends_unrecorded (s.lineAborted target))
  have htorn := (teardown_unrecorded _).trans
    (congrArg (fun u : State => { u with store := { u.store with openStack := [] } }) hclosed)
  exact (releaseAll_unrecorded .line).trans (congrArg (fun u : State => { u with punch := u.punch.released .line }) htorn)

theorem released_line (b : PunchBlock) :
    b.released .line = { b with
      lineClaim := match b.lineClaim.state with
        | .holding => ⟨.draining, 0⟩
        | .waiting => ⟨.idle, 0⟩
        | .idle => b.lineClaim
        | .draining => b.lineClaim } := by
  unfold PunchBlock.released
  show (match b.lineClaim.state with
    | .idle | .draining => b
    | .holding => b.setClaim .line ⟨.draining, 0⟩
    | .waiting => b.setClaim .line ⟨.idle, 0⟩) = _
  cases b.lineClaim.state <;> rfl

/-- The punch of a record that waits for the LINE claim given up, as the store does it. -/
def punchFreed (w : Bool) (r : Record) : Record := if w = true ∧ r.state ≠ .empty then punchGivenUp .line r else r

theorem punchFreed_given {w : Bool} {r : Record} (hst : r.state ≠ .empty)
    (h : w = true ∧ r.punch.status = .pending ∧ r.punchSource = .line) : punchFreed w r = (r.punchLeft w).examined := by
  obtain ⟨hw, hp, hsrc⟩ := h
  simp [punchFreed, punchGivenUp, Record.punchLeft, Output.giveUp, Output.owed, hw, hp, hsrc, hst]

theorem punchLeft_kept {w : Bool} {r : Record} (h : ¬(w = true ∧ r.punch.status = .pending ∧ r.punchSource = .line)) :
    r.punchLeft w = r := by
  rw [Record.punchLeft, if_neg h]

theorem punchFreed_kept {w : Bool} {r : Record} (h : ¬(w = true ∧ r.punch.status = .pending ∧ r.punchSource = .line)) :
    punchFreed w r = r := by
  rw [punchFreed]
  split
  · rename_i hw
    rw [punchGivenUp, if_neg]
    simpa [Output.owed, hw.1] using h
  · rfl

/-- An examination before it makes no difference to one after it. -/
theorem punchFreed_examined {w : Bool} {r : Record} (hst : r.state ≠ .empty) :
    punchFreed w r.examined = (r.punchLeft w).examined := by
  by_cases h : w = true ∧ r.punch.status = .pending ∧ r.punchSource = .line
  · have hdone : r.examined = r.printDone := Record.examined_of_owed (.inl ((Record.owed_iff _).mpr h.2.1))
    rw [punchFreed_given (by simpa [hdone] using hst) (by simpa [hdone] using h), ← Record.examined_examined (r.punchLeft w)]
    have hout := Record.examined_outputs Record.Lets.giveUp Record.Lets.id r
    have hgive (q : Record) (hq : w = true ∧ q.punch.status = .pending ∧ q.punchSource = .line) :
        q.punchLeft w = { q with punch := q.punch.giveUp } := by
      simp [Record.punchLeft, Output.giveUp, Output.owed, hq]
    rw [Record.examined_examined, hgive r h, hgive _ (by simpa [hdone] using h)]
    exact hout
  · rw [punchLeft_kept h, punchFreed_kept]
    rintro ⟨hw, hp, hsrc⟩
    have hp' : r.punch.owed = true := by rw [← (Record.examined_owed r).1]; exact (Record.owed_iff _).mpr hp
    rw [Record.examined_of_owed (.inl hp'), Record.printDone_punchSource] at hsrc
    exact h ⟨hw, (Record.owed_iff _).mp hp', hsrc⟩

/-- A record not closed by the leaving, dropped by the send side and then let go by the punch. -/
theorem punchFreed_afterDrop {w sent : Bool} {r : Record} (hst : r.state ≠ .empty) :
    punchFreed w (r.afterDrop sent) =
      if (r.sendDropped sent).punchLeft w = r ∧ sent = false then r else ((r.sendDropped sent).punchLeft w).examined := by
  have hback (h : (r.sendDropped sent).punchLeft w = r) : r.sendDropped sent = r := by
    have hleft : ((r.sendDropped sent).punchLeft w).send = r.send := congrArg Record.send h
    have hsend : (r.sendDropped sent).send = r.send := hleft
    calc r.sendDropped sent = { r with send := (r.sendDropped sent).send } := rfl
      _ = r := by rw [hsend]
  unfold Record.afterDrop
  by_cases hd : r.sendDropped sent = r ∧ sent = false
  · obtain ⟨hd, rfl⟩ := hd
    rw [if_pos ⟨hd, rfl⟩, hd]
    by_cases h : w = true ∧ r.punch.status = .pending ∧ r.punchSource = .line
    · have hne : r.punchLeft w ≠ r := fun heq => by
        have := congrArg (fun r => r.punch.status) heq
        simp [Record.punchLeft, h] at this
      rw [punchFreed_given hst h, if_neg fun heq => hne heq.1]
    · rw [punchFreed_kept h, punchLeft_kept h, if_pos ⟨rfl, rfl⟩]
  · rw [if_neg hd, punchFreed_examined (by exact hst), if_neg]
    rintro ⟨h, hs⟩
    exact hd ⟨hback h, hs⟩

theorem isOpen_of_not_closed {st : RecState} (h : st.isClosed = false) (hne : st ≠ .empty) : st.isOpen = true := by
  cases st <;> simp_all [RecState.isClosed, RecState.isOpen]

/-- The closings of a leaving of CONNECTED on one record, of which the stack names those that stand. -/
theorem closed_afterDrop {sent stacked : Bool} {r : Record} (hst : r.state ≠ .empty)
    (hstack : stacked = true ↔ r.state = .receiving ∨ r.state = .suspended) :
    (let t := r.afterDrop sent
     let u := if t.state = .composing then ({ t with state := .complete } : Record).examined else t
     if stacked = true then lineClosed u else u) =
      if r.state.isOpen = true then ({ r.sendDropped sent with state := r.leftState } : Record).examined else r.afterDrop sent := by
  cases hc : r.state.isClosed with
  | false =>
    have hopen := isOpen_of_not_closed hc hst
    simp only [Record.afterDrop_open hc, if_pos hopen, Record.leftState]
    by_cases hcomp : r.state = .composing
    · have hs : stacked = false := by
        rw [Bool.eq_false_iff, Ne, hstack]
        simp [hcomp]
      simp [hcomp, hs, Record.sendDropped]
    · have hs : stacked = true := by
        rw [hstack]
        revert hcomp hopen
        cases r.state <;> simp [RecState.isOpen]
      simp [hcomp, hs, Record.sendDropped, lineClosed]
  | true =>
    have hopen : ¬r.state.isOpen = true := by
      obtain h | h := Record.isClosed_iff.mp hc <;> simp [h, RecState.isOpen]
    have hs : stacked = false := by
      rw [Bool.eq_false_iff, Ne, hstack]
      obtain h | h := Record.isClosed_iff.mp hc <;> simp [h]
    have hcomp : (r.afterDrop sent).state ≠ .composing := by
      obtain h | h := Record.afterDrop_state sent r <;> rw [h]
      · simp
      · obtain h | h := Record.isClosed_iff.mp hc <;> simp [h]
    simp only [hs, if_neg hopen, if_neg hcomp, Bool.false_eq_true, if_false]

theorem lineDropped_recast (target : ConnState) (hs : s.Listed) (hr : s.ReferencesNumbered) (hone : s.OneComposing)
    (hstack : s.StackSound) :
    ∃ g, Recast s (s.lineDropped target) g ∧ ∀ e, s.InUse e →
      g e (s.record e) =
        let after : Record :=
          ({ (s.record e).sendDropped (s.isSent e) with state := (s.record e).leftState } : Record).punchLeft
            (s.punch.lineClaim.state == .waiting)
        if after = s.record e ∧ s.isSent e = false then s.record e else after.examined := by
  have hst := stackSound_iff.mp hstack
  have hmem (e : Nat) (he : s.InUse e) : decide (e ∈ s.store.openStack.filterMap (·.entry)) = true ↔
      (s.record e).state = .receiving ∨ (s.record e).state = .suspended := by
    rw [decide_eq_true_iff]
    exact ⟨fun h => (hst.mem h).2, fun h => hst.named e he h⟩
  have h1 : Recast s (s.lineAborted target) fun _ r => r := .of_eq hs rfl rfl
  obtain ⟨g, h2, hg'⟩ := discardSends_recast h1.listed hr
  have hg (e : Nat) (he : s.InUse e) : g e (s.record e) = (s.record e).afterDrop (s.isSent e) := hg' e he
  have h3 : Recast s _ g := h1.trans (h2.after_eq (v := State.onTx _ fun b => { b with breakPending := false }) rfl rfl)
  have hone3 : OneComposing _ := h3.oneComposing hs hone fun e he hce => by
    rw [h3.record e (numbered_of_inUse he), hg e he] at hce
    obtain h | h := Record.afterDrop_state (s.isSent e) (s.record e)
    · rw [h] at hce
      cases hce
    · exact h.symm.trans hce
  have h4 := h3.trans (closeComposing_recast h3.listed hone3)
  have hopenStack : ((((s.lineAborted target).discardSends.onTx fun b =>
      { b with breakPending := false }).closeComposing)).store.openStack = s.store.openStack := by
    rw [closeComposing_openStack]
    have h := openStack_of_unrecorded (discardSends_unrecorded (s.lineAborted target))
    exact h
  have huse4 : ∀ e ∈ s.store.openStack.filterMap (·.entry), State.InUse _ e := fun e he => by
    have hin := hst.mem he
    have hn := numbered_of_inUse hin.1
    have hopen : (s.record e).state.isClosed = false := by obtain h | h := hin.2 <;> rw [h] <;> rfl
    have hncomp : (s.record e).state ≠ .composing := by obtain h | h := hin.2 <;> simp [h]
    refine inUse_iff.mpr ⟨hn, ?_⟩
    rw [h4.record e hn, hg e hin.1, Record.afterDrop_open hopen, if_neg (by exact hncomp)]
    exact (inUse_iff.mp hin.1).2
  have h5 := teardown_recast h4.listed (hopenStack ▸ hst.nodup) (hopenStack ▸ huse4)
  have h6 := (h4.trans h5).trans (releaseAll_recast (h4.trans h5).listed .line)
  have hwaiting : (((((s.lineAborted target).discardSends.onTx fun b =>
      { b with breakPending := false }).closeComposing).teardown).punch.claim .line).state = s.punch.lineClaim.state := by
    rw [of_unrecorded State.punch (fun _ => rfl) (teardown_unrecorded _)]
    show ((closeComposing _).punch.claim .line).state = _
    rw [of_unrecorded State.punch (fun _ => rfl) (closeComposing_unrecorded _)]
    have h := of_unrecorded State.punch (fun _ => rfl) (discardSends_unrecorded (s.lineAborted target))
    exact congrArg (fun b : PunchBlock => b.lineClaim.state) h
  refine ⟨_, h6, fun e he => ?_⟩
  have hempty := (inUse_iff.mp he).2
  rw [hwaiting, hopenStack, hg e he]
  have hclosed := closed_afterDrop (sent := s.isSent e) hempty (hmem e he)
  simp only [decide_eq_true_eq] at hclosed
  rw [hclosed]
  have hpunch (r : Record) : (if s.punch.lineClaim.state = .waiting ∧ r.state ≠ .empty then punchGivenUp .line r else r) =
      punchFreed (s.punch.lineClaim.state == .waiting) r := by simp only [punchFreed, beq_iff_eq]
  rw [hpunch]
  by_cases hopen : (s.record e).state.isOpen = true
  · have hleft : (s.record e).leftState ≠ .empty ∧ (s.record e).leftState ≠ (s.record e).state := by
      rw [Record.leftState, if_pos hopen]
      revert hopen
      split <;> cases (s.record e).state <;> simp [RecState.isOpen]
    rw [if_pos hopen, punchFreed_examined (by exact hleft.1), if_neg]
    rintro ⟨h, -⟩
    have hstate := congrArg Record.state h
    exact hleft.2 hstate
  · have hsame : ({ (s.record e).sendDropped (s.isSent e) with state := (s.record e).leftState } : Record) =
        (s.record e).sendDropped (s.isSent e) := by
      rw [Record.leftState, if_neg hopen]
      rfl
    rw [if_neg hopen, punchFreed_afterDrop hempty, hsame]

/-- A leaving of CONNECTED is taken by every block (R155). -/
theorem lineLeft (s : State) (target : ConnState) : s.LineLeft target (s.lineDropped target) := by
  have hframe := lineDropped_unrecorded s target
  rw [released_line] at hframe
  have hqueue : (s.lineDropped target).dir.queue = [] := by
    refine queue_nil ?_
    show (releaseAll _ .line).deferredActions = []
    rw [releaseAll_deferred, teardown_deferred, closeComposing_deferred]
    exact discardSends_deferred (s.lineAborted target)
  have heq := eq_of_unrecorded hframe
  rw [hqueue] at heq
  refine ⟨heq, store_of_unrecorded hframe, fun hsound => ?_⟩
  obtain ⟨g, h, hg⟩ := lineDropped_recast target hsound.listed hsound.references hsound.oneComposing hsound.2.2.2.1
  refine ⟨fun e he => ?_, fun e h1 h2 => h.empty hsound.listed ⟨h1, h2⟩, h.arrival_eq hsound.listed⟩
  rw [h.record e (numbered_of_inUse he), hg e he]
  simp only [Record.punchLeft, beq_iff_eq]
  rfl

end State
end Sys2Proof.Machine
end

section
/-! PROOF. What a station reset makes of the blocks and of every record (section 0.7 and the reset sections of Chapters 2 to 11). -/

namespace Sys2Proof.Machine
namespace State

variable {s t v : State} {e x : Nat}

/-! ### The blocks -/

/-- A notice of traffic restarts the line idle timer where it is timed (R151). -/
theorem noticeTraffic_eq (s : State) :
    s.noticeTraffic =
      { s with conn := { s.conn with lineIdle := if s.idleTimed = true then s.idleTimer else s.conn.lineIdle } } := by
  unfold noticeTraffic
  split <;> rfl

/-- The working copy replaced, with what acts at once (R73, R151). -/
theorem changeWorking_eq (s : State) (p : Profile) :
    s.changeWorking p =
      { s with
        profile := { s.profile with working := p }
        print := if p.lineLength ≠ s.working.lineLength ∨ p.formLength ≠ s.working.formLength then s.print.fitForm p else s.print
        conn := { s.conn with
          lineIdle := if p.lineIdleS ≠ s.working.lineIdleS ∧ s.idleTimed = true then secondsTimer p.lineIdleS
            else s.conn.lineIdle } } := by
  simp only [changeWorking, noticeTraffic_eq, ite_and]
  split
  · split <;> rfl
  · split <;> rfl

/-- The assemblers, the reply queue and the entry flag, which a station reset takes first (R131, R163, R167). -/
def entryReset (s : State) : State := ((s.abortLineAsm.abortLocalAsm).setQueue []).onKb fun b => { b with entryFlag := false }

/-- The blocks' own parts of a station reset before the print contexts are let go (R115, R126, R143, R160, R163, R167). -/
def sidesReset (s : State) : State := ((s.entryReset.closeComposing).resetTx).resetPunch

/-- A station reset before the working copy is reloaded (section 0.7). -/
def blocksReset (s : State) : State :=
  (((((s.sidesReset).resetPrint).onConn fun c => { c with selected := false }).teardown).onStore fun b =>
    { b with linePrint := true }).onAccess fun a => { a with lineOpen := .closed, localOpen := .closed }

theorem stationResetEffect_eq (s : State) : s.stationResetEffect = s.blocksReset.reload := rfl

/-- The punch as a station reset leaves it (R115). -/
def PunchBlock.blank (b : PunchBlock) : PunchBlock :=
  { b with
    lineClaim := ⟨.idle, 0⟩, keyboardClaim := ⟨.idle, 0⟩, copyClaim := ⟨.idle, 0⟩, copyList := [], rows := []
    codes := [], shiftAfter := none, piece := .none, current := none, framed := false, headingDone := false
    endDone := false, shift := .unknown, failedRow := none, feedRows := 0, leaderOwed := false, restart := false }

/-- A change that looks at no record keeps two states alike but for their records. -/
theorem unrecorded_congr (f : State → State) (hf : ∀ u : State, (f u).unrecorded = (f u.unrecorded).unrecorded)
    (h : t.unrecorded = s.unrecorded) : (f t).unrecorded = (f s).unrecorded := by rw [hf t, hf s, h]

section
variable (h : t.unrecorded = s.unrecorded)
include h

theorem resetTx_unrecorded :
    t.resetTx.unrecorded = ({ s with tx := { s.tx.itemsDropped with breakPending := false } } : State).unrecorded := by
  rw [resetTx, abandonSends_unrecorded]
  exact (unrecorded_congr (fun u => { u with tx := { u.tx with breakPending := false } }) (fun _ => rfl)
    (dropItems_unrecorded t)).trans
    (unrecorded_congr (fun u => { u with tx := { u.tx.itemsDropped with breakPending := false } }) (fun _ => rfl) h)

theorem resetPunch_unrecorded : t.resetPunch.unrecorded = ({ s with punch := PunchBlock.blank s.punch } : State).unrecorded :=
  (foldl_frame _ unrecorded (fun s e => s.updRecord e _) (fun _ _ => updRecord_unrecorded _ _ _) _).trans
    (unrecorded_congr (fun u => { u with punch := PunchBlock.blank u.punch }) (fun _ => rfl) h)

theorem resetPrint_unrecorded :
    t.resetPrint.unrecorded =
      ({ s with print := { s.print with
        contexts := [], ops := [], codes := [], kind := .none, held := false, failedOp := none } } : State).unrecorded :=
  (foldl_frame _ unrecorded (fun s e => s.markPrint e false) (fun _ _ => markPrint_unrecorded _ _ _) _).trans
    (unrecorded_congr (fun u => { u with print := { u.print with
      contexts := [], ops := [], codes := [], kind := .none, held := false, failedOp := none } }) (fun _ => rfl) h)

/-- The stack torn down and selection lost, with the line print switch on and the sources closed (R52, R66, R159, R186). -/
theorem closedDown_unrecorded :
    ((((t.onConn fun c => { c with selected := false }).teardown).onStore fun b => { b with linePrint := true }).onAccess fun a =>
      { a with lineOpen := .closed, localOpen := .closed }).unrecorded =
      ({ s with
        conn := { s.conn with selected := false }
        store := { s.store with openStack := [], linePrint := true }
        access := { s.access with lineOpen := .closed, localOpen := .closed } } : State).unrecorded := by
  have hconn : (t.onConn fun c => { c with selected := false }).unrecorded = (s.onConn fun c => { c with selected := false }).unrecorded :=
    unrecorded_congr (fun u => u.onConn fun c => { c with selected := false }) (fun _ => rfl) h
  have htorn := (teardown_unrecorded _).trans
    (unrecorded_congr (fun u => { u with store := { u.store with openStack := [] } }) (fun _ => rfl) hconn)
  exact unrecorded_congr (fun u => (u.onStore fun b => { b with linePrint := true }).onAccess fun a =>
    { a with lineOpen := .closed, localOpen := .closed }) (fun _ => rfl) htorn

end

theorem sidesReset_unrecorded (s : State) :
    s.sidesReset.unrecorded =
      ({ s with
        dir := { s.dir with lineAsm := .start, localAsm := .start, queue := [] }
        kb := { s.kb with entryFlag := false, closeTimer := none }
        tx := { s.tx.itemsDropped with breakPending := false }
        punch := PunchBlock.blank s.punch } : State).unrecorded := by
  rw [sidesReset, resetPunch_unrecorded (resetTx_unrecorded (closeComposing_unrecorded s.entryReset))]
  rfl

theorem blocksReset_unrecorded (s : State) :
    s.blocksReset.unrecorded =
      ({ s with
        dir := { s.dir with lineAsm := .start, localAsm := .start, queue := [] }
        kb := { s.kb with entryFlag := false, closeTimer := none }
        tx := { s.tx.itemsDropped with breakPending := false }
        punch := PunchBlock.blank s.punch
        print := { s.print with contexts := [], ops := [], codes := [], kind := .none, held := false, failedOp := none }
        conn := { s.conn with selected := false }
        store := { s.store with openStack := [], linePrint := true }
        access := { s.access with lineOpen := .closed, localOpen := .closed } } : State).unrecorded := by
  rw [blocksReset, closedDown_unrecorded (resetPrint_unrecorded (sidesReset_unrecorded s))]

@[simp] theorem resetTx_deferred (s : State) : s.resetTx.deferredActions = s.deferredActions := by
  rw [resetTx, abandonSends_deferred]
  exact dropItems_deferred s

@[simp] theorem resetPunch_deferred (s : State) : s.resetPunch.deferredActions = s.deferredActions :=
  foldl_frame _ deferredActions (fun s e => s.updRecord e _) (fun _ _ => updRecord_deferred _ _) _

@[simp] theorem resetPrint_deferred (s : State) : s.resetPrint.deferredActions = s.deferredActions :=
  foldl_frame _ deferredActions (fun s e => s.markPrint e false) (fun _ _ => updRecord_deferred _ _) _

theorem sidesReset_deferred (s : State) : s.sidesReset.deferredActions = [] := by
  show (resetPunch _).deferredActions = []
  rw [resetPunch_deferred, resetTx_deferred, closeComposing_deferred]
  rfl

@[simp] theorem onAccess_deferred (f : AccessBlock → AccessBlock) : (s.onAccess f).deferredActions = s.deferredActions := rfl
@[simp] theorem onStore_deferred (f : StoreBlock → StoreBlock) : (s.onStore f).deferredActions = s.deferredActions := rfl
@[simp] theorem onConn_deferred (f : ConnBlock → ConnBlock) : (s.onConn f).deferredActions = s.deferredActions := rfl

theorem blocksReset_queue (s : State) : s.blocksReset.dir.queue = [] := by
  refine queue_nil ?_
  rw [blocksReset, onAccess_deferred, onStore_deferred, teardown_deferred, onConn_deferred, resetPrint_deferred, sidesReset_deferred]

/-- The blocks after a station reset before the reload, with the records apart. -/
theorem blocksReset_eq (s : State) :
    s.blocksReset =
      { s with
        dir := { s.dir with lineAsm := ⟨.idle, .none, []⟩, localAsm := ⟨.idle, .none, []⟩, queue := [] }
        kb := { s.kb with entryFlag := false, closeTimer := none }
        tx := { s.tx.itemsDropped with breakPending := false }
        punch := PunchBlock.blank s.punch
        print := { s.print with contexts := [], ops := [], codes := [], kind := .none, held := false, failedOp := none }
        conn := { s.conn with selected := false }
        store := s.blocksReset.store
        access := { s.access with lineOpen := .closed, localOpen := .closed } } := by
  have h := eq_of_unrecorded (blocksReset_unrecorded s)
  rwa [blocksReset_queue] at h

/-- A reload (R191), with what acts at once. -/
theorem reload_eq (s : State) :
    s.reload =
      { s with
        profile := { s.profile with working := s.profile.image.loaded, fault := !s.profile.image.passes }
        print :=
          if s.profile.image.loaded.lineLength ≠ s.working.lineLength ∨ s.profile.image.loaded.formLength ≠ s.working.formLength
          then s.print.fitForm s.profile.image.loaded else s.print
        conn := { s.conn with
          lineIdle :=
            if s.profile.image.loaded.lineIdleS ≠ s.working.lineIdleS ∧ s.idleTimed = true
            then secondsTimer s.profile.image.loaded.lineIdleS else s.conn.lineIdle } } := by
  rw [reload, changeWorking_eq]
  rfl

/-! ### The records -/

/-- A record is `a`, or `a` examined. -/
def Seen (a t : Record) : Prop := t = a ∨ t = a.examined

/-- The record of the punch let go by a station reset (R115). -/
def punchLetGone (r : Record) : Record := ({ r with punch := { r.punch.giveUp with mark := false } } : Record).examined

namespace Seen

variable {a t : Record}

theorem outputs {g h : Output → Output} (hs : Seen a t) (hg : Record.Lets g) (hh : Record.Lets h) :
    ({ t with punch := g t.punch, send := h t.send } : Record).examined =
      ({ a with punch := g a.punch, send := h a.send } : Record).examined := by
  obtain rfl | rfl := hs
  · rfl
  · exact Record.examined_outputs hg hh a

theorem closed (hs : Seen a t) :
    Seen { a with state := if a.state = .composing then .complete else a.state }
      (if t.state = .composing then ({ t with state := .complete } : Record).examined else t) := by
  by_cases hc : a.state = .composing
  · have ht : t = a := by
      obtain rfl | rfl := hs
      · rfl
      · exact Record.examined_of_open (by rw [hc]; rfl)
    subst ht
    simp only [if_pos hc]
    exact .inr rfl
  · have ht : t.state ≠ .composing := by
      obtain rfl | rfl := hs
      · exact hc
      · obtain h | h := Record.examined_state a <;> rw [h]
        · simp
        · exact hc
    simp only [if_neg hc, if_neg ht]
    exact hs

theorem letGo (hs : Seen a t) : Seen { a with send := { a.send.giveUp with mark := false } } (sendLetGo t) :=
  .inr (hs.outputs Record.Lets.id (Record.Lets.letGo true))

theorem giveUp_of_not_owed {o : Output} (h : o.owed = false) : o.giveUp = o := by simp [Output.giveUp, h]

/-- An owed record is not freed. -/
theorem state_ne_empty (hs : Seen a t) (ha : a.state ≠ .empty) (ho : a.punch.owed = true ∨ a.send.owed = true) : t.state ≠ .empty := by
  obtain rfl | rfl := hs
  · exact ha
  · rw [Record.examined_of_owed ho, Record.printDone_state]
    exact ha

theorem sendGivenUp (hs : Seen a t) (ha : a.state ≠ .empty) :
    Seen { a with send := a.send.giveUp } (if t.state = .empty then t else State.sendGivenUp (fun _ => true) t) := by
  have howed : t.send.owed = a.send.owed := by
    obtain rfl | rfl := hs
    · rfl
    · exact (Record.examined_owed a).2
  cases ho : a.send.owed with
  | false =>
    rw [ho] at howed
    simp only [State.sendGivenUp, howed, Bool.and_false, Bool.false_eq_true, if_false, ite_self, giveUp_of_not_owed ho]
    exact hs
  | true =>
    rw [ho] at howed
    rw [if_neg (hs.state_ne_empty ha (.inr ho)), State.sendGivenUp, howed]
    exact .inr (hs.outputs Record.Lets.id Record.Lets.giveUp)

theorem punchLetGo (hs : Seen a t) (ha : a.state ≠ .empty) :
    (if t.state = .empty then t else punchLetGone t) =
      ({ a with punch := { a.punch.giveUp with mark := false } } : Record).examined := by
  have hout := hs.outputs (Record.Lets.letGo true) Record.Lets.id
  simp only [if_true] at hout
  split
  · rename_i hst
    have hne : t ≠ a := fun h => ha (h ▸ hst)
    have hex : t = a.examined := hs.resolve_left hne
    have hempty : a.examined = .empty := by
      rw [hex] at hst
      rw [Record.examined_eq] at hst ⊢
      split at hst
      · rw [if_pos ‹_›]
      · rw [Record.printDone_state] at hst
        exact absurd hst ha
    rw [← hout, hex, hempty]
    rfl
  · exact hout

end Seen

/-- A record as a station reset leaves it before the store examines it: closed, given up by the punch and the send side, and let go by
the print contexts, the punch and the send items (R52, R95, R115, R126, R143). -/
def Record.asReset (printed sent : Bool) (r : Record) : Record :=
  { r with
    state := r.leftState
    print := { r.print with mark := r.print.mark && !printed }
    punch := { r.punch.giveUp with mark := false }
    send := { r.send.giveUp with mark := r.send.mark && !sent } }

theorem resetPunch_recast (hs : s.Listed) :
    Recast s s.resetPunch fun _ r => if r.state = .empty then r else punchLetGone r := by
  have h1 : Recast s (s.onPunch PunchBlock.blank) fun _ r => r := .of_eq hs rfl rfl
  have h2 := Recast.foldl s.store.arrival h1.listed hs.nodup (fun e he => (h1.listed.arrival e).mp he) fun _ _ hu he =>
    .updRecord hu (numbered_of_inUse he) (fun r => { r with punch := { r.punch.giveUp with mark := false } }) Iff.rfl
  refine (h1.trans h2).congr fun e he => ?_
  by_cases hst : (s.record e).state = .empty
  · rw [if_neg (by simp [arrival_mem_iff hs he, hst]), if_pos hst]
  · rw [if_pos ((arrival_mem_iff hs he).mpr hst), if_neg hst]
    rfl

/-- The print mark of a record cleared, and the record examined (R95). -/
def unmarked (r : Record) : Record := ({ r with print := { r.print with mark := false } } : Record).examined

theorem resetPrint_recast (hs : s.Listed) (hctx : ∀ c ∈ s.print.contexts, Numbered c.entry) :
    Recast s s.resetPrint fun e r => if e ∈ s.print.contexts.map (·.entry) then unmarked r else r := by
  have h1 : Recast s (s.onPrint fun b =>
      { b with contexts := [], ops := [], codes := [], kind := .none, held := false, failedOp := none }) fun _ r => r :=
    .of_eq hs rfl rfl
  refine h1.trans (Recast.foldl_idem _ h1.listed (fun e he => ?_) (fun r => ?_) fun u e hu he => .updRecord hu he _ Iff.rfl)
  · obtain ⟨c, hc, rfl⟩ := List.mem_map.mp he
    exact hctx c hc
  · exact Record.examined_unmark _

/-- A record as the keyboard, the send side, the punch and the printer let it go at a station reset. -/
def Record.letGone (printed sent : Bool) (r : Record) : Record :=
  { r with
    state := if r.state = .composing then .complete else r.state
    print := { r.print with mark := r.print.mark && !printed }
    punch := { r.punch.giveUp with mark := false }
    send := { r.send.giveUp with mark := r.send.mark && !sent } }

/-- These parts of a station reset on one record, in their order. -/
theorem reset_sides {printed sent : Bool} {r : Record} (hst : r.state ≠ .empty) :
    (let t1 := if r.state = .composing then ({ r with state := .complete } : Record).examined else r
     let t2 := if sent = true then sendLetGo t1 else t1
     let t3 := if t2.state = .empty then t2 else sendGivenUp (fun _ => true) t2
     let t4 := if t3.state = .empty then t3 else punchLetGone t3
     if printed = true then unmarked t4 else t4) = (Record.letGone printed sent r).examined := by
  extract_lets t1 t2 t3 t4
  have ha : (if r.state = .composing then RecState.complete else r.state) ≠ .empty := by
    split
    · simp
    · exact hst
  have h1 : Seen { r with state := if r.state = .composing then .complete else r.state } t1 := Seen.closed (.inl rfl)
  have h2 : Seen { r with
      state := if r.state = .composing then .complete else r.state
      send := if sent = true then { r.send.giveUp with mark := false } else r.send } t2 := by
    cases sent
    · exact h1
    · exact h1.letGo
  have hsend : (if sent = true then { r.send.giveUp with mark := false } else r.send : Output).giveUp =
      { r.send.giveUp with mark := r.send.mark && !sent } := by
    obtain ⟨st, c, m⟩ := r.send
    cases sent <;> cases st <;> simp [Output.giveUp, Output.owed]
  have h3 := h2.sendGivenUp ha
  have h4 : t4 = Record.examined { r with
      state := if r.state = .composing then .complete else r.state
      punch := { r.punch.giveUp with mark := false }
      send := { r.send.giveUp with mark := r.send.mark && !sent } } := by
    rw [← hsend]
    exact h3.punchLetGo ha
  cases printed
  · simp only [Record.letGone, Bool.not_false, Bool.and_true]
    exact h4
  · show unmarked t4 = _
    rw [h4, unmarked, Record.examined_unmark]
    simp [Record.letGone]

/-- The closing by the stack after them. -/
theorem lineClosed_letGone {printed sent stacked : Bool} {r : Record}
    (hstack : stacked = true ↔ r.state = .receiving ∨ r.state = .suspended) :
    (if stacked = true then lineClosed (Record.letGone printed sent r).examined else (Record.letGone printed sent r).examined) =
      (Record.asReset printed sent r).examined := by
  cases hs : stacked with
  | true =>
    have hopen := hstack.mp hs
    have hcomp : r.state ≠ .composing := by obtain h | h := hopen <;> simp [h]
    have hleft : r.leftState = if r.implicit = true then .complete else .cut := by
      rw [Record.leftState, if_pos (Record.isOpen_iff.mpr (by tauto))]
      simp [hcomp]
    rw [if_pos rfl, Record.examined_of_open (by obtain h | h := hopen <;> simp [Record.letGone, h, RecState.isClosed]), Record.asReset,
      hleft, lineClosed]
    rfl
  | false =>
    have hclosed : r.leftState = if r.state = .composing then .complete else r.state := by
      have hno : ¬(r.state = .receiving ∨ r.state = .suspended) := fun h => by simp [hstack.mpr h] at hs
      rw [Record.leftState]
      revert hno
      cases r.state <;> simp [RecState.isOpen]
    rw [if_neg Bool.false_ne_true, Record.asReset, hclosed]
    rfl

/-- Entry `e` has a print context (R81). -/
def isPrinted (s : State) (e : Nat) : Bool := (s.print.contexts.map (·.entry)).contains e

theorem isPrinted_iff (s : State) (e : Nat) : e ∈ s.print.contexts.map (·.entry) ↔ s.isPrinted e = true := by
  rw [isPrinted, List.contains_iff_mem]

theorem ReferencesNumbered.of_eq (hr : s.ReferencesNumbered) (htx : t.tx = s.tx) (hp : t.punch = s.punch) : t.ReferencesNumbered := by
  unfold ReferencesNumbered at hr ⊢
  rwa [htx, hp]

theorem isSent_of_tx (htx : t.tx = s.tx) (e : Nat) : t.isSent e = s.isSent e := by rw [isSent, isSent, htx]

theorem resetTx_recast (hs : s.Listed) (hr : s.ReferencesNumbered) :
    Recast s s.resetTx fun e r =>
      let u := if s.isSent e = true then sendLetGo r else r
      if u.state = .empty then u else sendGivenUp (fun _ => true) u := by
  have h1 := (dropItems_recast hs hr).after_eq (v := s.dropItems.onTx fun b => { b with breakPending := false }) rfl rfl
  exact h1.trans (abandonSends_recast h1.listed _)

/-- What looks at no record, from a state that is another but for its records. -/
theorem eq_of_frame {α : Type} (f : State → α) {a : α} (hf : ∀ u : State, f u.unrecorded = f u) (h : t.unrecorded = v.unrecorded)
    (hv : f v = a) : f t = a := (of_unrecorded f hf h).trans hv

/-- What a closing of the keyboard record leaves alone. -/
theorem closeComposing_same (s : State) :
    s.closeComposing.tx = s.tx ∧ s.closeComposing.print = s.print ∧ s.closeComposing.punch = s.punch :=
  ⟨eq_of_frame State.tx (fun _ => rfl) (closeComposing_unrecorded s) rfl,
    eq_of_frame State.print (fun _ => rfl) (closeComposing_unrecorded s) rfl,
    eq_of_frame State.punch (fun _ => rfl) (closeComposing_unrecorded s) rfl⟩

/-- The sides of a station reset on one record: the keyboard, the send side, the punch. -/
theorem sidesReset_recast (hs : s.Listed) (hr : s.ReferencesNumbered) (hone : s.OneComposing) :
    Recast s s.sidesReset fun e r =>
      let t1 := if r.state = .composing then ({ r with state := .complete } : Record).examined else r
      let t2 := if s.isSent e = true then sendLetGo t1 else t1
      let t3 := if t2.state = .empty then t2 else sendGivenUp (fun _ => true) t2
      if t3.state = .empty then t3 else punchLetGone t3 := by
  have h0 : Recast s s.entryReset fun _ r => r := .of_eq hs rfl rfl
  have h1 := h0.trans (closeComposing_recast h0.listed hone)
  obtain ⟨htx, -, hpunch⟩ := closeComposing_same s.entryReset
  have h2 := h1.trans (resetTx_recast h1.listed (hr.of_eq (t := s.entryReset.closeComposing) htx hpunch))
  refine (h2.trans (resetPunch_recast h2.listed)).congr fun e _ => ?_
  simp only [isSent_of_tx (s := s) (t := s.entryReset.closeComposing) htx e]

theorem Recast.onConn {g : Nat → Record → Record} (h : Recast s t g) (f : ConnBlock → ConnBlock) : Recast s (t.onConn f) g :=
  h.after_eq rfl rfl

/-- The last parts of a station reset at the blocks, after the stack is torn down, change no record. -/
theorem Recast.closedDown {g : Nat → Record → Record} (h : Recast s t g) :
    Recast s ((t.onStore fun b => { b with linePrint := true }).onAccess fun a =>
      { a with lineOpen := .closed, localOpen := .closed }) g := h.after_eq rfl rfl

theorem blocksReset_recast (hsound : s.StoreAndPrinterSound) :
    ∃ g, Recast s s.blocksReset g ∧ ∀ e, s.InUse e →
      g e (s.record e) = (Record.asReset (s.isPrinted e) (s.isSent e) (s.record e)).examined := by
  have hs := hsound.listed
  obtain ⟨-, -, -, hstack, hctx, hrefs⟩ := id hsound
  have hst := stackSound_iff.mp hstack
  have hmem (e : Nat) (he : s.InUse e) : decide (e ∈ s.store.openStack.filterMap (·.entry)) = true ↔
      (s.record e).state = .receiving ∨ (s.record e).state = .suspended := by
    rw [decide_eq_true_iff]
    exact ⟨fun h => (hst.mem h).2, fun h => hst.named e he h⟩
  have h1 := sidesReset_recast hs hrefs hsound.oneComposing
  have hprint1 : s.sidesReset.print = s.print := eq_of_frame State.print (fun _ => rfl) (sidesReset_unrecorded s) rfl
  have hstack1 : s.sidesReset.store.openStack = s.store.openStack := eq_of_frame (·.store.openStack) (fun _ => rfl) (sidesReset_unrecorded s) rfl
  have h2 := h1.trans (resetPrint_recast h1.listed (by
    rw [hprint1]
    exact fun c hc => numbered_of_inUse (hctx.2.2.1 c hc).1))
  have h3 := h2.onConn fun c => { c with selected := false }
  have hstack3 : (s.sidesReset.resetPrint.onConn fun c => { c with selected := false }).store.openStack = s.store.openStack :=
    (eq_of_frame (·.store.openStack) (fun _ => rfl) (resetPrint_unrecorded (s := s.sidesReset) rfl) rfl).trans hstack1
  have huse : ∀ e ∈ s.store.openStack.filterMap (·.entry),
      (s.sidesReset.resetPrint.onConn fun c => { c with selected := false }).InUse e := fun e he => by
    have hin := hst.mem he
    have hn := numbered_of_inUse hin.1
    have hside := reset_sides (printed := s.isPrinted e) (sent := s.isSent e) (inUse_iff.mp hin.1).2
    have hopen : (Record.letGone (s.isPrinted e) (s.isSent e) (s.record e)).state = (s.record e).state := by
      obtain h | h := hin.2 <;> simp [Record.letGone, h]
    refine inUse_iff.mpr ⟨hn, ?_⟩
    rw [h3.record e hn, hprint1]
    simp only [isPrinted_iff]
    refine fun hempty => (inUse_iff.mp hin.1).2 ?_
    rw [← hopen, ← hempty, hside, Record.examined_of_open (by rw [hopen]; obtain h | h := hin.2 <;> rw [h] <;> rfl)]
  have h4 := h3.trans (teardown_recast h3.listed (by rw [hstack3]; exact hst.nodup) (by rw [hstack3]; exact huse))
  refine ⟨_, h4.closedDown, fun e he => ?_⟩
  rw [hstack3, hprint1]
  have hside := reset_sides (printed := s.isPrinted e) (sent := s.isSent e) (inUse_iff.mp he).2
  have hstack := lineClosed_letGone (printed := s.isPrinted e) (sent := s.isSent e) (hmem e he)
  simp only [decide_eq_true_eq] at hstack
  simp only [isPrinted_iff]
  rw [hside]
  exact hstack

/-- The working copy that a station reset loads (R191). -/
abbrev reloaded (s : State) : Profile := s.profile.image.loaded

/-- The blocks after a station reset, with the records apart. -/
theorem stationResetEffect_blocks (s : State) :
    s.stationResetEffect =
      { s with
        dir := { s.dir with lineAsm := ⟨.idle, .none, []⟩, localAsm := ⟨.idle, .none, []⟩, queue := [] }
        kb := { s.kb with entryFlag := false, closeTimer := none }
        tx := { s.tx.itemsDropped with breakPending := false }
        punch := PunchBlock.blank s.punch
        print :=
          let b : PrintBlock := { s.print with
            contexts := [], ops := [], codes := [], kind := .none, held := false, failedOp := none }
          if s.reloaded.lineLength ≠ s.working.lineLength ∨ s.reloaded.formLength ≠ s.working.formLength
          then b.fitForm s.reloaded else b
        conn := { s.conn with
          selected := false
          lineIdle := if s.reloaded.lineIdleS ≠ s.working.lineIdleS ∧ s.idleTimed = true then secondsTimer s.reloaded.lineIdleS
            else s.conn.lineIdle }
        store := s.blocksReset.store
        access := { s.access with lineOpen := .closed, localOpen := .closed }
        profile := { s.profile with working := s.reloaded, fault := !s.profile.image.passes } } := by
  rw [stationResetEffect_eq, reload_eq]
  have h := blocksReset_eq s
  generalize s.blocksReset = b at h ⊢
  generalize b.store = st at h ⊢
  subst h
  rfl

theorem loaded_of_passes (h : s.profile.image.passes = true) : s.reloaded = s.profile.image.parts := by rw [reloaded, Image.loaded, if_pos h]
theorem loaded_of_fails (h : s.profile.image.passes = false) : s.reloaded = .factory := by rw [reloaded, Image.loaded, h, if_neg Bool.false_ne_true]

theorem idleTimed_iff (s : State) : s.idleTimed = true ↔ s.conn.state = .connected ∧ s.conn.lineType = .switched := by
  simp [idleTimed, isConnected]

theorem blocksReset_store (s : State) :
    s.blocksReset.store = { s.store with
      free := s.blocksReset.store.free, dir := s.blocksReset.store.dir, arrival := s.blocksReset.store.arrival
      openStack := [], linePrint := true } := store_of_unrecorded (blocksReset_unrecorded s)

theorem stationResetEffect_record (hsound : s.StoreAndPrinterSound) (he : s.InUse e) :
    s.stationResetEffect.record e = (Record.asReset (s.isPrinted e) (s.isSent e) (s.record e)).examined := by
  obtain ⟨g, h, hg⟩ := blocksReset_recast hsound
  rw [stationResetEffect_blocks, ← hg e he]
  exact h.record e (numbered_of_inUse he)

end State

open State

/-- What the store makes of a record closed by a station reset: DONE where nothing is left to print, and freed where it is not retained
and still in nobody's hands. -/
theorem Record.examined_of_reset {r : Record} (hst : r.state.isClosed = true) (hp : r.punch.status ≠ .pending)
    (hpm : r.punch.mark = false) (hs : r.send.status ≠ .pending) (hc : r.print.cursor ≤ r.length) :
    r.examined =
      let r' : Record := { r with print :=
        ⟨if r.print.status = .pending ∧ ¬(r.print.cursor < r.length ∨ r.print.mark = true) then .done else r.print.status,
          r.print.cursor, r.print.mark⟩ }
      if r'.print.status ≠ .pending ∧ r.retained = false ∧ r.print.mark = false ∧ r.send.mark = false then .empty else r' := by
  have hout : r.printedOut = true ↔ r.print.status = .pending ∧ ¬(r.print.cursor < r.length ∨ r.print.mark = true) := by
    rw [Record.printedOut_iff]
    simp only [hst, true_and, not_or, Bool.not_eq_true]
    constructor
    · rintro ⟨h1, h2, h3⟩
      exact ⟨h1, by omega, h2⟩
    · rintro ⟨h1, h2, h3⟩
      exact ⟨h1, h3, by omega⟩
  have hdone : r.printDone = { r with print :=
      ⟨if r.print.status = .pending ∧ ¬(r.print.cursor < r.length ∨ r.print.mark = true) then .done else r.print.status,
        r.print.cursor, r.print.mark⟩ } := by
    simp only [Record.printDone, hout]
    split <;> rfl
  rw [Record.examined_eq, hdone]
  refine if_congr ?_ rfl rfl
  rw [Record.disposable_iff]
  simp only [hst, hp, hpm, hs, ne_eq, not_false_eq_true, true_and]

/-- A record as a station reset leaves it, written out. -/
theorem Record.asReset_eq {printed sent : Bool} {r : Record} (hst : r.state ≠ .empty) :
    Record.asReset printed sent r =
      { r with
        state := if r.state.isClosed = true then r.state else if r.state = .composing ∨ r.implicit = true then .complete else .cut
        print := ⟨r.print.status, r.print.cursor, r.print.mark && !printed⟩
        punch := ⟨if r.punch.status = .pending then .abandoned else r.punch.status, r.punch.cursor, false⟩
        send := ⟨if r.send.status = .pending then .abandoned else r.send.status, r.send.cursor, r.send.mark && !sent⟩ } := by
  have hstate : r.leftState =
      if r.state.isClosed = true then r.state else if r.state = .composing ∨ r.implicit = true then .complete else .cut := by
    rw [Record.leftState]
    revert hst
    cases r.state <;> simp [RecState.isOpen, RecState.isClosed]
  have hgive (o : Output) (m : Bool) : ({ o.giveUp with mark := m } : Output) =
      ⟨if o.status = .pending then .abandoned else o.status, o.cursor, m⟩ := by
    obtain ⟨st, c, k⟩ := o
    cases st <;> rfl
  rw [Record.asReset, hstate, hgive, hgive]

/-- Settles O52: the blocks by what each does of itself, and a record by going through these in their order. -/
theorem stationResetSetsAndKeeps : Obligations.StationResetSetsAndKeeps := by
  refine ⟨fun s e hsound he => ?_, fun s => ?_⟩
  · have hst := (inUse_iff.mp he).2
    have hcursor := hsound.2.2.2.2.1.2.2.2.1 e he.1 he.2.1
    rw [stationResetEffect_record hsound he, Record.asReset_eq hst, Record.examined_of_reset]
    · have hsent : (!(s.tx.retrieval.bind (·.entry) == some e) && !(s.tx.keyboardText == some e)) = !s.isSent e := by
        rw [isSent, Bool.not_or]
      simp only [Bool.and_assoc, hsent]
      rfl
    · dsimp only
      split
      · assumption
      · split <;> rfl
    · dsimp only
      split <;> simp_all
    · rfl
    · dsimp only
      split <;> simp_all
    · exact hcursor
  · rw [stationResetEffect_blocks]
    refine ⟨blocksReset_store s, ?_, rfl, rfl, rfl, ?_, rfl, rfl, fun hp => ?_, fun hp => ?_, rfl, rfl, rfl, rfl, rfl⟩
    · show (if s.reloaded.lineLength ≠ s.working.lineLength ∨ s.reloaded.formLength ≠ s.working.formLength then _ else _) =
        { s.print with
          contexts := [], ops := [], codes := [], kind := .none, held := false, failedOp := none
          column := if s.reloaded.lineLength ≠ s.working.lineLength ∨ s.reloaded.formLength ≠ s.working.formLength then
            min s.print.column (s.reloaded.lineLength + 1) else s.print.column
          pageLine := if s.reloaded.lineLength ≠ s.working.lineLength ∨ s.reloaded.formLength ≠ s.working.formLength then
            (if s.reloaded.formLength = 0 then 1 else min s.print.pageLine s.reloaded.formLength) else s.print.pageLine }
      by_cases h : s.reloaded.lineLength ≠ s.working.lineLength ∨ s.reloaded.formLength ≠ s.working.formLength
      · simp only [if_pos h]
        rfl
      · simp only [if_neg h]
    · simp only [idleTimed_iff, secondsTimer]
      rfl
    · simp only [loaded_of_passes hp, hp]
      rfl
    · simp only [loaded_of_fails hp, hp]
      rfl

end Sys2Proof.Machine
end

section
/-! PROOF. Breaks, the leaving of CONNECTED and the connection's keys, at every block (sections 2.7, 6.5, 8.5, 8.7). -/

namespace Sys2Proof.Machine
namespace State

variable {s t v w : State} {target : ConnState}

/-! ### Leaving CONNECTED -/

theorem lineDropped_blocks (s : State) (target : ConnState) :
    s.lineDropped target =
      { s with
        conn := { s.conn with state := target, selected := false, sustainedSpace := none, lineIdle := none }
        rx := { s.rx with state := .watching, transitions := [], samples := [] }
        kb := { s.kb with closeTimer := none }
        tx := { s.tx.itemsDropped with breakPending := false }
        dir := { s.dir with lineAsm := ⟨.idle, .none, []⟩, queue := [] }
        access := { s.access with lineOpen := .closed }
        punch := { s.punch with lineClaim := match s.punch.lineClaim.state with
            | .holding => ⟨.draining, 0⟩
            | .waiting => ⟨.idle, 0⟩
            | .idle => s.punch.lineClaim
            | .draining => s.punch.lineClaim }
        store := (s.lineDropped target).store } := (lineLeft s target).1

/-- What every block makes of a leaving of CONNECTED (R155), whether or not a station reset follows it. -/
structure Left (s : State) (target : ConnState) (w : State) : Prop where
  conn : w.conn = { s.conn with state := target, selected := false, sustainedSpace := none, lineIdle := none }
  rx : w.rx = { s.rx with state := .watching, transitions := [], samples := [] }
  stack : w.store.openStack = []
  cells : w.store.cells = s.store.cells
  asm : w.dir.lineAsm = ⟨.idle, .none, []⟩
  queue : w.dir.queue = []
  lineOpen : w.access.lineOpen = .closed
  attempts : w.access.attempts = s.access.attempts
  items : w.tx.answerback = .none ∧ w.tx.reply = none ∧ w.tx.retrieval = none ∧ w.tx.keyboardText = none ∧ w.tx.breakPending = false
  kb : w.kb.closeTimer = none ∧ w.kb.keys = s.kb.keys ∧ w.kb.mode = s.kb.mode ∧ w.kb.breakTimer = s.kb.breakTimer
  claim : w.punch.lineClaim.state ≠ .holding ∧ w.punch.lineClaim.state ≠ .waiting
  motor : w.motor = s.motor

theorem left_lineDropped (s : State) (target : ConnState) : s.Left target (s.lineDropped target) := by
  have h := lineDropped_blocks s target
  have hstore := (lineLeft s target).2.1
  generalize s.lineDropped target = v at h hstore ⊢
  generalize v.store = st at h hstore
  subst h
  refine ⟨rfl, rfl, by rw [hstore], by rw [hstore], rfl, rfl, rfl, rfl, ⟨rfl, rfl, rfl, rfl, rfl⟩, ⟨rfl, rfl, rfl, rfl⟩, ?_, rfl⟩
  dsimp only
  cases h : s.punch.lineClaim.state <;> simp [h]

/-- A station reset after it leaves the same. -/
theorem Left.stationReset (h : s.Left target v) (ht : target ≠ .connected) : s.Left target v.stationResetEffect := by
  have hidle : v.idleTimed = false := by simp [idleTimed, isConnected, h.conn, ht]
  rw [stationResetEffect_blocks]
  refine ⟨?_, h.rx, ?_, ?_, rfl, rfl, rfl, h.attempts, ⟨rfl, rfl, rfl, rfl, rfl⟩, ⟨rfl, h.kb.2⟩, ⟨nofun, nofun⟩, h.motor⟩
  · simp [hidle, h.conn]
  · rw [blocksReset_store]
  · rw [blocksReset_store]
    exact h.cells

theorem left_leaveConnected (s : State) (ht : target ≠ .connected) : s.Left target (s.leaveConnected target) := by
  rw [leaveConnected_eq]
  split
  · exact (left_lineDropped s target).stationReset ht
  · exact left_lineDropped s target

/-- With no station reset deferred, what a leaving of CONNECTED leaves alone. -/
theorem leaveConnected_same (h : s.defers .reset = false) :
    (s.leaveConnected target).print = s.print ∧ (s.leaveConnected target).profile = s.profile ∧
      (s.leaveConnected target).access.localOpen = s.access.localOpen ∧
      (s.leaveConnected target).punch.keyboardClaim = s.punch.keyboardClaim := by
  rw [leaveConnected_eq, h, if_neg Bool.false_ne_true, lineDropped_blocks]
  exact ⟨rfl, rfl, rfl, rfl⟩

theorem defers_false {a : Deferred} (h : ∀ q ∈ s.dir.queue, q.deferred ≠ a) : s.defers a = false := by
  simpa [defers] using h

theorem enterClearing_connected (h : s.conn.state = .connected) :
    s.enterClearing = { s.leaveConnected .clearing with conn := (s.leaveConnected .clearing).conn.cleared } := by
  rw [enterClearing, isConnected_iff.mpr h, if_pos rfl]
  rfl

theorem clearRequest_connected (hty : s.conn.lineType = .switched) (h : s.conn.state = .connected) :
    s.clearRequest = { s.leaveConnected .clearing with conn := (s.leaveConnected .clearing).conn.cleared } := by
  rw [← enterClearing_connected h]
  simp only [clearRequest, hty, h]

theorem clearRequest_called (hty : s.conn.lineType = .switched) (h : s.conn.state = .answering ∨ s.conn.state = .calling) :
    s.clearRequest = { s with conn := s.conn.cleared } := by
  have hne : s.conn.state ≠ .connected := by obtain h | h := h <;> simp [h]
  rw [← enterClearing_of_not_connected hne]
  obtain h | h := h <;> simp only [clearRequest, hty, h]

theorem clearRequest_idle
    (h : s.conn.lineType = .permanent ∨ s.conn.state = .idle ∨ s.conn.state = .clearing ∨ s.conn.state = .lost) :
    s.clearRequest = s := by
  cases hty : s.conn.lineType with
  | permanent => simp only [clearRequest, hty]
  | switched =>
    rw [hty] at h
    obtain h | h | h | h := h
    · cases h
    all_goals simp only [clearRequest, hty, h]

/-! ### Breaks -/

/-- What a break leaves the blocks with (R28, R121, R141), whatever deferred actions follow it. -/
structure Broken (s u : State) : Prop where
  kb : u.kb.breakTimer = some 1000 ∧ u.kb.closeTimer = none ∧ u.kb.keys = s.kb.keys
  queue : u.dir.queue = []
  items : u.tx.answerback = .none ∧ u.tx.reply = none ∧ u.tx.retrieval = none ∧ u.tx.keyboardText = none
  rx : u.rx.plane = .letters ∧ u.rx.be = s.rx.be ∧ u.rx.stats = s.rx.stats.countBreak
  cells : u.store.cells = s.store.cells
  motor : u.motor = s.motor

theorem brokenOff_blocks (s : State) :
    s.brokenOff =
      { s with
        rx := { s.rx with state := .spacing, plane := .letters, stats := s.rx.stats.countBreak }
        kb := { s.kb with breakTimer := some 1000, closeTimer := none }
        tx := s.tx.itemsDropped
        dir := { s.dir with queue := [] }
        store := s.brokenOff.store } := (breakTaken s).1

theorem broken_brokenOff (s : State) : s.Broken s.brokenOff := by
  have hstore := (breakTaken s).2.1
  have h := brokenOff_blocks s
  generalize s.brokenOff = v at h hstore ⊢
  generalize v.store = st at h hstore
  subst h
  exact ⟨⟨rfl, rfl, rfl⟩, rfl, ⟨rfl, rfl, rfl, rfl⟩, ⟨rfl, rfl, rfl⟩, by rw [hstore], rfl⟩

theorem Broken.stationReset (h : s.Broken v) : s.Broken v.stationResetEffect := by
  rw [stationResetEffect_blocks]
  refine ⟨⟨h.kb.1, rfl, h.kb.2.2⟩, rfl, ⟨rfl, rfl, rfl, rfl⟩, h.rx, ?_, h.motor⟩
  rw [blocksReset_store]
  exact h.cells

theorem Broken.leave (h : s.Broken v) (hl : v.Left target w) : s.Broken w :=
  ⟨⟨hl.kb.2.2.2.trans h.kb.1, hl.kb.1, hl.kb.2.1.trans h.kb.2.2⟩, hl.queue, ⟨hl.items.1, hl.items.2.1, hl.items.2.2.1, hl.items.2.2.2.1⟩,
    by rw [hl.rx]; exact h.rx, hl.cells.trans h.cells, hl.motor.trans h.motor⟩

theorem Broken.clear (h : s.Broken v) : s.Broken v.clearRequest := by
  by_cases hidle : v.conn.lineType = .permanent ∨ v.conn.state = .idle ∨ v.conn.state = .clearing ∨ v.conn.state = .lost
  · rwa [clearRequest_idle hidle]
  have hty : v.conn.lineType = .switched := by
    revert hidle
    cases v.conn.lineType <;> simp
  by_cases hcalled : v.conn.state = .answering ∨ v.conn.state = .calling
  · rw [clearRequest_called hty hcalled]
    exact ⟨h.kb, h.queue, h.items, h.rx, h.cells, h.motor⟩
  · have hconn : v.conn.state = .connected := by
      revert hidle hcalled
      cases v.conn.state <;> simp
    rw [clearRequest_connected hty hconn]
    obtain ⟨hkb, hq, hi, hrx, hc, hm⟩ := h.leave (left_leaveConnected v (target := .clearing) (by decide))
    exact ⟨hkb, hq, hi, hrx, hc, hm⟩

end State

open State

/-- Settles O22: mark by the limit and after SPACING by the receiver's rows, and a declared break by `breakTaken`, with the deferred actions
after it. -/
theorem candidatesAndBreaks : Obligations.CandidatesAndBreaks := by
  refine ⟨fun s t hpow hconn hspace hstate htick hle => ?_, fun s hpow hspace hstate => ?_, fun s t hpow hconn hspace hstate => ?_⟩
  · have h := (EventOf.lineConditionChange .mark t).does hpow
    rw [lineChange_eq (by simp [hspace]) (by simp [RxBlock.admits, hstate, htick, hle]), conditionChange_connected hconn,
      receiverChange_candidate (s := s.heard .mark) hstate, receiveMutilated_eq] at h
    exact h
  · have h := EventOf.breakDeclared.does hpow
    rw [declareBreak_eq hstate hspace] at h
    have hclear : s.Broken (if s.defers .clear = true then s.brokenOff.clearRequest else s.brokenOff) := by
      split
      · exact (broken_brokenOff s).clear
      · exact broken_brokenOff s
    have hall : s.Broken (s.brokenOff.makeDeferred (s.defers .clear) (s.defers .reset)) := by
      rw [makeDeferred]
      split
      · exact hclear.stationReset
      · exact hclear
    obtain ⟨⟨h1, h2, h3⟩, h4, ⟨h5, h6, h7, h8⟩, ⟨h9, h10, h11⟩, h12, h13⟩ := hall
    refine ⟨_, h, h1, h2, h4, h5, h6, h7, h8, h9, h10, h11, ⟨_, breakTaken s, rfl⟩, ?_, h12, h3, h13, fun hnone => ?_⟩
    · simp only [LineStats.countBreak, LineStats.full, beq_iff_eq]
    · have hno (a : Deferred) (ha : a ≠ .none) : s.defers a = false :=
        defers_false fun q hq => by rw [hnone q hq]; exact Ne.symm ha
      rw [hno .clear (by decide), hno .reset (by decide), makeDeferred, if_neg Bool.false_ne_true, if_neg Bool.false_ne_true,
        brokenOff_blocks]
      exact ⟨rfl, rfl, rfl, rfl, rfl, rfl⟩
  · have h := (EventOf.lineConditionChange .mark t).does hpow
    rw [lineChange_eq (by simp [hspace]) (by simp [RxBlock.admits, hstate]), conditionChange_connected hconn,
      receiverChange_spacing (s := s.heard .mark) hstate] at h
    exact h

/-- The timers that leave CONNECTED: what `loseLine` and the line idle timer's end make of it. -/
theorem State.leaveTimed {s : State} {c : Instr} (hpow : s.powered = true)
    (h : (c = .sustainedSpaceTimerExpiry ∧ s.conn.sustainedSpace.isSome = true) ∨
      (c = .lineIdleTimerExpiry ∧ s.conn.lineIdle.isSome = true ∧ s.conn.lineType = .switched)) :
    Does c s (if s.conn.lineType = .switched then s.enterClearing else s.enterLost) := by
  obtain ⟨rfl, ht⟩ | ⟨rfl, ht, hty⟩ := h
  · have hdoes := EventOf.sustainedSpaceTimerExpiry.does hpow
    rw [atExpiry_of_some ht, loseLine] at hdoes
    cases hty : s.conn.lineType <;> rw [hty] at hdoes <;> exact hdoes
  · have hdoes := EventOf.lineIdleTimerExpiry.does hpow
    rw [if_pos hty]
    rwa [atExpiry_of_some ht] at hdoes

/-- Settles O27: each way out of CONNECTED is `leaveConnected`, which `lineLeft` writes out. -/
theorem leavingConnectedTellsEveryBlock : Obligations.LeavingConnectedTellsEveryBlock := by
  refine ⟨fun s => ⟨fun hty hconn => ?_, clearRequest_called, clearRequest_idle⟩, fun c s hpow hconn h => ?_⟩
  · exact ⟨_, lineLeft s .clearing, clearRequest_connected hty hconn⟩
  · refine ⟨_, leaveTimed hpow h, ?_⟩
    cases hty : s.conn.lineType with
    | switched =>
      rw [if_pos rfl, if_pos rfl, enterClearing_connected hconn]
      have hleft := left_leaveConnected s (target := .clearing) (by decide)
      refine ⟨⟨_, lineLeft s .clearing, rfl⟩, fun _ => ⟨rfl, rfl, rfl, rfl⟩, nofun, ?_, rfl, rfl, ?_, ?_, ?_, ?_, hleft.stack, hleft.asm,
        hleft.queue, hleft.lineOpen, hleft.items.1, hleft.items.2.1, hleft.items.2.2.1, hleft.items.2.2.2.1, hleft.items.2.2.2.2,
        hleft.kb.1, hleft.claim.1, hleft.claim.2, hleft.cells, hleft.kb.2.1, hleft.kb.2.2.1, hleft.motor, ?_, ?_, hleft.attempts,
        fun hno => leaveConnected_same (defers_false hno)⟩
      all_goals simp only [ConnBlock.cleared, hleft.conn, hleft.rx]
    | permanent =>
      rw [if_neg (by decide), if_neg (by decide), enterLost]
      have hleft := left_leaveConnected s (target := .lost) (by decide)
      refine ⟨⟨_, lineLeft s .lost, rfl⟩, nofun, fun _ => ⟨?_, ?_⟩, ?_, ?_, ?_, ?_, ?_, ?_, ?_, hleft.stack, hleft.asm,
        hleft.queue, hleft.lineOpen, hleft.items.1, hleft.items.2.1, hleft.items.2.2.1, hleft.items.2.2.2.1, hleft.items.2.2.2.2,
        hleft.kb.1, hleft.claim.1, hleft.claim.2, hleft.cells, hleft.kb.2.1, hleft.kb.2.2.1, hleft.motor, ?_, ?_, hleft.attempts,
        fun hno => leaveConnected_same (defers_false hno)⟩
      all_goals simp only [onConn_conn, onConn_rx, markTimer, hleft.conn, hleft.rx]

theorem State.answerRequest_eq (s : State) :
    s.answerRequest =
      if s.conn.state = .idle ∧ s.conn.lineType = .switched ∧ s.conn.callAnswerable = true then
        { s with
          conn :=
            { s.conn with
              state := .answering, loop := true, callAnswerable := false, answerTimer := some 10000
              stableMark := if s.conn.lineCond = .mark then some 1000 else none } }
      else s := rfl

theorem State.seizeRequest_eq (s : State) :
    s.seizeRequest =
      if s.conn.state = .idle ∧ s.conn.lineType = .switched then
        { s with
          conn :=
            { s.conn with
              state := .calling, loop := true, callAnswerable := false, callTimer := some 60000
              stableMark := if s.conn.lineCond = .mark then some 1000 else none } }
      else s := rfl

/-- Settles O29: each key by its function's effect on the state with the key joined to the pair, and CLEAR LINE in CONNECTED by `lineLeft`. -/
theorem connectionKeys : Obligations.ConnectionKeys := by
  refine ⟨⟨fun s k h => ?_, fun s k h hl => ?_⟩, fun s k h hl => ?_, fun s k h hl => ?_, fun s k h hl hty hst => ?_,
    fun s k h hl hty hconn => ?_, fun s k h hl hidle => ?_⟩
  · exact does_function_effect h rfl (.inr rfl) rfl
  · exact does_function_effect h rfl (.inl hl) rfl
  · exact does_function_effect h rfl (.inl hl) (congrArg some (s.joined k).answerRequest_eq)
  · exact does_function_effect h rfl (.inl hl) (congrArg some (s.joined k).seizeRequest_eq)
  · exact does_function_effect h rfl (.inl hl) (congrArg some (clearRequest_called (s := s.joined k) hty hst))
  · have hdoes := does_function_effect h rfl (.inl hl) (congrArg some (clearRequest_connected (s := s.joined k) hty hconn))
    have hleft := left_leaveConnected (s.joined k) (target := .clearing) (by decide)
    refine ⟨_, hdoes, ⟨_, lineLeft (s.joined k) .clearing, rfl⟩, ?_⟩
    obtain ⟨x, hx⟩ := restartClose_kb { (s.joined k).leaveConnected .clearing with
      conn := ((s.joined k).leaveConnected .clearing).conn.cleared }
    rw [hx]
    refine ⟨rfl, rfl, ?_, ?_, hleft.stack, hleft.queue, hleft.cells, hleft.motor, hleft.kb.2.2.1, ?_, fun hno => ?_⟩
    · simp only [ConnBlock.cleared, hleft.conn]
    · simp only [hleft.rx]
    · simp only [ConnBlock.cleared, hleft.conn]
      rfl
    · have hsame := leaveConnected_same (s := s.joined k) (target := .clearing) (defers_false hno)
      exact ⟨hsame.1, hsame.2.1⟩
  · exact does_function_effect h rfl (.inl hl) (congrArg some (clearRequest_idle (s := s.joined k) (by
      obtain h | h | h := hidle
      · exact .inl h
      · exact .inr (.inl h)
      · exact .inr (.inr (.inl h)))))

end Sys2Proof.Machine
end

section
/-! PROOF. How a directive command reaches its effect (R164 to R166): the checks of an execution, one lemma each. -/

namespace Sys2Proof.Machine

/-- The fields of a body that reads as these values. -/
theorem fieldsAre_iff {body : List Code} {vs : List Nat} :
    FieldsAre body vs ↔ ∃ fs, readFields body = some fs ∧ fs.map fieldValue = vs := by
  simp [FieldsAre, Option.map_eq_some_iff]

theorem readFields_nil : readFields [] = some [] := rfl

/-- A directive is allowed from its source (R164). -/
def DirKind.allowedFrom (k : DirKind) (src : DirSource) : Bool := if fromLine src then k.onLine else k.onKeyboard

namespace State

variable {s : State} {k : DirKind} {src : DirSource} {body : List Code}

/-! ### Execution -/

/-- A directive that no rule of R165 before the letter's turns away comes to its letter. -/
theorem execute_checkLetter {c : DirCall} (hk : DirKind.ofLetter c.letter = some k)
    (hline : fromLine c.src = true → c.result ≠ .foreign ∧ (c.result = .broadcast → k.broadcast = true) ∧
      ((k = .heading ∨ k = .endMsg) → s.conn.selected = true))
    (hover : s.overrun c = false) : s.execute c = s.checkLetter c := by
  simp only [execute, hk, hover, Bool.false_eq_true, if_false]
  cases hf : fromLine c.src with
  | false => simp
  | true =>
    obtain ⟨h1, h2, h3⟩ := hline hf
    have hsel : ((some k == some DirKind.heading || some k == some DirKind.endMsg) && !s.conn.selected) = false := by
      cases hs : s.conn.selected with
      | true => simp
      | false =>
        rw [hs] at h3
        simp only [Option.some_beq_some, Bool.not_false, Bool.and_true, Bool.or_eq_false_iff, beq_eq_false_iff_ne]
        exact ⟨fun h => by simpa using h3 (.inl h), fun h => by simpa using h3 (.inr h)⟩
    have hbc : (c.result == .broadcast && !(some k).any DirKind.broadcast) = false := by
      by_cases hb : c.result = .broadcast
      · simp [hb, h2 hb]
      · simp [hb]
    simp only [Bool.true_and, beq_iff_eq, h1, if_false, hbc, Bool.false_eq_true, hsel]

/-- A directive allowed from its source is carried out. -/
theorem checkLetter_carryOut {c : DirCall} (hk : DirKind.ofLetter c.letter = some k) (hsrc : k.allowedFrom c.src = true) :
    s.checkLetter c = s.carryOut k c := by
  simp only [checkLetter, hk]
  exact if_pos hsrc

theorem execute_carryOut {c : DirCall} (hk : DirKind.ofLetter c.letter = some k) (hsrc : k.allowedFrom c.src = true)
    (hline : fromLine c.src = true → c.result ≠ .foreign ∧ (c.result = .broadcast → k.broadcast = true) ∧
      ((k = .heading ∨ k = .endMsg) → s.conn.selected = true))
    (hover : s.overrun c = false) : s.execute c = s.carryOut k c :=
  (execute_checkLetter hk hline hover).trans (checkLetter_carryOut hk hsrc)

/-- With a place in the reply queue no directive is overrun (R165 step 4). -/
theorem overrun_of_room {c : DirCall} (h : fromLine c.src = true → s.dir.queue.length < 4) : s.overrun c = false := by
  rw [overrun]
  cases hf : fromLine c.src with
  | false => rfl
  | true =>
    have : ¬4 ≤ s.dir.queue.length := by have := h hf; omega
    simp [this]

/-- A directive command that its source can bring is executed (R161). -/
theorem directive_execute (hlive : s.sourceLive src = true) (hok : directiveOk src body = true)
    (hm : s.matchOf src ≠ .foreign ∨ k = .select) : s.directive k src body = s.execute (s.call k src body) := by
  rw [directive, hlive, hok]
  refine if_pos ?_
  simpa using hm

/-- A directive that its source brings, and that is OWN or local, comes to its letter. -/
theorem does_checkLetter (hb : s.Brings src body)
    (hsel : fromLine src = true → (k = .heading ∨ k = .endMsg) → s.conn.selected = true) :
    Does (k.command src body) s (s.checkLetter (s.call k src body)) := by
  obtain ⟨hpow, hlive, hok, hline⟩ := hb
  have hown : fromLine src = true → s.matchOf src = .own := fun h => (hline h).1
  have hne : s.matchOf src ≠ .foreign := by
    cases src with
    | keyboard => simp [matchOf]
    | line c1 c2 => simp [hown rfl]
  have h := (EventOf.directive k src body).does hpow
  rw [directive_execute hlive hok (.inl hne), execute_checkLetter (DirKind.ofLetter_letter k) (fun hf => ?_)
    (overrun_of_room fun hf => (hline hf).2)] at h
  · exact h
  · have hres : (s.call k src body).result = .own := hown hf
    simp only [hres]
    exact ⟨by decide, nofun, hsel hf⟩

/-- One that is allowed from its source is carried out. -/
theorem does_carryOut (hb : s.Brings src body) (hsrc : k.allowedFrom src = true)
    (hsel : fromLine src = true → (k = .heading ∨ k = .endMsg) → s.conn.selected = true) :
    Does (k.command src body) s (s.carryOut k (s.call k src body)) := by
  have h := does_checkLetter (k := k) hb hsel
  rwa [checkLetter_carryOut (c := s.call k src body) (DirKind.ofLetter_letter k) hsrc] at h

/-! ### Carrying out -/

/-- The open check's refusal (R165 step 7). -/
theorem carryOut_refused {c : DirCall} {r : Reason} (hk : k.needsOpen = true) (h : s.openCheck c.src (k == .erase) = some r) :
    s.carryOut k c = s.answer c r.alone := by
  simp only [carryOut, hk, if_true, h]

/-- Fields that the letter takes give its effect (R165 steps 8 and 9). -/
theorem carryOut_effect {c : DirCall} {fs : List (List Code)} (hopen : k.needsOpen = true → s.openCheck c.src (k == .erase) = none)
    (hread : readFields c.body = some fs) (hfields : k.fieldsOk (fs.map fieldValue) = true) : s.carryOut k c = s.effect k c fs := by
  have hcheck : (if k.needsOpen = true then s.openCheck c.src (k == .erase) else none) = none := by
    split
    · exact hopen ‹_›
    · rfl
  simp only [carryOut, hcheck, hread, hfields, if_true]

/-- A letter that needs no open check. -/
theorem unopened {p : Prop} (h : k.needsOpen = false) (h' : k.needsOpen = true) : p := absurd (h.symm.trans h') Bool.false_ne_true

/-- A body that is no list of the letter's fields (R165 step 8). -/
theorem carryOut_badFields {c : DirCall} (hopen : k.needsOpen = true → s.openCheck c.src (k == .erase) = none)
    (h : ∀ fs, readFields c.body = some fs → k.fieldsOk (fs.map fieldValue) = false) : s.carryOut k c = s.badFields k c := by
  have hcheck : (if k.needsOpen = true then s.openCheck c.src (k == .erase) else none) = none := by
    split
    · exact hopen ‹_›
    · rfl
  cases hr : readFields c.body with
  | none => simp only [carryOut, hcheck, hr]
  | some fs => simp only [carryOut, hcheck, hr, h fs hr, Bool.false_eq_true, if_false]

/-- A directive with its fields, from a source that may bring it and passes the open check, has its effect. -/
theorem does_effect {fs : List (List Code)} (hb : s.Brings src body) (hsrc : k.allowedFrom src = true)
    (hsel : fromLine src = true → (k = .heading ∨ k = .endMsg) → s.conn.selected = true)
    (hopen : k.needsOpen = true → s.openCheck src (k == .erase) = none) (hread : readFields body = some fs)
    (hfields : k.fieldsOk (fs.map fieldValue) = true) : Does (k.command src body) s (s.effect k (s.call k src body) fs) := by
  have h := does_carryOut hb hsrc hsel
  rwa [carryOut_effect (c := s.call k src body) hopen hread hfields] at h

/-- A directive that is no M and no E. -/
theorem does_effect_plain {fs : List (List Code)} (hb : s.Brings src body) (hsrc : k.allowedFrom src = true) (hk : k ≠ .heading ∧ k ≠ .endMsg)
    (hopen : k.needsOpen = true → s.openCheck src (k == .erase) = none) (hread : readFields body = some fs)
    (hfields : k.fieldsOk (fs.map fieldValue) = true) : Does (k.command src body) s (s.effect k (s.call k src body) fs) :=
  does_effect hb hsrc (fun _ h => (h.elim hk.1 hk.2).elim) hopen hread hfields

end State
end Sys2Proof.Machine
end

section
/-! PROOF. Selection, headings and appends (sections 3.1, 3.3, 8.8, 9.4). -/

namespace Sys2Proof.Machine
namespace State

variable {s t v : State} {e : Nat}

/-! ### Line directives for the own call code and for ZZ -/

/-- An unanswered directive, or a BROADCAST one, that the line brings to this station is carried out. -/
theorem does_line {k : DirKind} {c1 c2 : Code} {body : List Code} (hb : s.LineBrings c1 c2 body)
    (haddr : s.working.callCode = some (c1, c2) ∨ (c1, c2) = (0o132#7, 0o132#7)) (hsrc : k.onLine = true) (hbc : k.broadcast = true)
    (hsel : k = .heading ∨ k = .endMsg → s.conn.selected = true)
    (hqueue : k.answered = false ∨ s.matchOf (.line c1 c2) = .broadcast) :
    Does (k.command (.line c1 c2) body) s (s.carryOut k (s.call k (.line c1 c2) body)) := by
  obtain ⟨hpow, hlive, hok⟩ := hb
  have hne := matchOf_ne_foreign haddr
  have h := (EventOf.directive k (.line c1 c2) body).does hpow
  rw [directive_execute (src := .line c1 c2) hlive hok (.inl hne), execute_carryOut (c := s.call k (.line c1 c2) body)
    (DirKind.ofLetter_letter k) hsrc (fun _ => ⟨hne, fun _ => hbc, hsel⟩)] at h
  · exact h
  · obtain hq | hq := hqueue
    · simp [overrun, call, hq]
    · simp [overrun, call, hq]

theorem addressed_iff (c1 c2 : Code) :
    s.addressed (.line c1 c2) = true ↔ s.working.callCode = some (c1, c2) ∨ (c1, c2) = (0o132#7, 0o132#7) := by
  simp [addressed]

theorem deselect_eq (s : State) :
    s.deselect = if s.conn.selected = true then State.teardown { s with conn := { s.conn with selected := false } } else s := rfl

end State

open State

/-- Settles O39: S and D through their execution, a FOREIGN S by its own row. -/
theorem selectAndDeselect : Obligations.SelectAndDeselect := by
  refine fun s c1 c2 hb => ⟨fun haddr => ⟨?_, ?_⟩, fun hown hzz => ?_⟩
  · have h := does_line (k := .select) hb haddr rfl rfl (by simp) (.inl rfl)
    rw [carryOut_effect (unopened rfl) readFields_nil rfl] at h
    rwa [show s.effect .select _ [] = s.doSelect _ from rfl, doSelect, if_pos (by exact (addressed_iff c1 c2).mpr haddr)] at h
  · have h := does_line (k := .deselect) hb haddr rfl rfl (by simp) (.inl rfl)
    rw [carryOut_effect (unopened rfl) readFields_nil rfl] at h
    rwa [show s.effect .deselect _ [] = s.doDeselect _ from rfl, doDeselect, if_pos (by exact (addressed_iff c1 c2).mpr haddr),
      deselect_eq] at h
  · have hfor : s.matchOf (.line c1 c2) = .foreign := by simp only [matchOf, matchCall, if_neg hown, if_neg hzz]
    have h := (EventOf.directive .select (.line c1 c2) []).does hb.1
    have hexec : s.execute (s.call .select (.line c1 c2) []) = s.doSelect (s.call .select (.line c1 c2) []) := by
      simp [execute, call, hfor, fromLine]
    have hnot : ¬s.addressed (.line c1 c2) = true := by
      rw [addressed_iff]
      exact fun h => h.elim hown hzz
    rw [directive_execute (src := .line c1 c2) hb.2.1 hb.2.2 (.inr rfl), hexec, doSelect, if_neg (by exact hnot), deselect_eq] at h
    exact h

/-! ### Headings -/

namespace State

variable {s t v : State} {e : Nat}

theorem lowestEmpty_iff (s : State) (e : Nat) :
    s.lowestEmpty = some e ↔
      (1 ≤ e ∧ e ≤ 32) ∧ (s.record e).state = .empty ∧ ∀ x, 1 ≤ x → x < e → (s.record x).state ≠ .empty := by
  simp only [lowestEmpty, List.find?_map, Option.map_eq_some_iff, List.find?_range_eq_some, Function.comp_apply, beq_iff_eq,
    List.mem_range, Bool.not_eq_eq_eq_not, Bool.not_true, beq_eq_false_iff_ne]
  constructor
  · rintro ⟨i, ⟨hstate, hi, hlow⟩, rfl⟩
    refine ⟨⟨by omega, by omega⟩, hstate, fun x h1 h2 => ?_⟩
    have := hlow (x - 1) (by omega)
    rwa [show x - 1 + 1 = x by omega] at this
  · rintro ⟨⟨h1, h2⟩, hstate, hlow⟩
    refine ⟨e - 1, ⟨?_, by omega, fun j hj => hlow (j + 1) (by omega) (by omega)⟩, by omega⟩
    rwa [show e - 1 + 1 = e by omega]

/-- What a heading leaves to be closed, and the stack beneath it SUSPENDED (R48). -/
def headed (s : State) (p : Nat) : State := (cutFrom p s.store.openStack s).topTakes .suspended

theorem headed_unrecorded (s : State) (p : Nat) :
    (s.headed p).unrecorded =
      ({ s with store := { s.store with
        openStack := s.store.openStack.dropWhile fun t => decide (p ≤ t.precedence) } } : State).unrecorded := by
  rw [headed, topTakes_unrecorded, cutFrom_eq]
  exact congrArg (fun u : State => { u with store := { u.store with
    openStack := s.store.openStack.dropWhile fun t => decide (p ≤ t.precedence) } }) (closeEntries_unrecorded _)

theorem foldl_dir_length {α : Type} (f : State → α → State) (h : ∀ s a, (f s a).store.dir.length = s.store.dir.length) (l : List α)
    (s : State) : (l.foldl f s).store.dir.length = s.store.dir.length := foldl_frame s (·.store.dir.length) f h l

theorem headed_dir_length (s : State) (p : Nat) : (s.headed p).store.dir.length = s.store.dir.length := by
  have htop (u : State) (q : RecState) : (u.topTakes q).store.dir.length = u.store.dir.length := by
    unfold topTakes
    split
    · exact updRecord_dir_length _
    · rfl
  rw [headed, htop, cutFrom_eq, setStack, onStore]
  dsimp only
  rw [closeEntries_eq]
  exact foldl_dir_length closeLineRecord (fun u e => updRecord_dir_length _) _ s

theorem heading_none {p n : Nat} (h : (s.headed p).lowestEmpty = none) : s.heading p n = (s.headed p).pushVoid p := by
  rw [headed] at h
  simp only [heading, create_eq, h, Option.map_none]
  rfl

/-- The record of a heading (R48, R49). -/
def headingRecord (s : State) (p n : Nat) : Record := { s.lineRecord p (some n) with duplicate := s.serialHeld n }

theorem heading_some {p n : Nat} (h : (s.headed p).lowestEmpty = some e) :
    s.heading p n = ((s.headed p).placed e ((s.headed p).headingRecord p n)).push ⟨p, some e⟩ := by
  rw [headed] at h
  simp only [heading, create_eq, h, Option.map_some]
  rfl

end State

/-- Settles O40: the heading through its execution, and what it does by whether an entry is EMPTY. -/
theorem headingsOpenMessages : Obligations.HeadingsOpenMessages := by
  refine ⟨fun s c1 c2 body p n hb hsel haddr hf hp hn => ?_, fun s p n hd => ?_, fun s => ⟨s.lowestEmpty_iff, s.lowestEmpty_none_iff⟩,
    fun s p t rest => ⟨rfl, fun hlt => ?_, fun hle hnone => ?_, fun e hle he => ?_, rfl⟩,
    fun s st => ⟨fun p e rest h => topTakes_record st h, fun p rest h => topTakes_void st h, topTakes_nil st⟩⟩
  · obtain ⟨fs, hread, hvs⟩ := fieldsAre_iff.mp hf
    have h := does_line (k := .heading) hb haddr rfl rfl (fun _ => hsel) (.inl rfl)
    rw [carryOut_effect (unopened rfl) hread (by rw [hvs]; simp [DirKind.fieldsOk, hp, hn])] at h
    simp only [effect, hvs] at h
    exact h
  · have hframe := headed_unrecorded s p
    have hstack : (s.headed p).store.openStack = s.store.openStack.dropWhile fun t => decide (p ≤ t.precedence) :=
      eq_of_frame (·.store.openStack) (fun _ => rfl) hframe rfl
    have hlost : (s.headed p).store.lostMessageCount = s.store.lostMessageCount :=
      eq_of_frame (·.store.lostMessageCount) (fun _ => rfl) hframe rfl
    have hprint : (s.headed p).store.linePrint = s.store.linePrint := eq_of_frame (·.store.linePrint) (fun _ => rfl) hframe rfl
    have hpunch : (s.headed p).punch = s.punch := eq_of_frame (·.punch) (fun _ => rfl) hframe rfl
    have hconn : (s.headed p).conn = s.conn := eq_of_frame (·.conn) (fun _ => rfl) hframe rfl
    have hprofile : (s.headed p).profile = s.profile := eq_of_frame (·.profile) (fun _ => rfl) hframe rfl
    intro u v
    have hu : u = s.headed p := rfl
    have hud : u.store.dir.length = 32 := (headed_dir_length s p).trans hd
    cases hlow : u.lowestEmpty with
    | none =>
      have hv : v = u.pushVoid p := heading_none hlow
      refine ⟨?_, nofun, fun _ => ⟨?_, ?_, fun x => ?_⟩⟩
      · rw [hv, ← hstack]
        rfl
      · rw [hv, ← hlost]
        rfl
      · rw [hv]
        rfl
      · rw [hv]
        rfl
    | some e =>
      have hv : v = (u.placed e (u.headingRecord p n)).push ⟨p, some e⟩ := heading_some hlow
      have he := (lowestEmpty_some hlow).1
      have hrec {x : Nat} (hx : Numbered x) : v.record x = if x = e then
          { u.headingRecord p n with retained := !u.conn.attended && u.working.retainUnattended } else u.record x := by
        rw [hv]
        exact record_placed hud he hx (u.headingRecord p n)
      refine ⟨?_, fun e' he' => ?_, nofun⟩
      · rw [hv, ← hstack]
        rfl
      · cases he'
        refine ⟨⟨u.serialHeld n, ?_, ?_⟩, ?_, ?_, fun x h1 h2 hne => ?_⟩
        · simp [serialHeld]
        · rw [hrec he, if_pos rfl]
          simp [headingRecord, lineRecord, wanted, claims, hu, hprint, hpunch, hconn, working, hprofile, Record.empty]
        · rw [hv]
          rfl
        · rw [hv, ← hlost]
          rfl
        · rw [hrec ⟨h1, h2⟩, if_neg hne]
  · rw [cutFrom, if_neg (by omega)]
    rfl
  · rw [cutFrom, if_pos hle, closeEntry, hnone]
  · rw [cutFrom, if_pos hle, closeEntry, he]
    rfl

/-! ### Appends -/

namespace State

variable {s t v : State} {e : Nat}

theorem append_none_iff (s : State) (e : Nat) (c : Cell) :
    s.append e c = none ↔ 16383 ≤ (s.record e).length ∨ ((s.record e).length % 64 = 0 ∧ s.store.free = []) := by
  simp only [append]
  by_cases hlen : 16383 ≤ (s.record e).length
  · simp [hlen]
  · by_cases hmod : (s.record e).length % 64 = 0
    · cases hfree : s.store.free <;> simp [hlen, hmod]
    · simp [hlen, hmod]

/-- The cell that `putCell` writes reads back, and no other address changes. -/
theorem putCell_cells {c : Cell} (hwf : s.store.cells.wf = true) (hd : s.store.dir.length = 32) (he : Numbered e) :
    (s.putCell e c).cellOf e (s.record e).length = c ∧
      ∀ a, a ≠ cellAddress ((s.putCell e c).record e) (s.record e).length →
        (s.putCell e c).store.cells.read a = s.store.cells.read a := by
  have haddr : cellAddress ((s.putCell e c).record e) (s.record e).length = cellAddress (s.record e) (s.record e).length := by
    rw [record_putCell hd he he, if_pos rfl]
    rfl
  refine ⟨?_, fun a ha => ?_⟩
  · rw [cellOf, haddr]
    exact Memory.read_write_self _ _ hwf
  · rw [haddr] at ha
    exact Memory.read_write_ne _ hwf ha

theorem append_cellsWritten {c : Cell} (hwf : s.store.cells.wf = true) (hd : s.store.dir.length = 32) (he : Numbered e)
    (h : s.append e c = some v) :
    v.cellOf e (s.record e).length = c ∧
      ∀ a, a ≠ cellAddress (v.record e) (s.record e).length → v.store.cells.read a = s.store.cells.read a := by
  obtain ⟨-, ⟨-, b, rest, -, rfl⟩ | ⟨-, rfl⟩⟩ := append_cases h
  · have hlen : ((s.granted e b rest).record e).length = (s.record e).length := by
      rw [record_granted hd he he, if_pos rfl]
    rw [← hlen]
    exact putCell_cells (s := s.granted e b rest) hwf (by rwa [granted_dir_length]) he
  · exact putCell_cells hwf hd he

theorem appendLine_some {c : Cell} (h : s.append e c = some v) : s.appendLine e c = v := by simp only [appendLine, h]

theorem appendLine_none {c : Cell} (h : s.append e c = none) :
    s.appendLine e c = (s.setRecord e { s.record e with overflowed := true }).onStore fun b =>
      { b with overflowCount := sat16 b.overflowCount } := by simp only [appendLine, h]

theorem lineText_empty_none {c : Cell} (hst : s.store.openStack = []) (h : s.lowestEmpty = none) :
    s.lineText c = s.pushVoid 0 := by simp only [lineText, hst, create_eq, h, Option.map_none]

theorem lineText_empty_some {c : Cell} (hst : s.store.openStack = []) (h : s.lowestEmpty = some e) :
    s.lineText c = ((s.placed e (s.lineRecord 0 none)).push ⟨0, some e⟩).appendLine e c := by
  simp only [lineText, hst, create_eq, h, Option.map_some]

end State

/-- Settles O54: an append by its two cases, line text by whether a message is open and an entry EMPTY. -/
theorem appendWritesOneCell : Obligations.AppendWritesOneCell := by
  refine ⟨append_none_iff, fun s v e c hwf hd h1 h2 _ h => ?_, fun s e c => ⟨fun v => appendLine_some, appendLine_none⟩,
    fun s c hst => ⟨fun h => ?_, fun e h => ?_⟩⟩
  · obtain ⟨hread, hother⟩ := append_cellsWritten hwf hd ⟨h1, h2⟩ h
    obtain ⟨hlen, -, -, taken, hfree, htaken, -, hrec⟩ := append_some hd ⟨h1, h2⟩ h
    have hself := hrec e ⟨h1, h2⟩
    rw [if_pos rfl] at hself
    have htake : taken = (if (s.record e).length % 64 = 0 then s.store.free.take 1 else []) ∧
        v.store.free = (if (s.record e).length % 64 = 0 then s.store.free.drop 1 else s.store.free) := by
      rw [hfree]
      split
      · rename_i h
        rw [if_pos h] at htaken
        rw [← htaken]
        simp
      · rename_i h
        rw [if_neg h] at htaken
        simp [List.length_eq_zero_iff.mp htaken]
    refine ⟨hread, ?_, ?_, ?_, ?_, htake.2, hother, fun x hx1 hx2 hne => ?_⟩
    · rw [hself]
      rfl
    · rw [hself]
      rfl
    · rw [hself]
      rfl
    · rw [hself, ← htake.1]
    · rw [hrec x ⟨hx1, hx2⟩, if_neg hne]
  · rw [lineText_empty_none hst h, pushVoid, push, hst]
    rfl
  · intro v
    rw [lineText_empty_some hst h]
    have hv : (s.placed e (s.lineRecord 0 none)).push ⟨0, some e⟩ =
        { v with store := { v.store with arrival := s.store.arrival ++ [e], openStack := [⟨0, some e⟩] } } := by
      have hr : ({ s.lineRecord 0 none with retained := !s.conn.attended && s.working.retainUnattended } : Record) =
          { Record.empty with
            state := .receiving, origin := .line, serial := none, precedence := 0, implicit := true
            print := ⟨if s.store.linePrint = true then .pending else .none, 0, false⟩
            punch :=
              ⟨if s.punch.lineClaim.state = .holding ∨ s.punch.lineClaim.state = .waiting then .pending else .none, 0, false⟩
            punchSource := .line, retained := !s.conn.attended && s.working.retainUnattended } := by
        simp [lineRecord, wanted, claims]
      rw [placed, hr, push]
      show State.setStack _ (⟨0, some e⟩ :: s.store.openStack) = _
      rw [hst]
      rfl
    rw [hv]

end Sys2Proof.Machine
end

section
/-! PROOF. The directives of the settings, the identity and the status, and the numbers they are written with (sections 9.5, 9.6, 9.8,
12.2, 12.3). -/

namespace Sys2Proof.Machine

/-! ### Numbers -/

theorem toNat_digit (n : Nat) : (digit n).toNat = 0o060 + n % 10 := by
  rw [digit, BitVec.toNat_ofNat, Nat.mod_eq_of_lt]
  have := Nat.mod_lt n (show 0 < 10 by decide)
  omega

/-- The value of the digits written before those in `acc` is carried on by them. -/
theorem foldl_decimalAcc (fuel n : Nat) (acc : List Code) (h : n < 10 ^ fuel) :
    (decimalAcc fuel n acc).foldl (fun v c => 10 * v + (c.toNat - 0o060)) 0 =
      acc.foldl (fun v c => 10 * v + (c.toNat - 0o060)) n := by
  induction fuel generalizing n acc with
  | zero =>
    rw [Nat.lt_one_iff.mp h]
    rfl
  | succ fuel ih =>
    rw [decimalAcc]
    split
    · rename_i hlt
      rw [List.foldl_cons, toNat_digit]
      congr 1
      omega
    · rw [ih _ _ (by rw [pow_succ] at h; omega), List.foldl_cons, toNat_digit]
      congr 1
      omega

theorem digits_decimalAcc (fuel n : Nat) (acc : List Code) (h : ∀ c ∈ acc, 0o060 ≤ c.toNat ∧ c.toNat ≤ 0o071) :
    ∀ c ∈ decimalAcc fuel n acc, 0o060 ≤ c.toNat ∧ c.toNat ≤ 0o071 := by
  have hdigit : 0o060 ≤ (digit n).toNat ∧ (digit n).toNat ≤ 0o071 := by rw [toNat_digit]; omega
  induction fuel generalizing n acc with
  | zero => exact h
  | succ fuel ih =>
    have hcons : ∀ c ∈ digit n :: acc, 0o060 ≤ c.toNat ∧ c.toNat ≤ 0o071 := by
      intro c hc
      obtain rfl | hc := List.mem_cons.mp hc
      · exact hdigit
      · exact h c hc
    rw [decimalAcc]
    split
    · exact hcons
    · exact ih _ _ hcons (by rw [toNat_digit]; omega)

/-- No number but 0 begins with the digit 0. -/
theorem head_decimalAcc (fuel n : Nat) (acc : List Code) (h : n < 10 ^ fuel) (hpos : 0 < n) :
    (decimalAcc fuel n acc).head? ≠ some 0o060#7 := by
  induction fuel generalizing n acc with
  | zero => omega
  | succ fuel ih =>
    rw [decimalAcc]
    split
    · rename_i hlt
      intro heq
      have := congrArg (Option.map BitVec.toNat) heq
      simp only [List.head?_cons, Option.map_some, Option.some.injEq, toNat_digit, BitVec.toNat_ofNat] at this
      omega
    · exact ih _ _ (by rw [pow_succ] at h; omega) (by omega)

theorem fieldValue_number {n : Nat} (h : n < 10 ^ 20) : fieldValue (number n) = n := foldl_decimalAcc 20 n [] h

theorem signedNumber_pos {n : Nat} (h : 0 < n) : signedNumber n = 0o053#7 :: number n := by
  rw [signedNumber, if_neg (by omega), if_pos (by omega), Int.toNat_natCast]

theorem signedNumber_neg {n : Nat} (h : 0 < n) : signedNumber (-(n : Int)) = 0o055#7 :: number n := by
  rw [signedNumber, if_neg (by omega), if_neg (by omega), neg_neg, Int.toNat_natCast]

/-! ### Letters -/

/-- The letters of R164 as codes. -/
theorem dirKinds_letters :
    dirKinds.map (fun k => k.letter.toNat) =
      [0o123, 0o104, 0o115, 0o105, 0o120, 0o121, 0o111, 0o124, 0o117, 0o103, 0o106, 0o113, 0o114, 0o122, 0o130, 0o127, 0o101,
        0o102, 0o126, 0o131, 0o110, 0o132, 0o107] := by decide

theorem ofLetter_none_iff (l : Code) : DirKind.ofLetter l = none ↔ l.toNat ∉ dirKinds.map fun k => k.letter.toNat := by
  rw [DirKind.ofLetter, List.find?_eq_none, List.mem_map]
  simp only [beq_iff_eq, not_exists, not_and]
  exact forall_congr' fun k => imp_congr_right fun _ => by rw [BitVec.toNat_inj]

namespace State

variable {s : State}

/-- A letter of no directive is answered N05 (R165 step 5). -/
theorem checkLetter_unknown {c : DirCall} (h : DirKind.ofLetter c.letter = none) : s.checkLetter c = s.answer c Reason.n05.alone := by
  simp only [checkLetter, h]

theorem execute_unknown_local {l : Code} (h : DirKind.ofLetter l = none) (m : MatchResult) (body : List Code) :
    s.execute ⟨.keyboard, m, l, body⟩ = s.answer ⟨.keyboard, m, l, body⟩ Reason.n05.alone := by
  rw [← checkLetter_unknown (c := ⟨.keyboard, m, l, body⟩) h]
  simp [execute, overrun, fromLine]

theorem execute_unknown_own {l : Code} (h : DirKind.ofLetter l = none) (c1 c2 : Code) (body : List Code) :
    s.execute ⟨.line c1 c2, .own, l, body⟩ =
      if 4 ≤ s.dir.queue.length then s.onDir fun d => { d with overrunCount := sat16 d.overrunCount }
      else s.answer ⟨.line c1 c2, .own, l, body⟩ Reason.n05.alone := by
  rw [← checkLetter_unknown (c := ⟨.line c1 c2, .own, l, body⟩) h]
  simp [execute, overrun, fromLine, h]

theorem execute_unknown_other {l : Code} (h : DirKind.ofLetter l = none) (c1 c2 : Code) (body : List Code) {m : MatchResult}
    (hm : m = .broadcast ∨ m = .foreign) : s.execute ⟨.line c1 c2, m, l, body⟩ = s := by
  obtain rfl | rfl := hm <;> simp [execute, fromLine, h]

/-! ### Answers -/

theorem singleton_beq (v : Nat) : ([v] == [1]) = (v == 1) := by simp

/-- The fields of I (R171). -/
theorem identity_numbers :
    [number 7720, number 1, number 256, number 32, number 4] =
      [[0o067#7, 0o067#7, 0o062#7, 0o060#7], [0o061#7], [0o062#7, 0o065#7, 0o066#7], [0o063#7, 0o062#7], [0o064#7]] := by decide

theorem emptyEntries_eq (s : State) :
    s.emptyEntries = ((List.range 32).filter fun i => (s.record (i + 1)).state == .empty).length := by
  rw [emptyEntries, List.filter_map, List.length_map]
  rfl

theorem answer_broadcast (s : State) (c1 c2 l : Code) (body : List Code) (r : Reply) :
    s.answer ⟨.line c1 c2, .broadcast, l, body⟩ r = s := by simp [answer, answerWith]

end State

open State

/-- Settles O42: each directive through its execution, the status groups and the service states by their definitions, the numbers by
their digits, and a letter of no directive by the rows it meets. -/
theorem settingsIdentityAndStatus : Obligations.SettingsIdentityAndStatus := by
  refine ⟨fun s src => ⟨fun body v hb hf hv => ?_, fun hb => ?_, fun hb ho => ?_, fun hb ho => ?_⟩,
    fun s src => ⟨fun hb => ?_, fun hb => ?_, fun body g hb hf h1 h5 => ?_, rfl⟩,
    fun s => ⟨?_, ?_, ?_, ?_⟩, fun b => ?_, fun b => ?_, ⟨by decide, by decide, by decide, by decide, fun _ => rfl, fun n hn =>
      ⟨fieldValue_number hn, digits_decimalAcc 20 n [] (by simp), head_decimalAcc 20 n [] hn⟩, by decide, by decide,
      fun n hn => ⟨signedNumber_pos hn, signedNumber_neg hn⟩⟩,
    fun s body v hb hzz hf hv => ?_,
    fun l => ⟨by rw [ofLetter_none_iff, dirKinds_letters], fun hl s body => ⟨fun m => execute_unknown_local hl m body, fun c1 c2 =>
      ⟨fun hq => ?_, fun hq => ?_, execute_unknown_other hl c1 c2 body (.inl rfl), execute_unknown_other hl c1 c2 body (.inr rfl)⟩⟩⟩⟩
  · obtain ⟨fs, hread, hvs⟩ := fieldsAre_iff.mp hf
    have h := does_effect_plain (k := .printSwitch) hb (by cases src <;> rfl) (by decide) (unopened rfl) hread
      (by rw [hvs]; simpa [DirKind.fieldsOk] using hv)
    simp only [effect, doPrintSwitch, hvs, singleton_beq] at h
    exact h
  · have h := does_effect_plain (k := .closeSrc) hb (by cases src <;> rfl) (by decide) (unopened rfl) readFields_nil rfl
    exact h
  · exact does_effect_plain (k := .freeze) hb (by cases src <;> rfl) (by decide) (fun _ => ho) readFields_nil rfl
  · exact does_effect_plain (k := .clearStats) hb (by cases src <;> rfl) (by decide) (fun _ => ho) readFields_nil rfl
  · have h := does_effect_plain (k := .identify) hb (by cases src <;> rfl) (by decide) (unopened rfl) readFields_nil rfl
    simp only [effect, doIdentify, identity_numbers] at h
    exact h
  · have h := does_effect_plain (k := .status) hb (by cases src <;> rfl) (by decide) (unopened rfl) readFields_nil rfl
    simp only [effect, doStatus, List.map_nil, List.headD_nil, statusFields, if_true] at h
    exact h
  · obtain ⟨fs, hread, hvs⟩ := fieldsAre_iff.mp hf
    have h := does_effect_plain (k := .status) hb (by cases src <;> rfl) (by decide) (unopened rfl) hread
      (by rw [hvs]; simp [DirKind.fieldsOk, h1, h5])
    simp only [effect, doStatus, hvs] at h
    exact h
  · rfl
  · rw [statusStore, emptyEntries_eq]
  · rw [statusMechanisms]
    cases s.print.service <;> cases s.punch.service <;> cases s.motor.state <;> rfl
  · rw [statusStation]
    cases s.conn.state <;> rfl
  · unfold PrintBlock.service
    simp only [List.isEmpty_iff]
  · unfold PunchBlock.service
    simp only [List.isEmpty_iff]
  · obtain ⟨fs, hread, hvs⟩ := fieldsAre_iff.mp hf
    have hbc : s.matchOf (.line 0o132#7 0o132#7) = .broadcast := by simp only [matchOf, matchCall, if_neg hzz, if_true]
    have hok : DirKind.fieldsOk .printSwitch (fs.map fieldValue) = true ∧ DirKind.fieldsOk .punch (fs.map fieldValue) = true := by
      simpa [hvs, DirKind.fieldsOk] using hv
    constructor
    · have h := does_line (k := .printSwitch) hb (.inr rfl) rfl rfl (by simp) (.inr hbc)
      rw [carryOut_effect (unopened rfl) hread hok.1, effect, doPrintSwitch, call, hbc, answer_broadcast, hvs, singleton_beq] at h
      exact h
    · have h := does_line (k := .punch) hb (.inr rfl) rfl rfl (by simp) (.inr hbc)
      rw [carryOut_effect (unopened rfl) hread hok.2] at h
      simp only [effect, doPunch, answered, call, hbc, answer_broadcast, hvs,
        List.cons.injEq, and_true, apply_ite Prod.fst] at h
      exact h
  · rw [execute_unknown_own hl, if_neg (by omega)]
  · rw [execute_unknown_own hl, if_pos hq]
    rfl

end Sys2Proof.Machine
end

section
/-! PROOF. The access numbers (sections 10.3 to 10.5). -/

namespace Sys2Proof.Machine

/-! ### Access numbers -/

namespace State

variable {s : State} {src : DirSource} {w n : List Code}

theorem wOf_eq {f : List Code} (h : fieldValue f = 1 ∨ fieldValue f = 2) : wOf f = some (fieldValue f) := by
  obtain h | h := h <;> simp [wOf, h]

theorem wOf_none {f : List Code} (h : fieldValue f ≠ 1 ∧ fieldValue f ≠ 2) : wOf f = none := by simp [wOf, h]

theorem directiveO_eq (h : fieldValue w = 1 ∨ fieldValue w = 2) : s.directiveO src [w, n] = s.tryNumber src (fieldValue w) n := by
  simp only [directiveO, wOf_eq h]

theorem directiveK_eq {n : Option (List Code)} (h : fieldValue w = 1 ∨ fieldValue w = 2) :
    s.directiveK src (w :: n.toList) = s.changeNumber src (fieldValue w) n := by
  cases n <;> simp only [Option.toList, directiveK, wOf_eq h]

/-- An O with no w and no number has N06 (R181 step 1). -/
theorem directiveO_refused {fs : List (List Code)} (h : ∀ w n, fs = [w, n] → fieldValue w ≠ 1 ∧ fieldValue w ≠ 2) :
    s.directiveO src fs = (s, .n06) := by
  unfold directiveO
  split
  · rw [wOf_none (h _ _ rfl)]
  · rfl

/-- A K with no w has N06 (R183 step 1). -/
theorem directiveK_refused {fs : List (List Code)}
    (h : ∀ w rest, fs = w :: rest → rest.length ≤ 1 → fieldValue w ≠ 1 ∧ fieldValue w ≠ 2) : s.directiveK src fs = (s, .n06) := by
  unfold directiveK
  split
  · rw [wOf_none (h _ [] rfl (by simp))]
  · rw [wOf_none (h _ [_] rfl (by simp))]
  · rfl

theorem tryNumber_held (hexp : s.access.expired = false) (hfro : s.access.frozen = false) (v : Nat) {h : List Code}
    (hheld : s.accessNumber v = some h) :
    s.tryNumber src v n = if h = n then (s.rightNumber src v, .a00) else (s.wrongNumber, .n04) := by
  simp only [tryNumber, hexp, hfro, Bool.false_eq_true, if_false, hheld]

theorem wrongNumber_eq (hexp : s.access.expired = false) :
    s.wrongNumber =
      { s with access := { s.access with attempts := s.access.attempts + 1, expired := decide (4 ≤ s.access.attempts) } } := by
  simp [wrongNumber, onAccess, hexp]

theorem setOpen_eq (s : State) (src : DirSource) (o : OpenState) :
    s.setOpen src o =
      { s with access := if fromLine src = true then { s.access with lineOpen := o } else { s.access with localOpen := o } } := rfl

theorem rightNumber_eq (s : State) (src : DirSource) (v : Nat) :
    s.rightNumber src v =
      { s with
        access :=
          if fromLine src = true then { s.access with attempts := 0, lineOpen := if v = 1 then .operator else .supervisor }
          else { s.access with attempts := 0, localOpen := if v = 1 then .operator else .supervisor } } := rfl

/-- A K that does not enable security meets the open check (R183). -/
theorem changeNumber_later {v : Nat} {n : Option (List Code)} (hfro : s.access.frozen = false)
    (h : v = 2 ∨ n = none ∨ s.working.operatorNumber.isSome = true) :
    s.changeNumber src v n = if s.passesOpen src false then (s.setAccessNumber v n, .a00) else (s, .n01) := by
  rw [changeNumber, if_neg (by simp [hfro]), if_neg]
  rintro ⟨h1, hn, hsec⟩
  obtain rfl | rfl | ho := h
  · omega
  · simp at hn
  · simp [Profile.secured, ho] at hsec

theorem passesOpen_secured (h : s.working.operatorNumber.isSome = true) (isW : Bool) :
    s.passesOpen src isW =
      match s.openState src with
      | .closed => false
      | .operator => !(s.working.strict && isW)
      | .supervisor => !s.working.strict || isW := by
  rw [passesOpen, Profile.secured, h]
  rfl

theorem openCheck_eq (s : State) (src : DirSource) (isW : Bool) :
    s.openCheck src isW =
      if s.passesOpen src isW = false then some .n01 else if isW = true ∧ s.access.frozen = true then some .n02 else none := by
  simp [openCheck]

end State

open State

/-- Settles O43: O and K by the steps of R181 and R183, the open check by its table. -/
theorem accessNumbersAreTriedAndSet : Obligations.AccessNumbersAreTriedAndSet := by
  refine ⟨fun s src body w n hb hread hw => ?_, fun s src body w n hb hread hw => ?_, fun s src body fs hb hread => ⟨fun h => ?_, fun h => ?_⟩,
    fun s src => ⟨fun h isW => ?_, fun h => ⟨fun ho isW => ?_, fun ho hs isW => ?_, fun ho hs => ?_, fun ho hs => ?_⟩, openCheck_eq s src⟩⟩
  · intro held level c
    have hdoes := does_effect_plain (k := .openSrc) hb (by cases src <;> rfl) (by decide) (unopened rfl) hread rfl
    have hheld : s.accessNumber (fieldValue w) = held := rfl
    rw [effect, show (s.call .openSrc src body).src = src from rfl, directiveO_eq hw] at hdoes
    refine ⟨fun he => ?_, fun he hf => ?_, fun he hf hn => ?_, fun he hf ⟨h, hn, hne⟩ => ?_, fun he hf hn => ?_⟩
    · rwa [tryNumber, if_pos he] at hdoes
    · rwa [tryNumber, if_neg (by simp [he]), if_pos hf] at hdoes
    · simp only [tryNumber, he, hf, Bool.false_eq_true, if_false, hheld, hn] at hdoes
      exact hdoes
    · rwa [tryNumber_held he hf _ (hheld.trans hn), if_neg hne, wrongNumber_eq he] at hdoes
    · rwa [tryNumber_held he hf _ (hheld.trans hn), if_pos rfl, rightNumber_eq] at hdoes
  · intro p v c
    have hdoes := does_effect_plain (k := .number) hb (by cases src <;> rfl) (by decide) (unopened rfl) hread rfl
    rw [effect, show (s.call .number src body).src = src from rfl, directiveK_eq hw] at hdoes
    have hset : s.setAccessNumber (fieldValue w) n = v := rfl
    refine ⟨fun hf => ?_, fun hf h1 hn ho => ?_, fun hf hor hp => ?_, fun hf hor hp => ?_⟩
    · rwa [changeNumber, if_pos hf] at hdoes
    · rwa [changeNumber, if_neg (by simp [hf]), if_pos ⟨h1, hn, by simp [Profile.secured, ho]⟩, hset, setOpen_eq] at hdoes
    · rwa [changeNumber_later hf hor, if_pos hp, hset] at hdoes
    · rwa [changeNumber_later hf hor, if_neg (by simp [hp])] at hdoes
  · have hdoes := does_effect_plain (k := .openSrc) hb (by cases src <;> rfl) (by decide) (unopened rfl) hread rfl
    rwa [effect, directiveO_refused h] at hdoes
  · have hdoes := does_effect_plain (k := .number) hb (by cases src <;> rfl) (by decide) (unopened rfl) hread rfl
    rwa [effect, directiveK_refused h] at hdoes
  · simp [passesOpen, Profile.secured, h]
  · rw [passesOpen_secured h, show s.openState src = _ from ho]
  · rw [passesOpen_secured h]
    cases hst : s.openState src <;> simp_all [openState]
  · simp [passesOpen_secured h, show s.openState src = _ from ho, hs]
  · simp [passesOpen_secured h, show s.openState src = _ from ho, hs]

end Sys2Proof.Machine
end

section
/-! PROOF. The claims of the punch and what a freed waiter abandons (sections 5.3, 9.5). -/

namespace Sys2Proof.Machine

namespace State

variable {s : State} {e x : Nat}

/-! ### Giving a punch up -/

theorem punchGivenUp_of_not {r : Record} {x : PunchSource} (h : r.punch.status ≠ .pending ∨ r.punchSource ≠ x) :
    punchGivenUp x r = r := by
  rw [punchGivenUp, if_neg]
  simpa [Output.owed, imp_iff_not_or] using h

theorem punchGivenUp_of {r : Record} {x : PunchSource} (hp : r.punch.status = .pending) (hx : r.punchSource = x) :
    punchGivenUp x r = ({ r with punch := { r.punch with status := .abandoned } } : Record).examined := by
  have howed := (Record.owed_iff _).mpr hp
  rw [punchGivenUp, if_pos (by simp [howed, hx]), Output.giveUp, if_pos howed]

/-- A record whose punch is given up is freed or stands as it was with its punch ABANDONED. -/
theorem punchGivenUp_cases {r : Record} {x : PunchSource} (hp : r.punch.status = .pending) (hx : r.punchSource = x) :
    punchGivenUp x r = .empty ∨
      ((punchGivenUp x r).punch = { r.punch with status := .abandoned } ∧ (punchGivenUp x r).state = r.state) := by
  rw [punchGivenUp_of hp hx, Record.examined_eq]
  split
  · exact .inl rfl
  · exact .inr ⟨Record.printDone_punch _, Record.printDone_state _⟩

theorem punchGivenUp_idem (x : PunchSource) (r : Record) : punchGivenUp x (punchGivenUp x r) = punchGivenUp x r := by
  by_cases h : r.punch.status = .pending ∧ r.punchSource = x
  · refine punchGivenUp_of_not (.inl ?_)
    obtain he | ⟨hp, -⟩ := punchGivenUp_cases h.1 h.2
    · rw [he]
      decide
    · simp [hp]
  · simp only [punchGivenUp_of_not (r := r) (x := x) (by tauto)]

/-! ### Entries by their place in the directory, whatever their number -/

theorem record_setRecord_place (hd : s.store.dir.length = 32) (hx : Numbered x) (r : Record) :
    (s.setRecord e r).record x = if e - 1 = x - 1 then r else s.record x := by
  have hlt : x - 1 < s.store.dir.length := by have := hx.2; omega
  simp only [record, setRecord, onStore, List.getD_eq_getElem?_getD, List.getElem?_set]
  split <;> simp_all

theorem record_freeRecord_place (hd : s.store.dir.length = 32) (hx : Numbered x) :
    (s.freeRecord e).record x = if e - 1 = x - 1 then .empty else s.record x :=
  record_setRecord_place (s := s.onStore fun b =>
    { b with free := b.free ++ (s.record e).blocks, arrival := b.arrival.erase e }) hd hx .empty

theorem record_examine_place (hd : s.store.dir.length = 32) (hx : Numbered x) :
    (s.examine e).record x = if e - 1 = x - 1 then (s.record x).examined else s.record x := by
  by_cases hex : e - 1 = x - 1
  · have hcong : s.record e = s.record x := by rw [record, hex, record]
    rw [if_pos hex, examine_eq, hcong, Record.examined_eq]
    split
    · rw [record_freeRecord_place hd hx, if_pos hex]
    · rw [record_setRecord_place hd hx, if_pos hex]
  · rw [if_neg hex, examine_eq]
    split
    · rw [record_freeRecord_place hd hx, if_neg hex]
    · rw [record_setRecord_place hd hx, if_neg hex]

theorem record_updRecord_place (hd : s.store.dir.length = 32) (hx : Numbered x) (f : Record → Record) :
    (s.updRecord e f).record x = if e - 1 = x - 1 then (f (s.record x)).examined else s.record x := by
  have hset := record_setRecord_place (e := e) hd hx (f (s.record e))
  rw [updRecord, record_examine_place (by simpa using hd) hx, hset]
  by_cases hex : e - 1 = x - 1
  · have hcong : s.record e = s.record x := by rw [record, hex, record]
    simp only [if_pos hex, hcong]
  · simp only [if_neg hex]

/-! ### A freed waiter's records -/

/-- What `abandonMarked` does at one entry (R103). -/
def giveUpPunch (x : PunchSource) (s : State) (e : Nat) : State :=
  if (s.record e).punch.owed && (s.record e).punchSource == x then s.updRecord e fun r => { r with punch := r.punch.giveUp } else s

theorem abandonMarked_foldl (s : State) (x : PunchSource) : s.abandonMarked x = s.store.arrival.foldl (giveUpPunch x) s := rfl

theorem giveUpPunch_dir_length (x : PunchSource) (s : State) (e : Nat) : (s.giveUpPunch x e).store.dir.length = s.store.dir.length := by
  unfold giveUpPunch
  split <;> simp

theorem record_giveUpPunch (hd : s.store.dir.length = 32) (hx : Numbered x) (src : PunchSource) :
    (s.giveUpPunch src e).record x = if e - 1 = x - 1 then punchGivenUp src (s.record x) else s.record x := by
  by_cases hex : e - 1 = x - 1
  · have hcong : s.record e = s.record x := by rw [record, hex, record]
    rw [giveUpPunch, hcong, if_pos hex, punchGivenUp]
    split
    · rw [record_updRecord_place hd hx, if_pos hex]
    · rfl
  · rw [if_neg hex, giveUpPunch]
    split
    · rw [record_updRecord_place hd hx, if_neg hex]
    · rfl

/-- The fold gives up each record that it visits, once. -/
theorem record_foldl_giveUpPunch (hd : s.store.dir.length = 32) (hx : Numbered x) (src : PunchSource) (l : List Nat) :
    (l.foldl (giveUpPunch src) s).record x = if ∃ e ∈ l, e - 1 = x - 1 then punchGivenUp src (s.record x) else s.record x := by
  induction l generalizing s with
  | nil => simp
  | cons a l ih =>
    rw [List.foldl_cons, ih ((giveUpPunch_dir_length src s a).trans hd), record_giveUpPunch hd hx]
    simp only [List.exists_mem_cons_iff]
    by_cases ha : a - 1 = x - 1
    · simp only [ha, true_or, if_true, punchGivenUp_idem, ite_self]
    · simp only [ha, false_or, if_false]

theorem record_abandonMarked_place (hd : s.store.dir.length = 32) (hx : Numbered x) (src : PunchSource) :
    (s.abandonMarked src).record x =
      if ∃ e ∈ s.store.arrival, e - 1 = x - 1 then punchGivenUp src (s.record x) else s.record x :=
  record_foldl_giveUpPunch hd hx src _

/-! ### The claims -/

theorem claimRequest_idle {x : PunchSource} (h : (s.punch.claim x).state = .idle) :
    s.claimRequest x =
      if s.punch.holder.isNone then (s.onPunch fun b => { b.setClaim x ⟨.holding, 1⟩ with leaderOwed := true }, .a00)
      else (s.onPunch (·.setClaim x ⟨.waiting, 1⟩), .a00) := by simp only [claimRequest, h]

theorem claimRequest_draining {x : PunchSource} (h : (s.punch.claim x).state = .draining) :
    s.claimRequest x = (s.onPunch fun b => (b.setClaim x ⟨.holding, 1⟩).dropTrailer, .a00) := by simp only [claimRequest, h]

theorem claimRequest_claims {x : PunchSource} (h : (s.punch.claim x).state = .holding ∨ (s.punch.claim x).state = .waiting) :
    s.claimRequest x =
      if (s.punch.claim x).count < 15 then
        (s.onPunch (·.setClaim x { s.punch.claim x with count := (s.punch.claim x).count + 1 }), .a00)
      else (s, .n10) := by
  obtain h | h := h <;> simp only [claimRequest, h]

theorem releaseRequest_claims {x : PunchSource} (h : (s.punch.claim x).state = .holding ∨ (s.punch.claim x).state = .waiting) :
    s.releaseRequest x =
      if 1 < (s.punch.claim x).count then
        (s.onPunch (·.setClaim x { s.punch.claim x with count := (s.punch.claim x).count - 1 }), .a00)
      else (s.releaseAll x, .a00) := by
  obtain h | h := h <;> simp only [releaseRequest, h]

theorem claim_states (s : State) (x : PunchSource) :
    let b := s.punch
    let held (c : Claim) : State := { s with punch := b.setClaim x c }
    ((b.claim x).state = .idle →
      (b.holder = none →
        s.claimRequest x = ({ s with punch := { b.setClaim x ⟨.holding, 1⟩ with leaderOwed := true } }, .a00)) ∧
      (b.holder ≠ none → s.claimRequest x = (held ⟨.waiting, 1⟩, .a00))) ∧
    ((b.claim x).state = .draining →
      (b.piece ≠ .trailer → s.claimRequest x = (held ⟨.holding, 1⟩, .a00)) ∧
      (b.piece = .trailer →
        s.claimRequest x = ({ s with punch := { b.setClaim x ⟨.holding, 1⟩ with piece := .none, rows := [] } }, .a00))) ∧
    ((b.claim x).state = .idle ∨ (b.claim x).state = .draining → s.releaseRequest x = (s, .n11) ∧ s.releaseAll x = s) ∧
    ((b.claim x).state = .holding ∨ (b.claim x).state = .waiting →
      ((b.claim x).count < 15 → s.claimRequest x = (held ⟨(b.claim x).state, (b.claim x).count + 1⟩, .a00)) ∧
      (15 ≤ (b.claim x).count → s.claimRequest x = (s, .n10)) ∧
      (1 < (b.claim x).count → s.releaseRequest x = (held ⟨(b.claim x).state, (b.claim x).count - 1⟩, .a00)) ∧
      ((b.claim x).count ≤ 1 → s.releaseRequest x = (s.releaseAll x, .a00))) ∧
    ((b.claim x).state = .holding → s.releaseAll x = held ⟨.draining, 0⟩) ∧
    ((b.claim x).state = .waiting → s.releaseAll x = (held ⟨.idle, 0⟩).abandonMarked x) := by
  intro b held
  have hpiece : ∀ c, (s.punch.setClaim x c).piece = s.punch.piece := fun c => by cases x <;> rfl
  refine ⟨fun h => ⟨fun hn => ?_, fun hn => ?_⟩, fun h => ⟨fun hp => ?_, fun hp => ?_⟩, fun h => ?_,
    fun h => ⟨fun hc => ?_, fun hc => ?_, fun hc => ?_, fun hc => ?_⟩, fun h => ?_, fun h => ?_⟩
  · rw [claimRequest_idle h, if_pos (by simpa [b] using hn)]
    rfl
  · rw [claimRequest_idle h, if_neg (by simpa [b] using hn)]
    rfl
  · rw [claimRequest_draining h, onPunch, PunchBlock.dropTrailer, if_neg (by rw [hpiece]; exact hp)]
  · rw [claimRequest_draining h, onPunch, PunchBlock.dropTrailer, if_pos (by rw [hpiece]; exact hp)]
  · obtain h | h := h <;> simp only [releaseRequest, releaseAll, show (s.punch.claim x).state = _ from h, and_self]
  · rw [claimRequest_claims h, if_pos hc]
    rfl
  · rw [claimRequest_claims h, if_neg (Nat.not_lt.mpr hc)]
  · rw [releaseRequest_claims h, if_pos hc]
    rfl
  · rw [releaseRequest_claims h, if_neg (Nat.not_lt.mpr hc)]
  · simp only [releaseAll, show (s.punch.claim x).state = _ from h]
    rfl
  · simp only [releaseAll, show (s.punch.claim x).state = _ from h]
    rfl

end State

open State

/-- Settles O44: P by its execution, the claims by their state, and a freed waiter's records one by one. -/
theorem claimsAndReleases : Obligations.ClaimsAndReleases := by
  refine ⟨fun s src body v hb hf hv hline => ?_, claim_states, fun s c => ⟨rfl, rfl, rfl, rfl, rfl, rfl⟩, fun s x hd => ?_, fun s x => ?_⟩
  · obtain ⟨fs, hread, hvs⟩ := fieldsAre_iff.mp hf
    have h := does_effect_plain (k := .punch) hb (if_pos hline) (by decide) (unopened rfl) hread
      (by rw [hvs]; simpa [DirKind.fieldsOk] using hv)
    simp only [effect, doPunch, hvs, List.cons.injEq, and_true] at h
    split at h
    · rwa [if_pos ‹_›]
    · rwa [if_neg ‹_›]
  · intro v
    refine ⟨fun e he h1 h2 hp hx => ?_, fun e h1 h2 hor => ?_, eq_of_unrecorded (abandonMarked_unrecorded s x),
      eq_of_frame (fun u => u.store.cells) (fun _ => rfl) (abandonMarked_unrecorded s x) rfl,
      eq_of_frame (fun u => u.store.openStack) (fun _ => rfl) (abandonMarked_unrecorded s x) rfl⟩
    · rw [record_abandonMarked_place hd ⟨h1, h2⟩, if_pos ⟨e, he, rfl⟩]
      exact punchGivenUp_cases hp hx
    · rw [record_abandonMarked_place hd ⟨h1, h2⟩, punchGivenUp_of_not hor, ite_self]
  · rw [abandonMarked_foldl]
    congr 1
    funext u e
    by_cases h : (u.record e).punch.status = .pending ∧ (u.record e).punchSource = x
    · have howed := (Record.owed_iff _).mpr h.1
      rw [if_pos h, giveUpPunch, if_pos (by simp [howed, h.2]), updRecord, Output.giveUp, if_pos howed]
    · rw [if_neg h, giveUpPunch, if_neg (by simpa [Output.owed] using h)]

end Sys2Proof.Machine
end

section
/-! PROOF. Listings, retrievals, copies, and the deferred actions (sections 7.5, 7.7, 5.4, 9.3, 9.6, 9.7, 9.10). -/

namespace Sys2Proof.Machine

/-! ### Listing lines -/

theorem fieldLine_eq (fs : List (List Code)) : fieldLine fs = List.intercalate [0o040#7] fs ++ [0o015#7, 0o012#7] := rfl

theorem goneLine_eq (e : Nat) :
    goneLine e = [digit (e / 10), digit e, 0o040#7, 0o107#7, 0o117#7, 0o116#7, 0o105#7, 0o015#7, 0o012#7] := rfl

theorem recState_letter (st : RecState) : st ≠ .empty →
    st.letter =
      match st with
      | .receiving => 0o122#7 | .suspended => 0o123#7 | .composing => 0o127#7 | .complete => 0o103#7 | .cut => 0o130#7
      | .empty => 0o000#7 := by
  cases st <;> simp [RecState.letter] <;> rfl

theorem listingLine_eq (e : Nat) (r : Record) (h : r.state ≠ .empty) :
    listingLine e r =
      [digit (e / 10), digit e, 0o040#7] ++
        (match r.serial with
          | none => [0o055#7, 0o055#7, 0o055#7, 0o055#7]
          | some n => [digit (n / 1000), digit (n / 100), digit (n / 10), digit n]) ++
        [0o040#7, digit r.precedence, 0o040#7, match r.origin with | .line => 0o114#7 | .keyboard => 0o113#7 | .station => 0o123#7] ++
        [0o040#7] ++ number r.length ++
        [0o040#7,
          match r.state with
            | .receiving => 0o122#7 | .suspended => 0o123#7 | .composing => 0o127#7 | .complete => 0o103#7 | .cut => 0o130#7
            | .empty => 0o000#7] ++
        [0o040#7] ++ number r.doubtful ++ [0o040#7] ++ number r.mutilated ++
        [0o040#7, if r.implicit = true then 0o111#7 else 0o055#7, if r.retained = true then 0o122#7 else 0o055#7,
          if r.deletePending = true then 0o120#7 else 0o055#7, if r.duplicate = true then 0o104#7 else 0o055#7,
          if r.overflowed = true then 0o117#7 else 0o055#7, 0o015#7, 0o012#7] := by
  rw [listingLine, fieldLine_eq, listingFields, recState_letter _ h]
  cases r.serial <;> cases r.origin <;>
    simp only [List.intercalate, List.intersperse, List.flatten_cons, List.flatten_nil, List.append_assoc, List.cons_append,
      List.nil_append, List.append_nil, twoDigits, serialOrHyphens, fourDigits, letterFlag] <;> rfl

namespace State

variable {s : State}

/-- The notice of a listing (R172, R194). -/
theorem listing_text (s : State) :
    noticeText (echo (s.call .list .keyboard [])) s.listingHead s.listingLines =
      [0o114#7, 0o015#7, 0o012#7] ++ Reason.a00.text ++ [0o040#7] ++ number s.store.arrival.length ++
        [0o015#7, 0o012#7] ++ (s.store.arrival.map fun e => listingLine e (s.record e)).flatten := by
  have hecho : echo (s.call .list .keyboard []) = [0o114#7] := rfl
  rw [hecho, noticeText, listingLines, listingHead, Reply.text]
  simp [spaced, crlf]

/-! ### Deferred actions -/

theorem makeDeferred_one (s : State) (d : Deferred) :
    s.makeDeferred (d == .clear) (d == .reset) =
      match d with | .none => s | .clear => s.clearRequest | .reset => s.stationResetEffect := by
  cases d <;> simp [makeDeferred]

/-- The state in which a head's deferred action is made (log entry 13). -/
def headGone (s : State) (rest : List ReplyEntry) : State :=
  { s with
    tx := { s.tx with reply := none, inFlight := s.tx.inFlight.map releaseReply }
    dir := { s.dir with queue := rest } }

theorem deferredEvent_head {h : ReplyEntry} {rest : List ReplyEntry} {a : Deferred} (hq : s.dir.queue = h :: rest)
    (hd : h.deferred = a) :
    s.deferredEvent a =
      match h.deferred with
      | .none => s.headGone rest
      | .clear => (s.headGone rest).clearRequest
      | .reset => (s.headGone rest).stationResetEffect := by
  simp only [deferredEvent, hq, if_pos hd, removeHead]
  rw [show (s.onTx fun b => { b with reply := none, inFlight := b.inFlight.map releaseReply }).dir.queue = h :: rest from hq]
  exact makeDeferred_one _ _

theorem doReset_eq (s : State) (src : DirSource) :
    s.doReset (s.call .reset src []) =
      if fromLine src = true then s.answerWith (s.call .reset src []) Reason.a00.alone .reset
      else (s.answer (s.call .reset src []) Reason.a00.alone).stationResetEffect := by
  cases src <;> simp [doReset, call, fromLine]

theorem doHangUp_eq (s : State) (src : DirSource) :
    s.doHangUp (s.call .hangUp src []) =
      if fromLine src = true then s.answerWith (s.call .hangUp src []) Reason.a00.alone .clear
      else s.clearRequest.answer (s.call .hangUp src []) Reason.a00.alone := by
  cases src <;> simp [doHangUp, call, fromLine]

end State

open State

/-- Settles O45: L by its execution, the lines field by field, and the end of a line of a listing by what is captured. -/
theorem listingsOfTheDirectory : Obligations.ListingsOfTheDirectory := by
  refine ⟨fun s src hb ho => ?_, fun e r h => ⟨listingLine_eq e r h, goneLine_eq e⟩, fun s h rest hq => ?_⟩
  · have hdoes := does_effect_plain (k := .list) hb (by cases src <;> rfl) (by decide) (fun _ => ho) readFields_nil rfl
    rw [effect, doList] at hdoes
    cases src with
    | keyboard =>
      simp only [show (s.call .list .keyboard []).src = .keyboard from rfl, listing_text] at hdoes
      refine ⟨nofun, nofun, fun _ => ?_⟩
      intro text
      exact ⟨fun hfit => by rwa [if_pos hfit] at hdoes, fun hfit => by rwa [if_neg (ne_true_of_eq_false hfit)] at hdoes⟩
    | line c1 c2 =>
      simp only [show (s.call .list (.line c1 c2) []).src = .line c1 c2 from rfl] at hdoes
      exact ⟨fun _ hany => by rwa [if_neg (by simp [hany])] at hdoes, fun _ hany => by rwa [if_pos hany] at hdoes, nofun⟩
  · intro v
    refine ⟨fun c hc => ?_, fun hc => ?_⟩
    · simp only [replySent, show (s.onTx fun b => { b with reply := none }).dir.queue = _ from hq, hc]
      rfl
    · simp only [replySent, show (s.onTx fun b => { b with reply := none }).dir.queue = _ from hq, hc, removeHead]
      exact makeDeferred_one _ _

/-- Settles O46: R and G by the rows of R55 and R173. -/
theorem retrievalsAndCopiesBegin : Obligations.RetrievalsAndCopiesBegin := by
  refine ⟨fun s src body e hb hline ho hf h1 h32 => ?_, fun s body e hb ho hf h1 h32 => ?_⟩
  · obtain ⟨fs, hread, hvs⟩ := fieldsAre_iff.mp hf
    have hdoes := does_effect_plain (k := .retrieve) hb (if_pos hline) (by decide) (fun _ => ho) hread
      (by rw [hvs]; simp [DirKind.fieldsOk, h1, h32])
    rw [effect, doRetrieve, hvs, List.headD_cons, requestRetrieval] at hdoes
    intro r c
    refine ⟨fun hst hdel hsend htx => ?_, fun htx => ?_, fun htx hor => ?_, fun hst hdel hor => ?_⟩
    · rw [if_neg (by simp [htx]), if_neg, if_neg] at hdoes
      · exact hdoes
      · obtain h | h := hst <;> simp [h, r, RecState.isOpen, Output.owed, hsend]
      · obtain h | h := hst <;> simp [h, r, hdel]
    · rwa [if_pos htx] at hdoes
    · rwa [if_neg (by simp [htx]), if_pos (by simpa [r] using hor)] at hdoes
    · by_cases htx : s.tx.retrieval.isSome = true
      · rwa [if_pos htx] at hdoes
      · rwa [if_neg htx, if_neg (by simpa [r, hdel] using hst), if_pos (by simpa [r, Output.owed] using hor)] at hdoes
  · obtain ⟨fs, hread, hvs⟩ := fieldsAre_iff.mp hf
    have hdoes := does_effect_plain (k := .copy) hb rfl (by decide) (fun _ => ho) hread
      (by rw [hvs]; simp [DirKind.fieldsOk, h1, h32])
    rw [effect, doCopy, hvs, List.headD_cons, requestCopy] at hdoes
    intro r c
    refine ⟨fun hor => ?_, fun hst hdel hor => ?_, fun hst hdel hpun hlen => ?_⟩
    · rwa [if_pos (by simpa [r] using hor)] at hdoes
    · rw [if_neg (by simpa [r, hdel] using hst)] at hdoes
      by_cases howed : (s.record e).punch.owed = true
      · rwa [if_pos howed] at hdoes
      · rwa [if_neg howed, if_pos (by simpa [r, (Record.owed_iff _).not.mp howed] using hor)] at hdoes
    · rwa [if_neg (by simpa [r, hdel] using hst), if_neg (by simpa [r, Output.owed] using hpun), if_neg (by omega)] at hdoes

/-- Settles O51: Y and H by their execution, and the deferred actions at the head of the reply queue. -/
theorem resetsAndHangUps : Obligations.ResetsAndHangUps := by
  refine ⟨fun s src hb ho => ?_, fun s src hb => ?_, fun s h rest hp hq => ?_⟩
  · have hdoes := does_effect_plain (k := .reset) hb (by cases src <;> rfl) (by decide) (fun _ => ho) readFields_nil rfl
    rwa [effect, doReset_eq] at hdoes
  · have hdoes := does_effect_plain (k := .hangUp) hb (by cases src <;> rfl) (by decide) (unopened rfl) readFields_nil rfl
    rwa [effect, doHangUp_eq] at hdoes
  · refine ⟨fun hd => ?_, fun hd => ?_⟩
    · have hdoes := EventOf.deferredReset.does hp
      rw [deferredEvent_head hq hd, hd] at hdoes
      exact hdoes
    · have hdoes := EventOf.deferredClear.does hp
      rw [deferredEvent_head hq hd, hd] at hdoes
      exact hdoes

end Sys2Proof.Machine
end

section
/-! PROOF. Parameters, table loads and commits (sections 1.5, 9.9, 11.2 to 11.5). -/

namespace Sys2Proof.Machine

/-! ### Parameters -/

/-- The ranges that end at 1. -/
theorem parRange_switches : ∀ n ∈ [2, 6, 7, 8, 9, 10, 12, 15, 17, 18, 22, 30, 34], n ≠ 11 ∧ n ≠ 16 ∧ parRange n = (0, 1) := by decide

/-- The ranges of the other parameters without a gap. -/
theorem parRange_values :
    ∀ q ∈ [(1, 0, 5), (3, 8, 30), (4, 8, 48), (5, 5, 50), (13, 20, 132), (14, 0, 20), (19, 0, 64), (20, 0, 63), (21, 0, 3),
          (23, 5, 255), (24, 0, 255), (25, 1, 50), (26, 0, 255), (27, 100, 65535), (28, 0, 4095), (29, 0, 31), (31, 32, 127),
          (32, 32, 127), (33, 32, 127)], q.1 ≠ 11 ∧ q.1 ≠ 16 ∧ parRange q.1 = q.2 := by decide

theorem clampPar_of_plain {n : Nat} (h11 : n ≠ 11) (h16 : n ≠ 16) (v : Nat) :
    clampPar n v = max (parRange n).1 (min v (parRange n).2) := by simp [clampPar, h11, h16]

theorem clampPar_eleven (v : Nat) : clampPar 11 v = if v = 0 then 0 else max 10 (min v 600) := by
  have hclamp : clampPar 11 v = if 1 ≤ v ∧ v ≤ 9 then 10 else min v 600 := by simp [clampPar, show parRange 11 = (0, 600) from rfl]
  rw [hclamp]
  split <;> split <;> omega

theorem clampPar_sixteen (v : Nat) : clampPar 16 v = if v = 0 then 0 else max 12 (min v 127) := by
  have hclamp : clampPar 16 v = if 1 ≤ v ∧ v ≤ 11 then 12 else min v 127 := by simp [clampPar, show parRange 16 = (0, 127) from rfl]
  rw [hclamp]
  split <;> split <;> omega

/-! ### Table loads -/

/-- Every load that is accepted, and what it gives (R17). -/
theorem load_some_iff (p q : Profile) (i : Nat) :
    (∀ c, p.load [1, i, 1, c] = some q ↔ i ≤ 63 ∧ c ≤ 127 ∧ q = { p with rxMap := p.rxMap.set i (.character (BitVec.ofNat 7 c)) }) ∧
    (p.load [1, i, 0] = some q ↔ i ≤ 63 ∧ q = { p with rxMap := p.rxMap.set i .ignore }) ∧
    (p.load [1, i, 2] = some q ↔ i ≤ 63 ∧ q = { p with rxMap := p.rxMap.set i .shiftLetters }) ∧
    (p.load [1, i, 3] = some q ↔ i ≤ 63 ∧ q = { p with rxMap := p.rxMap.set i .shiftFigures }) ∧
    (∀ lc tp,
      let loaded (as : SendAs) : Profile := { p with codeTable := p.codeTable.set i ⟨as, if tp = 64 then none else some tp⟩ }
      (p.load [2, i, 0, lc, tp] = some q ↔ i ≤ 127 ∧ lc = 0 ∧ tp ≤ 64 ∧ q = loaded .none) ∧
      (p.load [2, i, 1, lc, tp] = some q ↔ i ≤ 127 ∧ lc ≤ 31 ∧ tp ≤ 64 ∧ q = loaded (.letters (BitVec.ofNat 5 lc))) ∧
      (p.load [2, i, 2, lc, tp] = some q ↔ i ≤ 127 ∧ lc ≤ 31 ∧ tp ≤ 64 ∧ q = loaded (.figures (BitVec.ofNat 5 lc))) ∧
      (p.load [2, i, 3, lc, tp] = some q ↔ i ≤ 127 ∧ lc ≤ 31 ∧ tp ≤ 64 ∧ q = loaded (.both (BitVec.ofNat 5 lc)))) ∧
    (∀ v, p.load [3, i, 0, v] = some q ↔ i ≤ 127 ∧ v = 0 ∧ q = { p with keyTable := p.keyTable.set i .none }) ∧
    (∀ c, p.load [3, i, 1, c] = some q ↔ i ≤ 127 ∧ c ≤ 127 ∧ c ≠ 27 ∧
      q = { p with keyTable := p.keyTable.set i (.character (BitVec.ofNat 7 c)) }) ∧
    (∀ n, p.load [3, i, 2, n] = some q ↔ i ≤ 127 ∧ 1 ≤ n ∧ n ≤ 16 ∧
      q = { p with keyTable := p.keyTable.set i (.function (KeyFn.ofNumber n)) }) ∧
    (∀ c, 1 ≤ i → (p.load [4, i, c] = some q ↔ i ≤ 20 ∧ c ≤ 127 ∧ c ≠ 5 ∧ c ≠ 27 ∧
      q = { p with answerbackCodes := p.answerbackCodes.set (i - 1) (BitVec.ofNat 7 c) })) ∧
    (∀ n, p.load [4, 0, n] = some q ↔ n ≤ 20 ∧ q = { p with answerbackLen := n }) ∧
    (∀ a b, p.load [5, 0, a, b] = some q ↔ (65 ≤ a ∧ a ≤ 90) ∧ (65 ≤ b ∧ b ≤ 90) ∧ ¬(a = 90 ∧ b = 90) ∧
      q = { p with callCode := some (BitVec.ofNat 7 a, BitVec.ofNat 7 b) }) ∧
    (p.load [5, 0] = some q ↔ q = { p with callCode := none }) := by
  refine ⟨fun c => ?_, ?_, ?_, ?_, fun lc tp => ⟨?_, ?_, ?_, ?_⟩, fun v => ?_, fun c => ?_, fun n => ?_, fun c hi => ?_, fun n => ?_,
    fun a b => ?_, ?_⟩
  · simp [Profile.load, rxFromFields, @eq_comm Profile _ q]
  · simp [Profile.load, rxFromFields, @eq_comm Profile _ q]
  · simp [Profile.load, rxFromFields, @eq_comm Profile _ q]
  · simp [Profile.load, rxFromFields, @eq_comm Profile _ q]
  · simp only [Profile.load, codeFromFields]
    by_cases hlc : lc = 0 <;> simp [hlc, @eq_comm Profile _ q]
  · simp [Profile.load, codeFromFields, and_assoc, @eq_comm Profile _ q]
  · simp [Profile.load, codeFromFields, and_assoc, @eq_comm Profile _ q]
  · simp [Profile.load, codeFromFields, and_assoc, @eq_comm Profile _ q]
  · simp [Profile.load, keyFromFields, @eq_comm Profile _ q]
  · simp [Profile.load, keyFromFields, and_assoc, @eq_comm Profile _ q]
  · simp [Profile.load, keyFromFields, and_assoc, @eq_comm Profile _ q]
  · simp [Profile.load, Profile.loadAnswerback, and_assoc, show i ≠ 0 by omega, hi, @eq_comm Profile _ q]
  · simp [Profile.load, Profile.loadAnswerback, @eq_comm Profile _ q]
  · simp [Profile.load, callFromFields, and_assoc, @eq_comm Profile _ q]
  · simp [Profile.load, callFromFields, @eq_comm Profile _ q]

section
variable {vs : List Nat}

theorem rxFromFields_length (h1 : vs.length ≠ 1) (h2 : vs.length ≠ 2) : rxFromFields vs = none := by
  unfold rxFromFields
  split <;> simp_all

theorem codeFromFields_length (h : vs.length ≠ 3) : codeFromFields vs = none := by
  unfold codeFromFields
  split <;> simp_all

theorem keyFromFields_length (h : vs.length ≠ 2) : keyFromFields vs = none := by
  unfold keyFromFields
  split <;> simp_all

theorem loadAnswerback_length (h : vs.length ≠ 1) (p : Profile) (i : Nat) : p.loadAnswerback i vs = none := by
  unfold Profile.loadAnswerback
  split <;> simp_all

theorem callFromFields_length (h : vs.length ≠ 0 ∧ vs.length ≠ 2) : callFromFields vs = none := by
  unfold callFromFields
  split <;> simp_all

end

/-- The loads that are refused for their number of fields or a field that names no table and no kind (R17). -/
theorem load_none (p : Profile) (t i : Nat) (vs : List Nat) :
    p.load [] = none ∧ p.load [t] = none ∧ (t < 1 ∨ 5 < t → p.load (t :: i :: vs) = none) ∧
    (vs.length ≠ 1 → vs.length ≠ 2 → p.load (1 :: i :: vs) = none) ∧
    (∀ k, k = 1 ∨ 3 < k → p.load [1, i, k] = none) ∧ (∀ k c, k ≠ 1 → p.load [1, i, k, c] = none) ∧
    (vs.length ≠ 3 → p.load (2 :: i :: vs) = none) ∧ (∀ k lc tp, 3 < k → p.load [2, i, k, lc, tp] = none) ∧
    (vs.length ≠ 2 → p.load (3 :: i :: vs) = none) ∧ (∀ k v, 2 < k → p.load [3, i, k, v] = none) ∧
    (vs.length ≠ 1 → p.load (4 :: i :: vs) = none) ∧
    (i ≠ 0 ∨ (vs.length ≠ 0 ∧ vs.length ≠ 2) → p.load (5 :: i :: vs) = none) := by
  refine ⟨rfl, rfl, fun ht => ?_, fun h1 h2 => ?_, fun k hk => ?_, fun k c hk => ?_, fun h => ?_, fun k lc tp hk => ?_, fun h => ?_,
    fun k v hk => ?_, fun h => ?_, fun h => ?_⟩
  · simp only [Profile.load]
    rw [if_neg (by omega), if_neg (by omega), if_neg (by omega), if_neg (by omega), if_neg (by omega)]
  · simp [Profile.load, rxFromFields_length h1 h2]
  · simp [Profile.load, rxFromFields, show k ≠ 0 ∧ k ≠ 2 ∧ k ≠ 3 by omega]
  · simp [Profile.load, rxFromFields, hk]
  · simp [Profile.load, codeFromFields_length h]
  · simp [Profile.load, codeFromFields, show ¬k ≤ 3 by omega]
  · simp [Profile.load, keyFromFields_length h]
  · simp [Profile.load, keyFromFields, show k ≠ 0 ∧ k ≠ 1 ∧ k ≠ 2 by omega]
  · simp [Profile.load, loadAnswerback_length h]
  · obtain h | h := h
    · simp [Profile.load, h]
    · simp [Profile.load, callFromFields_length h]

namespace State

variable {s : State}

/-- A changed working copy, with the print and connection blocks written out (R73, R151). -/
theorem changeWorking_blocks (s : State) (p : Profile) :
    s.changeWorking p =
      { s with
        profile := { s.profile with working := p }
        print :=
          if p.lineLength = s.working.lineLength ∧ p.formLength = s.working.formLength then s.print
          else
            { s.print with
              column := min s.print.column (p.lineLength + 1)
              pageLine := if p.formLength = 0 then 1 else min s.print.pageLine p.formLength }
        conn :=
          if p.lineIdleS ≠ s.working.lineIdleS ∧ s.conn.state = .connected ∧ s.conn.lineType = .switched then
            { s.conn with lineIdle := if p.lineIdleS = 0 then none else some (p.lineIdleS * 1000) }
          else s.conn } := by
  have hform : (p.lineLength ≠ s.working.lineLength ∨ p.formLength ≠ s.working.formLength) ↔
      ¬(p.lineLength = s.working.lineLength ∧ p.formLength = s.working.formLength) := by tauto
  rw [changeWorking_eq]
  simp only [hform, ite_not, idleTimed_iff]
  split <;> split <;> rfl

end State

open State

/-- Settles O49: A and B by their execution, the ranges and the loads by the tables of R17 and R190. -/
theorem parametersAndTableLoads : Obligations.ParametersAndTableLoads := by
  refine ⟨⟨fun s src body n v hb ho hf h1 h34 => ?_, fun s p => ⟨?_, fun hl hform hidle => ?_, changeWorking_blocks s p⟩,
    fun v => ⟨fun n hn => ?_, fun q hq => ?_, clampPar_eleven v, clampPar_sixteen v⟩, fun s src body vs hb ho hf => ?_⟩,
    load_some_iff, rfl, load_none⟩
  · obtain ⟨fs, hread, hvs⟩ := fieldsAre_iff.mp hf
    have hdoes := does_effect_plain (k := .setPar) hb (by cases src <;> rfl) (by decide) (fun _ => ho) hread
      (by rw [hvs]; simp [DirKind.fieldsOk, h1, h34])
    simp only [effect, hvs, doSetPar, Profile.setParameter] at hdoes
    intro p
    refine ⟨fun hor => ?_, fun hn hlow => ?_⟩
    · rwa [if_neg hor] at hdoes
    · rwa [if_pos ⟨hn, hlow⟩] at hdoes
  · simp [working]
  · rw [changeWorking_blocks, if_pos ⟨hl, hform⟩, if_neg (by simp [hidle])]
  · obtain ⟨h11, h16, hrange⟩ := parRange_switches n hn
    rw [clampPar_of_plain h11 h16, hrange]
    omega
  · obtain ⟨h11, h16, hrange⟩ := parRange_values q hq
    rw [clampPar_of_plain h11 h16, hrange]
  · obtain ⟨fs, hread, hvs⟩ := fieldsAre_iff.mp hf
    have hdoes := does_effect_plain (k := .load) hb (by cases src <;> rfl) (by decide) (fun _ => ho) hread rfl
    simp only [effect, hvs, doLoad] at hdoes
    refine ⟨fun p hp => ?_, fun hn => ?_⟩
    · simp only [hp] at hdoes
      exact hdoes
    · simp only [hn] at hdoes
      exact hdoes

/-! ### Commits -/

theorem checkWord_toNat (bs : List (BitVec 8)) : (checkWord bs).toNat = 65535 - (bs.map (·.toNat)).sum % 65536 := by
  rw [checkWord, BitVec.toNat_ofNat, byteSum]
  omega

theorem checkPasses_iff (bs : List (BitVec 8)) (w : BitVec 16) :
    checkPasses bs w = true ↔ ((bs.map (·.toNat)).sum + w.toNat) % 65536 = 65535 := by
  rw [checkPasses, byteSum, beq_iff_eq]

/-- The check word composed for the bytes is the only one that passes. -/
theorem checkPasses_iff_eq (bs : List (BitVec 8)) (w : BitVec 16) : checkPasses bs w = true ↔ w = checkWord bs := by
  rw [checkPasses_iff, ← BitVec.toNat_inj, checkWord_toNat]
  have := w.isLt
  omega

namespace State

variable {s : State}

/-- The completion of a commit (R175, R192). -/
theorem commitDone_some {written : Image} {line : Bool} (h : s.profile.commit = some ⟨written, line⟩) (same : Bool) :
    s.commitDone same =
      let v : State :=
        { s with
          spoilt := if same = true then s.spoilt else s.spoilt + 1
          profile := { s.profile with image := if same = true then written else .spoilt s.spoilt, commit := none, fault := !same } }
      let r : Reason := if same = true then .a00 else .n14
      if line = true then
        { v with
          dir :=
            { s.dir with
              queue :=
                s.dir.queue.map fun q =>
                  if q.kind = .reserved then ⟨.lineReply, Reply.lineText s.working r.alone, .none, [], 0⟩ else q } }
      else v.notice (noticeText [0o126#7] r.alone []) := by
  simp only [commitDone, h]
  cases same <;> cases line <;> rfl

end State

/-- Settles O50: V and its completion by their execution, the check by arithmetic modulo 65536. -/
theorem commitsAreWrittenAndReadBack : Obligations.CommitsAreWrittenAndReadBack := by
  refine ⟨fun s src hb ho => ?_, fun s written line same hp hc => ?_,
    fun bs => ⟨(checkPasses_iff_eq bs _).mpr rfl, checkWord_toNat bs, checkPasses_iff bs, checkPasses_iff_eq bs⟩,
    fun p => ⟨rfl, Image.written_passes p⟩, fun n => ⟨rfl, rfl, fun p hp hwf => ?_, Image.spoilt_parts_wf n⟩,
    fun i => ⟨checkPasses_iff _ _, fun h => ?_, fun h => ?_⟩⟩
  · have hdoes := does_effect_plain (k := .commit) hb (by cases src <;> rfl) (by decide) (fun _ => ho) readFields_nil rfl
    rw [effect, doCommit] at hdoes
    refine ⟨fun hc hline => ?_, fun hc hline => ?_, fun hc => ?_⟩
    · rw [if_neg (by simp [hc])] at hdoes
      simp only [call, hline, if_true] at hdoes
      exact hdoes
    · rw [if_neg (by simp [hc])] at hdoes
      simp only [call, hline, Bool.false_eq_true, if_false] at hdoes
      exact hdoes
    · rwa [if_pos hc] at hdoes
  · have hdoes := (EventOf.commitCompletion same).does hp
    rw [commitDone_some hc] at hdoes
    exact ⟨_, _, fun h => ⟨if_pos h, if_pos h⟩, fun h => ⟨if_neg (by simp [h]), if_neg (by simp [h])⟩, hdoes⟩
  · simp only [Image.spoilt, hp, hwf, if_true]
  · rw [Image.loaded, if_pos h]
  · rw [Image.loaded, if_neg (by simp [h])]

end Sys2Proof.Machine
end

section
/-! PROOF. Texts written whole into a record, and the answers (sections 3.6, 9.3, 10.5). -/

namespace Sys2Proof.Machine
namespace State

variable {s t v : State} {e : Nat} {cs : List Code}

/-! ### A text appended to a record -/

theorem grown_good (r : Record) : r.grown .good = { r with length := r.length + 1 } := rfl

/-- The text `cs` appended to entry `e` of `s`, which held no cell, gives `v`. -/
structure Written (s : State) (e : Nat) (cs : List Code) (v : State) : Prop where
  dir : v.store.dir.length = 32
  canonical : v.CellsCanonical
  record : v.record e = { s.record e with length := cs.length, blocks := s.store.free.take ((cs.length + 63) / 64) }
  free : v.store.free = s.store.free.drop ((cs.length + 63) / 64)
  arrival : v.store.arrival = s.store.arrival
  cells : ∀ i, i < cs.length → v.cellOf e i = ⟨cs.getD i 0, .good⟩
  others : ∀ x, Numbered x → x ≠ e → v.record x = s.record x

theorem Written.nil (hd : s.store.dir.length = 32) (hc : s.CellsCanonical) (hlen : (s.record e).length = 0)
    (hblocks : (s.record e).blocks = []) : Written s e [] s where
  dir := hd
  canonical := hc
  record := by
    calc s.record e = { s.record e with length := (s.record e).length, blocks := (s.record e).blocks } := rfl
      _ = _ := by rw [hlen, hblocks]; rfl
  free := rfl
  arrival := rfl
  cells := fun i hi => absurd hi (by simp)
  others := fun _ _ _ => rfl

/-- In a list of distinct blocks no two places are at one address. -/
theorem cellAddress_injective {r : Record} (hnodup : r.blocks.Nodup) {i j : Nat} (hi : i / 64 < r.blocks.length)
    (hj : j / 64 < r.blocks.length) (h : cellAddress r i = cellAddress r j) : i = j := by
  simp only [cellAddress, List.getD_eq_getElem?_getD, List.getElem?_eq_getElem hi, List.getElem?_eq_getElem hj,
    Option.getD_some] at h
  have hblock : r.blocks[i / 64] = r.blocks[j / 64] := by omega
  have := hnodup.getElem_inj_iff.mp hblock
  omega

theorem cellAddress_append (r : Record) (l : List Nat) (n : Nat) {i : Nat} (hi : i / 64 < r.blocks.length) :
    cellAddress { r with length := n, blocks := r.blocks ++ l } i = cellAddress r i := by
  simp only [cellAddress, List.getD_eq_getElem?_getD, List.getElem?_append_left hi]

/-- The blocks that an append takes are the next of those at the start. -/
theorem blocks_next {free taken rest : List Nat} {k : Nat} (hfree : free.drop ((k + 63) / 64) = taken ++ rest)
    (htaken : taken.length = if k % 64 = 0 then 1 else 0) :
    free.take ((k + 63) / 64) ++ taken = free.take ((k + 1 + 63) / 64) ∧ rest = free.drop ((k + 1 + 63) / 64) := by
  have hnext : (k + 1 + 63) / 64 = (k + 63) / 64 + taken.length := by
    rw [htaken]
    split <;> omega
  have htake : (free.drop ((k + 63) / 64)).take taken.length = taken := by rw [hfree, List.take_left]
  have hdrop : (free.drop ((k + 63) / 64)).drop taken.length = rest := by rw [hfree, List.drop_left]
  rw [hnext, List.take_add, htake, ← List.drop_drop, hdrop]
  exact ⟨rfl, rfl⟩

theorem Written.append (h : Written s e cs v) (he : Numbered e) (hnodup : s.store.free.Nodup) (hlen : cs.length < 16383)
    (hfree : (cs.length + 1 + 63) / 64 ≤ s.store.free.length) (c : Code) :
    ∃ u, v.append e ⟨c, .good⟩ = some u ∧ Written s e (cs ++ [c]) u := by
  have hlength : (v.record e).length = cs.length := by rw [h.record]
  have hsome : v.append e ⟨c, .good⟩ ≠ none := by
    rw [Ne, append_none_iff, hlength, h.free, List.drop_eq_nil_iff]
    omega
  obtain ⟨u, hu⟩ := Option.ne_none_iff_exists'.mp hsome
  obtain ⟨-, harr, hdir, taken, htakes, htaken, -, hrec⟩ := append_some h.dir he hu
  obtain ⟨hread, hother⟩ := append_cellsWritten h.canonical h.dir he hu
  rw [hlength] at htaken hread hother
  rw [h.free] at htakes
  obtain ⟨htake, hdrop⟩ := blocks_next htakes htaken
  have hself : u.record e = { s.record e with
      length := cs.length + 1, blocks := s.store.free.take ((cs.length + 63) / 64) ++ taken } := by
    rw [hrec e he, if_pos rfl, grown_good, h.record]
  refine ⟨u, hu, hdir, h.canonical.append hu, ?_, ?_, harr.trans h.arrival, fun i hi => ?_, fun x hx hne => ?_⟩
  · rw [hself, htake, List.length_append, List.length_singleton]
  · rw [hdrop, List.length_append, List.length_singleton]
  · rw [List.length_append, List.length_singleton] at hi
    by_cases hlast : i = cs.length
    · rw [hlast, hread]
      simp
    · have hib : i / 64 < (s.store.free.take ((cs.length + 63) / 64)).length := by
        rw [List.length_take]
        omega
      have haddr : cellAddress (u.record e) i = cellAddress (v.record e) i := by
        rw [hself, h.record]
        exact cellAddress_append { s.record e with length := cs.length, blocks := s.store.free.take ((cs.length + 63) / 64) } taken _ hib
      have hne : cellAddress (v.record e) i ≠ cellAddress (u.record e) cs.length := by
        rw [← haddr]
        intro heq
        have hblocks : (u.record e).blocks = s.store.free.take ((cs.length + 1 + 63) / 64) := by rw [hself, htake]
        refine hlast (cellAddress_injective ?_ ?_ ?_ heq)
        · rw [hblocks]
          exact hnodup.sublist (List.take_sublist _ _)
        · rw [hblocks, List.length_take]
          omega
        · rw [hblocks, List.length_take]
          omega
      have hcell := h.cells i (by omega)
      rw [cellOf, haddr, hother _ hne, List.getD_append _ _ _ _ (by omega)]
      exact hcell
  · rw [hrec x hx, if_neg hne]
    exact h.others x hx hne

/-- A text that has its blocks is written whole. -/
theorem appendAll_written (he : Numbered e) (hd : s.store.dir.length = 32) (hc : s.CellsCanonical) (hnodup : s.store.free.Nodup)
    (hempty : (s.record e).length = 0) (hblocks : (s.record e).blocks = []) (hlen : cs.length ≤ 16383)
    (hfree : (cs.length + 63) / 64 ≤ s.store.free.length) : Written s e cs (appendAll e cs s) := by
  induction cs using List.reverseRecOn with
  | nil => exact .nil hd hc hempty hblocks
  | append_singleton cs c ih =>
    rw [List.length_append, List.length_singleton] at hlen hfree
    have hcs := ih (by omega) (by omega)
    obtain ⟨u, hu, hwritten⟩ := hcs.append he hnodup (by omega) hfree c
    have hstep : appendAll e (cs ++ [c]) s = u := by
      rw [appendAll, List.foldl_append]
      exact (congrArg (Option.getD · _) hu)
    rwa [hstep]

/-! ### The counters that a text leaves alone -/

/-- The lost-notice count and the local serial. -/
def noticeCounters (s : State) : Nat × Nat := (s.store.lostNoticeCount, s.store.localSerial)

theorem append_noticeCounters {c : Cell} (h : s.append e c = some v) : v.noticeCounters = s.noticeCounters := by
  obtain ⟨-, ⟨-, b, rest, -, rfl⟩ | ⟨-, rfl⟩⟩ := append_cases h <;> rfl

theorem appendAll_noticeCounters (e : Nat) (cs : List Code) (s : State) :
    (appendAll e cs s).noticeCounters = s.noticeCounters := by
  refine foldl_frame s noticeCounters _ (fun u c => ?_) cs
  cases h : u.append e ⟨c, .good⟩ with
  | none => rfl
  | some t => exact append_noticeCounters h

/-! ### Notices -/

theorem noticeFits_iff (s : State) (text : List Code) :
    s.noticeFits text = true ↔
      (∃ e, 1 ≤ e ∧ e ≤ 32 ∧ (s.record e).state = .empty) ∧
        ((text.filterMap s.working.storeCode).length + 63) / 64 ≤ s.store.free.length := by
  rw [noticeFits, Bool.and_eq_true, decide_eq_true_iff, Option.isSome_iff_ne_none, Ne, lowestEmpty_none_iff, blocksFor]
  push Not
  rfl

theorem notice_lost {text : List Code} (h : s.noticeFits text = false) :
    s.notice text = { s with store := { s.store with lostNoticeCount := sat16 s.store.lostNoticeCount } } := by
  simp only [notice, h, Bool.false_eq_true, if_false]
  rfl

theorem notice_made {text : List Code} (h : s.noticeFits text = true) :
    ∃ e, s.lowestEmpty = some e ∧
      s.notice text = ((appendAll e (text.filterMap s.working.storeCode) (s.placed e s.noticeRecord)).takeSerial).examine e := by
  have hsome : s.lowestEmpty.isSome = true := by
    rw [noticeFits, Bool.and_eq_true] at h
    exact h.1
  obtain ⟨e, he⟩ := Option.isSome_iff_exists.mp hsome
  refine ⟨e, he, ?_⟩
  have hcreate : s.create s.noticeRecord = some (s.placed e s.noticeRecord, e) := by rw [create_eq, he]; rfl
  rw [notice, if_pos h]
  show (match s.create s.noticeRecord with
    | none => _
    | some (s, e) => ((appendAll e _ s).takeSerial).examine e) = _
  rw [hcreate]

/-- A notice that is made: the record, its cells and its blocks. -/
theorem notice_written {text : List Code} (hfits : s.noticeFits text = true) (hd : s.store.dir.length = 32)
    (hc : s.store.cells.wf = true) (hnodup : s.store.free.Nodup) (hne : text.filterMap s.working.storeCode ≠ [])
    (hlen : (text.filterMap s.working.storeCode).length ≤ 16383) :
    ∃ e, s.lowestEmpty = some e ∧
      Written (s.placed e s.noticeRecord) e (text.filterMap s.working.storeCode) (s.notice text) := by
  obtain ⟨e, hlow, heq⟩ := notice_made hfits
  obtain ⟨he, -⟩ := lowestEmpty_some hlow
  have hdp : (s.placed e s.noticeRecord).store.dir.length = 32 := by simpa [placed] using hd
  have hrec := record_placed hd he he s.noticeRecord
  rw [if_pos rfl] at hrec
  have hw := appendAll_written (s := s.placed e s.noticeRecord) he hdp hc hnodup (by rw [hrec]; rfl) (by rw [hrec]; rfl) hlen
    ((noticeFits_iff s text).mp hfits).2
  generalize text.filterMap s.working.storeCode = cs at *
  generalize appendAll e cs (s.placed e s.noticeRecord) = w at *
  have hstays : (w.record e).examined = w.record e := by
    have hpending : (w.record e).print = ⟨.pending, 0, false⟩ := by rw [hw.record, hrec]; rfl
    have hlength : (w.record e).length ≠ 0 := by rw [hw.record]; simpa using hne
    have hdone : (w.record e).printDone = w.record e := by
      rw [Record.printDone, if_neg]
      rw [Record.printedOut_iff, hpending]
      exact fun h => hlength h.2.2.2.symm
    rw [Record.examined_eq, hdone, if_neg]
    rw [Record.disposable_iff, hpending]
    exact fun h => h.2.1 rfl
  have hrecords : ∀ x, Numbered x → (w.takeSerial.examine e).record x = w.record x := fun x hx => by
    rw [record_examine (s := w.takeSerial) hw.dir he hx]
    split
    · rename_i hxe
      rw [hxe]
      exact hstays
    · rfl
  have hexamine : w.takeSerial.examine e = w.takeSerial.setRecord e (w.record e) := by
    have hexam := hstays
    rw [Record.examined_eq] at hexam
    rw [examine_eq]
    split at hexam
    · rename_i hdisp
      have hstate : (w.record e).state = .complete := by rw [hw.record, hrec]; rfl
      rw [← hexam] at hstate
      cases hstate
    · rename_i hdisp
      have hdisp' : ¬(w.takeSerial.record e).printDone.disposable = true := hdisp
      rw [if_neg hdisp', show w.takeSerial.record e = w.record e from rfl, hexam]
  refine ⟨e, hlow, ?_⟩
  rw [heq]
  refine ⟨?_, ?_, ?_, ?_, ?_, fun i hi => ?_, fun x hx hne => ?_⟩
  · rw [examine_dir_length]
    exact hw.dir
  · exact cellsCanonical_of_cells (cells_of_unrecorded (examine_unrecorded _ e)) hw.canonical
  · rw [hrecords e he]
    exact hw.record
  · rw [hexamine]
    exact hw.free
  · rw [hexamine]
    exact hw.arrival
  · have hcells : (w.takeSerial.examine e).store.cells = w.store.cells := by rw [hexamine]; rfl
    rw [cellOf, hrecords e he, hcells]
    exact hw.cells i hi
  · rw [hrecords x hx]
    exact hw.others x hx hne

/-! ### Answers -/

theorem answer_letters : chr 'O' = 0o117#7 ∧ chr 'K' = 0o113#7 := by decide

theorem maskNumber_of_no_space {w : List Code} (h : 0o040#7 ∉ w) : maskNumber w = w := by
  have hall : ∀ c ∈ w, (c != 0o040#7) = true := fun c hc => by
    rw [bne_iff_ne]
    rintro rfl
    exact h hc
  rw [maskNumber, List.takeWhile_eq_self_iff.mpr hall, List.dropWhile_eq_nil_iff.mpr hall]
  exact List.append_nil w

theorem maskNumber_at_space {w : List Code} (h : 0o040#7 ∉ w) (n : List Code) :
    maskNumber (w ++ 0o040#7 :: n) =
      w ++ 0o040#7 :: n.map fun c => if 0o060 ≤ c.toNat ∧ c.toNat ≤ 0o071 then 0o055#7 else c := by
  have hall : ∀ c ∈ w, (c != 0o040#7) = true := fun c hc => by
    rw [bne_iff_ne]
    rintro rfl
    exact h hc
  rw [maskNumber, List.takeWhile_append_of_pos hall, List.dropWhile_append_of_pos hall]
  simp [isDigit]

end State

open State

/-- Settles O38: an answer by its source and result, a notice by what is written. -/
theorem answersGoToQueueOrNotice : Obligations.AnswersGoToQueueOrNotice := by
  refine ⟨fun s c1 c2 l body r d => ?_, fun s c1 c2 l body r d => ?_, fun s m l body r d => ?_, fun s text h => notice_lost h,
    fun s text h => ?_, fun s text => ⟨noticeFits_iff s text, fun hfits hd hc hnodup hne hlen => ?_⟩,
    fun w n h => ⟨maskNumber_of_no_space h, maskNumber_at_space h n⟩⟩
  · have hline : Reply.lineText s.working r =
        [0o015#7, 0o012#7] ++ s.working.callLetters ++ [0o040#7] ++ r.reason.text ++ spaced r.fields ++ [0o015#7, 0o012#7] := by
      simp [Reply.lineText, Reply.text, crlf]
    rw [← hline]
    rfl
  · simp [answerWith]
  · have htext : noticeText (echo ⟨.keyboard, m, l, body⟩) r [] =
        (l :: (if l = 0o117#7 ∨ l = 0o113#7 then maskNumber body else body)) ++ [0o015#7, 0o012#7] ++ r.reason.text ++
          spaced r.fields ++ [0o015#7, 0o012#7] := by
      simp [noticeText, echo, answer_letters, Reply.text, crlf]
    rw [← htext]
    rfl
  · obtain ⟨e, -, heq⟩ := notice_made h
    have hcounters := appendAll_noticeCounters e (text.filterMap s.working.storeCode) (s.placed e s.noticeRecord)
    rw [heq]
    generalize appendAll e (text.filterMap s.working.storeCode) (s.placed e s.noticeRecord) = w at *
    have hframe := examine_unrecorded w.takeSerial e
    obtain ⟨hlost, hserial⟩ := Prod.mk.inj hcounters
    refine ⟨eq_of_frame (fun u => u.store.lostNoticeCount) (fun _ => rfl) hframe hlost,
      eq_of_frame (fun u => u.store.localSerial) (fun _ => rfl) hframe ?_⟩
    show (if w.store.localSerial = 9999 then 0 else w.store.localSerial + 1) = _
    rw [hserial]
    rfl
  · obtain ⟨e, hlow, hw⟩ := notice_written hfits hd hc hnodup hne hlen
    obtain ⟨he, -⟩ := lowestEmpty_some hlow
    have hrec := record_placed hd he he s.noticeRecord
    rw [if_pos rfl] at hrec
    refine ⟨e, hlow, ?_, hw.cells, hw.free, hw.arrival, fun x h1 h2 hne => ?_⟩
    · rw [hw.record, hrec]
      rfl
    · rw [hw.others x ⟨h1, h2⟩ hne, record_placed hd he ⟨h1, h2⟩, if_neg hne]

end Sys2Proof.Machine
end

section
/-! PROOF. The refusals of directives and the two assemblers (sections 9.1, 9.2, 10.3). -/

namespace Sys2Proof.Machine

/-! ### The fields of each letter -/

/-- The letters that take no field. -/
theorem fieldsOk_bare (vs : List Nat) :
    ∀ k ∈ [DirKind.select, .deselect, .endMsg, .identify, .closeSrc, .freeze, .list, .erase, .commit, .reset, .hangUp, .clearStats],
      (k.fieldsOk vs = true ↔ vs = []) := by
  simp [DirKind.fieldsOk]

theorem fieldsOk_table (vs : List Nat) :
    (DirKind.heading.fieldsOk vs = true ↔ ∃ p n, vs = [p, n] ∧ p ≤ 3 ∧ n ≤ 9999) ∧
    (∀ k ∈ [DirKind.punch, .printSwitch], (k.fieldsOk vs = true ↔ vs = [0] ∨ vs = [1])) ∧
    (DirKind.status.fieldsOk vs = true ↔ vs = [] ∨ ∃ g, vs = [g] ∧ 1 ≤ g ∧ g ≤ 5) ∧
    (∀ k ∈ [DirKind.retrieve, .delete, .copy], (k.fieldsOk vs = true ↔ ∃ e, vs = [e] ∧ 1 ≤ e ∧ e ≤ 32)) ∧
    (DirKind.setPar.fieldsOk vs = true ↔ ∃ n v, vs = [n, v] ∧ 1 ≤ n ∧ n ≤ 34) ∧
    (∀ k ∈ [DirKind.openSrc, .number, .load], k.fieldsOk vs = true) := by
  match vs with
  | [] => simp [DirKind.fieldsOk]
  | [v] => simp [DirKind.fieldsOk, Nat.le_one_iff_eq_zero_or_eq_one]
  | [p, n] => simp [DirKind.fieldsOk]
  | _ :: _ :: _ :: _ => simp [DirKind.fieldsOk]

/-- A body that is no list of a letter's fields. -/
theorem badBody_iff {k : DirKind} {body : List Code} :
    (readFields body = none ∨ ∃ vs, FieldsAre body vs ∧ k.fieldsOk vs = false) ↔
      ∀ fs, readFields body = some fs → k.fieldsOk (fs.map fieldValue) = false := by
  cases h : readFields body with
  | none => simp
  | some fs => simp [fieldsAre_iff, h]

namespace State

variable {s : State} {k : DirKind} {c1 c2 : Code} {body : List Code}

/-! ### What an execution ignores or counts -/

theorem execute_foreign (h : k ≠ .select ∨ body ≠ []) : s.execute ⟨.line c1 c2, .foreign, k.letter, body⟩ = s := by
  have hno : ¬(some k == some DirKind.select && body.isEmpty) = true := by
    simpa [imp_iff_not_or] using h
  simp only [execute, fromLine, DirKind.ofLetter_letter, hno, Bool.true_and, beq_self_eq_true, if_true, Bool.false_eq_true, if_false]

theorem execute_unbroadcast (h : k.broadcast = false) : s.execute ⟨.line c1 c2, .broadcast, k.letter, body⟩ = s := by
  simp [execute, fromLine, h]

theorem execute_unselected (h : k = .heading ∨ k = .endMsg) (hsel : s.conn.selected = false) {m : MatchResult} (hm : m ≠ .foreign) :
    s.execute ⟨.line c1 c2, m, k.letter, body⟩ = s := by
  obtain rfl | rfl := h <;> simp [execute, fromLine, hm, hsel, DirKind.broadcast]

/-- A BROADCAST directive that is carried out when BROADCAST. -/
theorem execute_broadcast (hbc : k.broadcast = true) (hsel : k = .heading ∨ k = .endMsg → s.conn.selected = true) :
    s.execute ⟨.line c1 c2, .broadcast, k.letter, body⟩ = s.carryOut k ⟨.line c1 c2, .broadcast, k.letter, body⟩ := by
  have hline : k.onLine = true := by cases k <;> revert hbc <;> decide
  exact execute_carryOut (DirKind.ofLetter_letter k) hline (fun _ => ⟨nofun, fun _ => hbc, hsel⟩) (by simp [overrun])

theorem badFields_eq (s : State) (k : DirKind) (c : DirCall) :
    s.badFields k c =
      if fromLine c.src = true ∧ k.answered = false then { s with dir := { s.dir with malformedCount := sat16 s.dir.malformedCount } }
      else s.answer c Reason.n06.alone := by
  rw [badFields]
  simp only [Bool.and_eq_true, Bool.not_eq_true']
  rfl

theorem needsOpen_of_broadcast (h : k.broadcast = true) : k.needsOpen = false := by
  cases k <;> revert h <;> decide

/-- A directive that finds no place in the reply queue is counted (R165 step 4). -/
theorem execute_overrun {c : DirCall} (hsrc : fromLine c.src = true) (hres : c.result = .own) (hletter : c.letter = k.letter)
    (hk : k.answered = true) (hq : 4 ≤ s.dir.queue.length) :
    s.execute c = { s with dir := { s.dir with overrunCount := sat16 s.dir.overrunCount } } := by
  have hno : (some k == some DirKind.heading || some k == some DirKind.endMsg) = false := by
    cases k <;> revert hk <;> decide
  have hover : s.overrun c = true := by simp [overrun, hsrc, hres, hletter, hk, hq]
  simp only [execute, hsrc, hres, hletter, DirKind.ofLetter_letter, hover, hno, Bool.true_and, Bool.false_and, if_true,
    Bool.false_eq_true, if_false, show (MatchResult.own == MatchResult.foreign) = false from rfl,
    show (MatchResult.own == MatchResult.broadcast) = false from rfl]
  rfl

/-! ### The line assembler -/

theorem lineEnd_short {a : Assembler} (h : a.state = .call ∨ a.state = .letter) :
    s.lineEnd a = if a.result = .foreign then s.setLineAsm .start else (s.setLineAsm .start).countMalformed := by
  obtain h | h := h <;> simp only [lineEnd, h]

theorem lineHold_first {a : Assembler} (hst : a.state = .call) (hbuf : a.buffer = []) (c : Code) :
    s.lineHold a c = s.setLineAsm ⟨.call, a.result, [c]⟩ := by
  simp only [lineHold, hst, hbuf, assembler_holding, List.nil_append]

theorem lineHold_overlong {a : Assembler} (hst : a.state = .body) (hlen : 48 ≤ a.buffer.length) (c : Code) :
    s.lineHold a c = s.countOverlong.setLineAsm { a with state := .discard } := by
  simp only [lineHold, hst, if_pos hlen]

theorem assembler_rows (s : State) (q : Quality) :
    let a := s.dir.lineAsm
    let now (b : Assembler) : State := { s with dir := { s.dir with lineAsm := b } }
    let bad (b : Assembler) : State :=
      { s with dir := { s.dir with lineAsm := b, malformedCount := sat16 s.dir.malformedCount } }
    (q ≠ .mutilated → s.handLine 0o033#7 q = now ⟨.call, .none, []⟩) ∧
    (∀ c, q ≠ .mutilated → bodyCodeOk c = true → a.state = .call → a.buffer = [] →
      s.handLine c q = now ⟨.call, a.result, [c]⟩) ∧
    (q ≠ .mutilated → a.state = .call ∨ a.state = .letter →
      s.handLine 0o015#7 q = if a.result = .foreign then now ⟨.idle, .none, []⟩ else bad ⟨.idle, .none, []⟩) ∧
    (∀ c1 c2 l body, q ≠ .mutilated → a.state = .body → a.buffer = c1 :: c2 :: l :: body →
      s.handLine 0o015#7 q = State.execute (now ⟨.idle, .none, []⟩) ⟨.line c1 c2, a.result, l, body⟩) ∧
    (q ≠ .mutilated → a.state = .call ∨ a.state = .letter ∨ a.state = .body → s.handLine 0o000#7 q = s) ∧
    (∀ c, q = .mutilated → a.state = .call ∨ a.state = .letter ∨ a.state = .body →
      ∃ b, b.state = .discard ∧ s.handLine c q = bad b) ∧
    (∀ c, q ≠ .mutilated → bodyCodeOk c = true → a.state = .body → 48 ≤ a.buffer.length →
      ∃ b, b.state = .discard ∧
        s.handLine c q = { s with dir := { s.dir with lineAsm := b, overlongCount := sat16 s.dir.overlongCount } }) ∧
    (∀ c, a.state = .discard → (q = .mutilated ∨ (c ≠ 0o015#7 ∧ c ≠ 0o033#7)) → s.handLine c q = s) ∧
    (q ≠ .mutilated → a.state = .discard → s.handLine 0o015#7 q = now ⟨.idle, .none, []⟩) ∧
    (∀ c, a.state = .idle → (q = .mutilated ∨ c ≠ 0o033#7) → s.handLine c q = s) := by
  intro a now bad
  refine ⟨fun hq => ?_, fun c hq hc hst hbuf => ?_, fun hq hst => ?_, fun c1 c2 l body hq hst hbuf => ?_, fun hq hst => ?_,
    fun c hq hst => ⟨{ a with state := .discard }, rfl, ?_⟩, fun c hq hc hst hlen => ⟨{ a with state := .discard }, rfl, ?_⟩,
    fun c hst hor => ?_, fun hq hst => ?_, fun c hst hor => ?_⟩
  · rw [handLine, if_pos ⟨rfl, hq⟩]
    rfl
  · rw [handLine_eq_lineHold (.inl hst) hc hq, lineHold_first hst hbuf]
    rfl
  · have hend : s.handLine 0o015#7 q = s.lineEnd a := by
      obtain h | h := hst <;> simp [handLine, show s.dir.lineAsm.state = _ from h, hq, a]
    rw [hend, lineEnd_short hst]
    rfl
  · rw [handLine_cr_of_body hst hq, lineEnd_body hst hbuf]
    rfl
  · obtain h | h | h := hst <;> simp [handLine, show s.dir.lineAsm.state = _ from h, hq]
  · subst hq
    obtain h | h | h := hst <;> simp [handLine, show s.dir.lineAsm.state = _ from h] <;> rfl
  · rw [handLine_eq_lineHold (.inr (.inr hst)) hc hq, lineHold_overlong hst hlen]
    rfl
  · simp only [handLine, show s.dir.lineAsm.state = _ from hst]
    rw [if_neg (by tauto), if_neg (by tauto)]
  · simp only [handLine, show s.dir.lineAsm.state = _ from hst]
    rw [if_neg (by simp), if_pos ⟨trivial, hq⟩]
    rfl
  · simp only [handLine, show s.dir.lineAsm.state = _ from hst]
    rw [if_neg (by tauto)]

/-! ### The local assembler -/

/-- In LETTER and BODY a body character is held. -/
theorem handLocal_hold {c : Code} (hst : s.dir.localAsm.state = .letter ∨ s.dir.localAsm.state = .body) (hc : bodyCodeOk c = true) :
    s.handLocal c = s.localHold s.dir.localAsm c := by
  obtain ⟨hnul, hcr, hlead⟩ := bodyCodeOk_iff.mp hc
  obtain h | h := hst <;> simp only [handLocal, h, hnul, hcr, hlead, if_false]

theorem handLocal_cr (hst : s.dir.localAsm.state = .letter ∨ s.dir.localAsm.state = .body) :
    s.handLocal 0o015#7 = s.localEnd s.dir.localAsm := by
  obtain h | h := hst <;> simp [handLocal, h]

theorem local_rows (s : State) :
    let a := s.dir.localAsm
    let now (b : Assembler) : State := { s with dir := { s.dir with localAsm := b } }
    (s.handLocal 0o033#7 = now ⟨.letter, .none, []⟩) ∧
    (∀ c, bodyCodeOk c = true → a.state = .letter → a.buffer = [] → s.handLocal c = now ⟨.body, a.result, [c]⟩) ∧
    (∀ c, bodyCodeOk c = true → a.state = .body → a.buffer.length < 48 →
      s.handLocal c = now ⟨.body, a.result, a.buffer ++ [c]⟩) ∧
    (∀ c, bodyCodeOk c = true → a.state = .body → 48 ≤ a.buffer.length →
      ∃ b, b.state = .discard ∧
        s.handLocal c = { s with dir := { s.dir with localAsm := b, overlongCount := sat16 s.dir.overlongCount } }) ∧
    (a.state = .letter → s.handLocal 0o015#7 =
      { s with
        dir := { s.dir with localAsm := ⟨.idle, .none, []⟩, malformedCount := sat16 s.dir.malformedCount } }) ∧
    (∀ l body, a.state = .body → a.buffer = l :: body →
      s.handLocal 0o015#7 = State.execute (now ⟨.idle, .none, []⟩) ⟨.keyboard, .none, l, body⟩) ∧
    (a.state = .letter ∨ a.state = .body → s.handLocal 0o000#7 = s) ∧
    (∀ c, a.state = .discard → c ≠ 0o015#7 → c ≠ 0o033#7 → s.handLocal c = s) ∧
    (a.state = .discard → s.handLocal 0o015#7 = now ⟨.idle, .none, []⟩) ∧
    (∀ c, a.state = .idle → c ≠ 0o033#7 → s.handLocal c = s) := by
  intro a now
  refine ⟨?_, fun c hc hst hbuf => ?_, fun c hc hst hlen => ?_, fun c hc hst hlen => ⟨{ a with state := .discard }, rfl, ?_⟩,
    fun hst => ?_, fun l body hst hbuf => ?_, fun hst => ?_, fun c hst h1 h2 => ?_, fun hst => ?_, fun c hst h => ?_⟩
  · rw [handLocal, if_pos rfl]
    rfl
  · rw [handLocal_hold (.inl hst) hc, localHold, if_neg (by simp [show s.dir.localAsm.buffer = _ from hbuf]), assembler_holding,
      show s.dir.localAsm.buffer = _ from hbuf]
    rfl
  · rw [handLocal_hold (.inr hst) hc, localHold, if_neg (Nat.not_le.mpr hlen)]
    rfl
  · rw [handLocal_hold (.inr hst) hc, localHold, if_pos hlen]
    rfl
  · rw [handLocal_cr (.inl hst)]
    simp only [localEnd, show s.dir.localAsm.state = _ from hst]
    rfl
  · rw [handLocal_cr (.inr hst)]
    simp only [localEnd, show s.dir.localAsm.state = _ from hst, show s.dir.localAsm.buffer = _ from hbuf]
    rfl
  · obtain h | h := hst <;> simp [handLocal, show s.dir.localAsm.state = _ from h]
  · simp only [handLocal, show s.dir.localAsm.state = _ from hst, if_neg h1, if_neg h2]
  · simp only [handLocal, show s.dir.localAsm.state = _ from hst]
    rw [if_neg (by simp), if_pos trivial]
    rfl
  · simp only [handLocal, show s.dir.localAsm.state = _ from hst, if_neg h]

end State

open State

/-- Settles O53: the table of the letters by its rows, the execution by the steps of R165, the assemblers by their states. -/
theorem directivesAreRefused : Obligations.DirectivesAreRefused := by
  refine ⟨by decide, DirKind.ofLetter_letter, fun vs => ⟨fieldsOk_bare vs, fieldsOk_table vs⟩,
    fun s k c1 c2 body => ⟨execute_foreign, execute_unbroadcast, fun h hsel m hm => ?_, fun hbad => ⟨fun h => ?_, fun h => ?_⟩⟩,
    fun s k src body hb hsel => ⟨fun hsrc => ?_, fun hsrc hopen r hr => ?_, fun hsrc hopen hbad => ?_⟩,
    fun s k c1 c2 body hb hown hk hq => ?_, fun s k src body hp hlive hok hm => ?_, assembler_rows, local_rows⟩
  · exact execute_unselected h hsel (by rintro rfl; simp at hm)
  · have hbc : k.broadcast = true := by obtain rfl | rfl := h <;> rfl
    have hans : k.answered = true := by obtain rfl | rfl := h <;> rfl
    rw [execute_broadcast hbc (fun hk => by obtain rfl | rfl := h <;> simp at hk),
      carryOut_badFields (unopened (needsOpen_of_broadcast hbc)) (badBody_iff.mp hbad), badFields_eq, if_neg (by simp [hans]),
      answer_broadcast]
  · have hbc : k.broadcast = true := by obtain rfl | rfl | ⟨rfl | rfl, -⟩ := h <;> rfl
    have hans : k.answered = false := by obtain rfl | rfl | ⟨rfl | rfl, -⟩ := h <;> rfl
    rw [execute_broadcast hbc (fun hk => by obtain rfl | rfl | h := h <;> simp_all),
      carryOut_badFields (unopened (needsOpen_of_broadcast hbc)) (badBody_iff.mp hbad), badFields_eq, if_pos ⟨rfl, hans⟩]
  · have h := does_checkLetter (k := k) hb (fun hf hk => (hsel hk).resolve_right (by simp [hf]))
    have hrefuse : s.checkLetter (s.call k src body) = s.answer (s.call k src body) Reason.n13.alone := by
      simp only [checkLetter, show DirKind.ofLetter (s.call k src body).letter = some k from DirKind.ofLetter_letter k]
      exact if_neg (ne_true_of_eq_false hsrc)
    rwa [hrefuse] at h
  · have h := does_carryOut (k := k) hb hsrc (fun hf hk => (hsel hk).resolve_right (by simp [hf]))
    rwa [carryOut_refused (c := s.call k src body) hopen hr] at h
  · have h := does_carryOut (k := k) hb hsrc (fun hf hk => (hsel hk).resolve_right (by simp [hf]))
    rwa [carryOut_badFields (c := s.call k src body) hopen (badBody_iff.mp hbad), badFields_eq] at h
  · obtain ⟨hp, hlive, hok⟩ := hb
    have hres : s.matchOf (.line c1 c2) = .own := by simp only [matchOf, matchCall, if_pos hown]
    have h := (EventOf.directive k (.line c1 c2) body).does hp
    rwa [directive_execute (src := .line c1 c2) hlive hok (.inl (by simp [hres])),
      execute_overrun (c := s.call k (.line c1 c2) body) rfl hres rfl hk hq] at h
  · have h := (EventOf.directive k src body).does hp
    rwa [directive_execute hlive hok hm] at h

end Sys2Proof.Machine
end

section
/-! PROOF. What deletions and releases let go, entry by entry, in any state of the directory (sections 3.5, 9.7). -/

namespace Sys2Proof.Machine

/-! ### What letting go of outputs does to a record -/

namespace Record

variable {r r' r'' : Record}

/-- A record becomes EMPTY, or stands with its deletion as it was and nothing newly PENDING. -/
structure Eases (r r' : Record) : Prop where
  empty : r = .empty → r' = .empty
  kept : r' = .empty ∨
    (r'.state = r.state ∧ r'.deletePending = r.deletePending ∧ r'.retained = r.retained ∧
      (r'.print.status = .pending → r.print.status = .pending) ∧ (r'.punch.status = .pending → r.punch.status = .pending) ∧
      (r'.send.status = .pending → r.send.status = .pending))

theorem Eases.refl (r : Record) : Eases r r := ⟨id, .inr ⟨rfl, rfl, rfl, id, id, id⟩⟩

theorem Eases.trans (h1 : Eases r r') (h2 : Eases r' r'') : Eases r r'' := by
  refine ⟨fun h => h2.empty (h1.empty h), ?_⟩
  obtain h | ⟨hst, hdel, hret, hp, hu, hs⟩ := h1.kept
  · exact .inl (h2.empty h)
  · obtain h | ⟨hst', hdel', hret', hp', hu', hs'⟩ := h2.kept
    · exact .inl h
    · exact .inr ⟨hst'.trans hst, hdel'.trans hdel, hret'.trans hret, hp ∘ hp', hu ∘ hu', hs ∘ hs'⟩

theorem printDone_retained (r : Record) : r.printDone.retained = r.retained := by unfold printDone; split <;> rfl

theorem printDone_pending (r : Record) (h : r.printDone.print.status = .pending) : r.print.status = .pending := by
  unfold printDone at h
  split at h
  · cases h
  · exact h

theorem eases_examined (r : Record) : Eases r r.examined := by
  refine ⟨?_, ?_⟩
  · rintro rfl
    exact examined_empty
  · rw [examined_eq]
    split
    · exact .inl rfl
    · exact .inr ⟨printDone_state r, printDone_deletePending r, printDone_retained r, printDone_pending r, by rw [printDone_punch]; exact id,
        by rw [printDone_send]; exact id⟩

theorem giveUp_pending (o : Output) : o.giveUp.status ≠ .pending := by
  unfold Output.giveUp
  split
  · simp
  · rename_i h
    exact fun hp => h ((owed_iff o).mpr hp)

end Record

namespace State

variable {s t u v : State} {e x a : Nat}

/-- Every record of the directory only lets go of what it owes. -/
structure Easing (s v : State) : Prop where
  dir : v.store.dir.length = s.store.dir.length
  record : s.store.dir.length = 32 → ∀ x, Numbered x → (s.record x).Eases (v.record x)

namespace Easing

theorem refl (s : State) : Easing s s := ⟨rfl, fun _ _ _ => .refl _⟩

theorem trans (h1 : Easing s t) (h2 : Easing t v) : Easing s v :=
  ⟨h2.dir.trans h1.dir, fun hd x hx => (h1.record hd x hx).trans (h2.record (h1.dir.trans hd) x hx)⟩

theorem of_dir (h : v.store.dir = s.store.dir) : Easing s v :=
  ⟨by rw [h], fun _ _ _ => by rw [State.record, State.record, h]; exact .refl _⟩

theorem updRecord (s : State) (a : Nat) (f : Record → Record) (hf : ∀ r : Record, r.Eases (f r)) : Easing s (s.updRecord a f) :=
  ⟨updRecord_dir_length f, fun hd x hx => by
    rw [record_updRecord_place hd hx]
    split
    · exact (hf _).trans (Record.eases_examined _)
    · exact .refl _⟩

theorem examine (s : State) (a : Nat) : Easing s (s.examine a) :=
  ⟨examine_dir_length, fun hd x hx => by
    rw [record_examine_place hd hx]
    split
    · exact Record.eases_examined _
    · exact .refl _⟩

theorem foldl {f : State → Nat → State} (hf : ∀ u a, Easing u (f u a)) (l : List Nat) (s : State) : Easing s (l.foldl f s) := by
  induction l generalizing s with
  | nil => exact refl s
  | cons a l ih => exact (hf s a).trans (ih _)

theorem abandonMarked (s : State) (src : PunchSource) : Easing s (s.abandonMarked src) := by
  rw [abandonMarked_foldl]
  refine foldl (fun u a => ?_) _ s
  unfold giveUpPunch
  split
  · exact updRecord u a _ fun r =>
      ⟨by rintro rfl; rfl, .inr ⟨rfl, rfl, rfl, id, fun h => absurd h (Record.giveUp_pending _), id⟩⟩
  · exact refl u

theorem releaseRequest (s : State) (src : PunchSource) : Easing s (s.releaseRequest src).1 := by
  rw [releaseRequest_fst]
  split
  · exact of_dir rfl
  · rw [releaseAll_eq]
    split
    · exact (of_dir rfl : Easing s (s.onPunch _)).trans (abandonMarked _ src)
    · exact of_dir rfl

theorem leaveCopyList (s : State) (a : Nat) : Easing s (s.leaveCopyList a) := by
  have hreleased : Easing s ((s.onPunch fun b => { b with copyList := b.copyList.erase a }).releaseRequest .copy).1 :=
    (of_dir rfl : Easing s (s.onPunch _)).trans (releaseRequest _ .copy)
  simp only [State.leaveCopyList]
  split
  · exact hreleased
  · exact hreleased.trans (updRecord _ a _ fun r => ⟨by rintro rfl; rfl, .inr ⟨rfl, rfl, rfl, id, id, id⟩⟩)

theorem dropBeneath (s : State) (a : Nat) : Easing s (s.dropBeneath a) := by
  unfold State.dropBeneath
  split
  · exact refl s
  · split
    · exact (of_dir rfl : Easing s (s.onPrint _)).trans
        (updRecord _ a _ fun r => ⟨by rintro rfl; rfl, .inr ⟨rfl, rfl, rfl, id, id, id⟩⟩)
    · exact refl s

/-- A deletion after the record itself has been marked. -/
theorem deleteRecord (h : ((s.record a).state.isClosed && !(s.record a).deletePending) = true) :
    Easing (s.setRecord a (s.record a).deleted) (s.deleteRecord a) := by
  simp only [State.deleteRecord, h, if_true]
  split
  · exact ((dropBeneath _ a).trans (leaveCopyList _ a)).trans (examine _ a)
  · exact (dropBeneath _ a).trans (examine _ a)

end Easing

theorem deleteRecord_skip (h : ¬((s.record a).state.isClosed && !(s.record a).deletePending) = true) : s.deleteRecord a = s := by
  simp only [deleteRecord, if_neg h]

end State
end Sys2Proof.Machine
end

section
/-! PROOF. What a deletion makes of every record, of the print contexts and of the punch (sections 3.5, 4.8, 5.4, 9.7). -/

namespace Sys2Proof.Machine
namespace State

variable {s t u v : State} {e x : Nat}

/-! ### Changes of one entry, on every record -/

theorem setRecord_self (hd : s.store.dir.length = 32) (he : Numbered e) : s.setRecord e (s.record e) = s := by
  have hlt : e - 1 < s.store.dir.length := by have := he.2; omega
  have hself : s.store.dir.set (e - 1) (s.record e) = s.store.dir := by
    rw [record, List.getD_eq_getElem _ _ hlt, List.set_getElem_self]
  rw [setRecord, onStore, hself]

namespace Recast

theorem setRecord (hs : s.Listed) (he : Numbered e) (r : Record) (hr : r.state = .empty ↔ (s.record e).state = .empty) :
    Recast s (s.setRecord e r) fun x q => if x = e then r else q := by
  have hrec {x : Nat} (hx : Numbered x) := record_setRecord hs.dir he hx r
  refine ⟨⟨by rw [setRecord_dir_length, hs.dir], hs.nodup, fun x => ?_⟩, fun x hx => hrec hx, .refl _⟩
  show x ∈ s.store.arrival ↔ _
  rw [hs.arrival, inUse_iff, inUse_iff]
  refine and_congr_right fun hx => ?_
  rw [hrec hx]
  split
  · rename_i hxe
    rw [hxe, not_iff_not]
    exact hr.symm
  · rfl

theorem examine (hs : s.Listed) (he : Numbered e) : Recast s (s.examine e) fun x r => if x = e then r.examined else r := by
  have h := updRecord hs he id Iff.rfl
  have heq : s.updRecord e id = s.examine e := by rw [State.updRecord, id, setRecord_self hs.dir he]
  rwa [heq] at h

end Recast

/-! ### The print contexts -/

theorem beneath_filter (cs : List PrintContext) (e : Nat) (h : e ∉ (cs.drop 1).map (·.entry)) :
    cs.take 1 ++ (cs.drop 1).filter (fun c => c.entry != e) = cs := by
  rw [List.filter_eq_self.mpr, List.take_append_drop]
  intro c hc
  rw [bne_iff_ne]
  exact fun heq => h (heq ▸ List.mem_map_of_mem hc)

/-- The contexts without entry `e` beneath the top (R93). -/
def withoutBeneath (s : State) (e : Nat) : State :=
  s.onPrint fun b => { b with contexts := b.contexts.take 1 ++ (b.contexts.drop 1).filter fun c => c.entry != e }

theorem withoutBeneath_of_not (h : e ∉ (s.print.contexts.drop 1).map (·.entry)) : s.withoutBeneath e = s := by
  rw [withoutBeneath, onPrint, beneath_filter _ _ h]

theorem dropBeneath_eq (s : State) (e : Nat) :
    s.dropBeneath e =
      if e ∈ (s.print.contexts.drop 1).map (·.entry) then
        (s.withoutBeneath e).updRecord e fun r => { r with print := { r.print with mark := false } }
      else s.withoutBeneath e := by
  cases hc : s.print.contexts with
  | nil =>
    rw [withoutBeneath_of_not (by simp [hc])]
    simp [dropBeneath, hc]
  | cons top rest =>
    have hmem : (rest.any (·.entry == e)) = true ↔ e ∈ ((top :: rest).drop 1).map (·.entry) := by simp
    by_cases h : e ∈ ((top :: rest).drop 1).map (·.entry)
    · rw [if_pos h]
      simp only [dropBeneath, hc, if_pos (hmem.mpr h), withoutBeneath, onPrint]
      rfl
    · rw [if_neg h, withoutBeneath_of_not (by rwa [hc])]
      simp only [dropBeneath, hc, if_neg (hmem.not.mpr h)]

theorem dropBeneath_print (s : State) (e : Nat) :
    (s.dropBeneath e).print =
      { s.print with contexts := s.print.contexts.take 1 ++ (s.print.contexts.drop 1).filter fun c => c.entry != e } := by
  rw [dropBeneath_eq]
  split
  · exact eq_of_frame State.print (fun _ => rfl) (updRecord_unrecorded _ e _) rfl
  · rfl

theorem dropBeneath_recast (hs : s.Listed) (he : Numbered e) :
    Recast s (s.dropBeneath e) fun x r =>
      if x = e ∧ e ∈ (s.print.contexts.drop 1).map (·.entry) then
        ({ r with print := { r.print with mark := false } } : Record).examined
      else r := by
  have h1 : Recast s (s.withoutBeneath e) fun _ r => r := .of_eq hs rfl rfl
  rw [dropBeneath_eq]
  split
  · rename_i h
    refine (h1.trans (.updRecord h1.listed he _ Iff.rfl)).congr fun x _ => ?_
    simp only [h, and_true]
  · rename_i h
    exact h1.congr fun x _ => by simp only [h, and_false, if_false]

/-! ### The copy list -/

/-- COPY after a release, from HOLDING or WAITING (R103). -/
def copyReleased (c : Claim) : Claim :=
  if 1 < c.count then ⟨c.state, c.count - 1⟩ else if c.state = .waiting then ⟨.idle, 0⟩ else ⟨.draining, 0⟩

/-- The punch with entry `e` off the copy list (R107). -/
def copyLeft (s : State) (e : Nat) : State :=
  s.onPunch fun b => { b with copyList := b.copyList.erase e, copyClaim := copyReleased b.copyClaim }

/-- COPY is HOLDING or WAITING. -/
def CopyClaims (s : State) : Prop := s.punch.copyClaim.state = .holding ∨ s.punch.copyClaim.state = .waiting

/-- A release of COPY frees a waiter (R103). -/
def CopyFrees (s : State) : Prop := s.punch.copyClaim.count ≤ 1 ∧ s.punch.copyClaim.state = .waiting

theorem releaseCopy_eq (h : s.CopyClaims) :
    (¬s.CopyFrees → ((s.onPunch fun b => { b with copyList := b.copyList.erase e }).releaseRequest .copy).1 = s.copyLeft e) ∧
      (s.CopyFrees →
        ((s.onPunch fun b => { b with copyList := b.copyList.erase e }).releaseRequest .copy).1 = (s.copyLeft e).abandonMarked .copy) := by
  have hreq := releaseRequest_claims (s := s.onPunch fun b => { b with copyList := b.copyList.erase e }) (x := .copy) h
  rw [hreq, copyLeft]
  have hcount : ((s.onPunch fun b => { b with copyList := b.copyList.erase e }).punch.claim .copy) = s.punch.copyClaim := rfl
  rw [hcount, CopyFrees]
  by_cases hc : 1 < s.punch.copyClaim.count
  · rw [if_pos hc]
    refine ⟨fun _ => ?_, fun hf => absurd hf.1 (Nat.not_le.mpr hc)⟩
    simp only [onPunch, copyReleased, if_pos hc]
    rfl
  · rw [if_neg hc, releaseAll_eq, hcount]
    obtain h | h := h
    · refine ⟨fun _ => ?_, fun hf => absurd (h.symm.trans hf.2) (by simp)⟩
      rw [if_neg (by simp [h])]
      simp only [onPunch, copyReleased, if_neg hc, h, PunchBlock.released, PunchBlock.claim]
      rfl
    · refine ⟨fun hf => absurd ⟨Nat.le_of_not_lt hc, h⟩ hf, fun _ => ?_⟩
      rw [if_pos h]
      simp only [onPunch, copyReleased, if_neg hc, h, PunchBlock.released, PunchBlock.claim]
      rfl

/-- What the release of COPY at a deletion makes of a record. -/
def afterRelease (s : State) (r : Record) : Record :=
  if (s.punch.copyClaim.count ≤ 1 ∧ s.punch.copyClaim.state = .waiting) ∧ r.state ≠ .empty then punchGivenUp .copy r else r

theorem afterRelease_of_not {r : Record} (h : r.punch.status ≠ .pending ∨ r.punchSource ≠ .copy) : s.afterRelease r = r := by
  rw [afterRelease, punchGivenUp_of_not h, ite_self]

theorem releaseCopy_recast (hs : s.Listed) (h : s.CopyClaims) :
    Recast s ((s.onPunch fun b => { b with copyList := b.copyList.erase e }).releaseRequest .copy).1 fun _ r => s.afterRelease r := by
  have h1 : Recast s (s.copyLeft e) fun _ r => r := .of_eq hs rfl rfl
  by_cases hf : s.CopyFrees
  · rw [(releaseCopy_eq h).2 hf]
    refine (h1.trans (abandonMarked_recast h1.listed .copy)).congr fun x _ => ?_
    rw [afterRelease]
    by_cases hst : (s.record x).state = .empty
    · simp [hst]
    · rw [if_neg hst, if_pos ⟨hf, hst⟩]
  · rw [(releaseCopy_eq h).1 hf]
    refine h1.congr fun x _ => ?_
    rw [afterRelease, if_neg fun h => hf h.1]

theorem releaseCopy_punch (h : s.CopyClaims) :
    ((s.onPunch fun b => { b with copyList := b.copyList.erase e }).releaseRequest .copy).1.punch = (s.copyLeft e).punch := by
  by_cases hf : s.CopyFrees
  · rw [(releaseCopy_eq h).2 hf]
    exact eq_of_frame State.punch (fun _ => rfl) (abandonMarked_unrecorded _ .copy) rfl
  · rw [(releaseCopy_eq h).1 hf]

theorem leaveCopyList_punch (h : s.CopyClaims) : (s.leaveCopyList e).punch = (s.copyLeft e).punch := by
  have hpunch := releaseCopy_punch (e := e) h
  simp only [leaveCopyList]
  split
  · exact hpunch
  · exact eq_of_frame State.punch (fun _ => rfl) (markPunch_unrecorded _ e false) hpunch

theorem leaveCopyList_recast (hs : s.Listed) (he : Numbered e) (h : s.CopyClaims) :
    Recast s (s.leaveCopyList e) fun x r =>
      if x = e ∧ s.punch.current ≠ some e then
        ({ s.afterRelease r with punch := { (s.afterRelease r).punch with mark := false } } : Record).examined
      else s.afterRelease r := by
  have hrel := releaseCopy_recast (e := e) hs h
  have hcur : ((s.onPunch fun b => { b with copyList := b.copyList.erase e }).releaseRequest .copy).1.punch.current =
      s.punch.current := by rw [releaseCopy_punch h]; rfl
  simp only [leaveCopyList, hcur]
  split
  · rename_i hc
    exact hrel.congr fun x _ => by rw [if_neg fun h => h.2 hc]
  · rename_i hc
    refine (hrel.trans (.updRecord hrel.listed he _ Iff.rfl)).congr fun x _ => ?_
    simp only [hc, ne_eq, not_false_eq_true, and_true]

/-! ### A deletion -/

theorem giveUp_eq (o : Output) : o.giveUp = ⟨if o.status = .pending then .abandoned else o.status, o.cursor, o.mark⟩ := by
  obtain ⟨st, c, m⟩ := o
  cases st <;> rfl

/-- The record of a deletion whose print mark goes where `b` holds and whose punch mark goes where `l` does. -/
theorem deleted_marks (r : Record) (b l : Prop) [Decidable b] [Decidable l] :
    ({ r with
      deletePending := true, retained := false
      print := ⟨if r.print.status = .pending then .abandoned else r.print.status, r.print.cursor, r.print.mark && !decide b⟩
      punch := ⟨if r.punch.status = .pending then .abandoned else r.punch.status, r.punch.cursor, r.punch.mark && !decide l⟩
      send := ⟨if r.send.status = .pending then .abandoned else r.send.status, r.send.cursor, r.send.mark⟩ } : Record) =
      let q := if b then ({ r.deleted with print := { r.deleted.print with mark := false } } : Record) else r.deleted
      if l then { q with punch := { q.punch with mark := false } } else q := by
  simp only [Record.deleted, giveUp_eq]
  by_cases hb : b <;> by_cases hl : l <;> simp [hb, hl]

theorem deletedAs_eq (s : State) (e : Nat) (r : Record) :
    s.deletedAs e r =
      let q := if e ∈ (s.print.contexts.drop 1).map (·.entry) then
        ({ r.deleted with print := { r.deleted.print with mark := false } } : Record) else r.deleted
      if e ∈ s.punch.copyList ∧ s.punch.current ≠ some e then { q with punch := { q.punch with mark := false } } else q :=
  deleted_marks r _ _

/-- An examination before the punch's mark is cleared makes no difference to one after it. -/
theorem examined_punchUnmarked (r : Record) :
    ({ r.examined with punch := { r.examined.punch with mark := false } } : Record).examined =
      ({ r with punch := { r.punch with mark := false } } : Record).examined :=
  Record.examined_outputs (Record.Lets.letGo false) Record.Lets.id r

/-- The changes of the deleted record itself, one after another. -/
theorem deleted_examined (s : State) (e : Nat) (r : Record) :
    let q := if e ∈ (s.print.contexts.drop 1).map (·.entry) then
      ({ r.deleted with print := { r.deleted.print with mark := false } } : Record).examined else r.deleted
    (if e ∈ s.punch.copyList then
      (if s.punch.current ≠ some e then
        ({ s.afterRelease q with punch := { (s.afterRelease q).punch with mark := false } } : Record).examined
      else s.afterRelease q) else q).examined = (s.deletedAs e r).examined := by
  intro q
  have hstill : s.afterRelease q = q := by
    refine afterRelease_of_not (.inl ?_)
    have hd : r.deleted.punch.status ≠ .pending := Record.giveUp_pending _
    have heases : r.deleted.Eases q ∨ (Record.Eases { r.deleted with print := { r.deleted.print with mark := false } } q) := by
      simp only [q]
      split
      · exact .inr (Record.eases_examined _)
      · exact .inl (.refl _)
    obtain ⟨-, hempty | ⟨-, -, -, -, hp, -⟩⟩ | ⟨-, hempty | ⟨-, -, -, -, hp, -⟩⟩ := heases
    · rw [hempty]
      simp [Record.empty, Output.none]
    · exact fun h => hd (hp h)
    · rw [hempty]
      simp [Record.empty, Output.none]
    · exact fun h => hd (hp h)
  rw [hstill, deletedAs_eq]
  by_cases hb : e ∈ (s.print.contexts.drop 1).map (·.entry) <;> by_cases hl : e ∈ s.punch.copyList <;>
    by_cases hc : s.punch.current = some e <;>
    simp only [q, hb, hl, hc, if_true, if_false, ne_eq, not_true_eq_false, not_false_eq_true, and_true, and_false,
      Record.examined_examined, examined_punchUnmarked]

theorem deleteRecord_eq (hdel : ((s.record e).state.isClosed && !(s.record e).deletePending) = true) :
    s.deleteRecord e =
      (if e ∈ s.punch.copyList then ((s.setRecord e (s.record e).deleted).dropBeneath e).leaveCopyList e
        else (s.setRecord e (s.record e).deleted).dropBeneath e).examine e := by
  have hpunch : ((s.setRecord e (s.record e).deleted).dropBeneath e).punch = s.punch :=
    of_offPrint State.punch (fun _ => rfl) (dropBeneath_offPrint _ e)
  simp only [deleteRecord, hdel, if_true, List.contains_iff_mem, hpunch]

/-- What a deletion makes of every record. -/
theorem deleteRecord_recast (hs : s.Listed) (he : Numbered e)
    (hdel : ((s.record e).state.isClosed && !(s.record e).deletePending) = true) (hcopy : e ∈ s.punch.copyList → s.CopyClaims) :
    Recast s (s.deleteRecord e) fun x r =>
      if x = e then (s.deletedAs e r).examined else if e ∈ s.punch.copyList then s.afterRelease r else r := by
  have hset := Recast.setRecord hs he (s.record e).deleted Iff.rfl
  have hdrop := hset.trans (dropBeneath_recast hset.listed he)
  have hpunch : ((s.setRecord e (s.record e).deleted).dropBeneath e).punch = s.punch :=
    of_offPrint State.punch (fun _ => rfl) (dropBeneath_offPrint _ e)
  rw [deleteRecord_eq hdel]
  split
  · rename_i hl
    have hleave := hdrop.trans (leaveCopyList_recast hdrop.listed he (by rw [CopyClaims, hpunch]; exact hcopy hl))
    refine (hleave.trans (.examine hleave.listed he)).congr fun x _ => ?_
    have hrel (r : Record) : ((s.setRecord e (s.record e).deleted).dropBeneath e).afterRelease r = s.afterRelease r := by
      rw [afterRelease, hpunch, afterRelease]
    by_cases hx : x = e
    · subst hx
      have h := deleted_examined s x (s.record x)
      simp only [hl, if_true] at h
      simp only [hrel, hpunch, if_true, true_and]
      exact h
    · simp only [hx, hrel, if_false, false_and]
  · rename_i hl
    refine (hdrop.trans (.examine hdrop.listed he)).congr fun x _ => ?_
    by_cases hx : x = e
    · subst hx
      have h := deleted_examined s x (s.record x)
      simp only [hl, if_false] at h
      simp only [if_true, true_and]
      exact h
    · simp only [hx, if_false, false_and]

theorem deleteRecord_print (hdel : ((s.record e).state.isClosed && !(s.record e).deletePending) = true) :
    (s.deleteRecord e).print =
      { s.print with contexts := s.print.contexts.take 1 ++ (s.print.contexts.drop 1).filter fun c => c.entry != e } := by
  have hdrop := dropBeneath_print (s.setRecord e (s.record e).deleted) e
  rw [deleteRecord_eq hdel]
  refine eq_of_frame State.print (fun _ => rfl) (examine_unrecorded _ e) ?_
  split
  · exact (of_offPunch State.print (fun _ => rfl) (leaveCopyList_offPunch _ e)).trans hdrop
  · exact hdrop

theorem deleteRecord_punch (hdel : ((s.record e).state.isClosed && !(s.record e).deletePending) = true)
    (hcopy : e ∈ s.punch.copyList → s.CopyClaims) :
    (s.deleteRecord e).punch = if e ∈ s.punch.copyList then (s.copyLeft e).punch else s.punch := by
  have hpunch : ((s.setRecord e (s.record e).deleted).dropBeneath e).punch = s.punch :=
    of_offPrint State.punch (fun _ => rfl) (dropBeneath_offPrint _ e)
  rw [deleteRecord_eq hdel]
  refine eq_of_frame State.punch (fun _ => rfl) (examine_unrecorded _ e) ?_
  split
  · rename_i hl
    rw [leaveCopyList_punch (by rw [CopyClaims, hpunch]; exact hcopy hl), copyLeft, onPunch, hpunch]
    rfl
  · exact hpunch

/-- What deletions leave alone. -/
theorem eq_of_offMechanisms (h : v.offMechanisms = s.offMechanisms) :
    v = { s with store := v.store, print := v.print, punch := v.punch, dir := { s.dir with queue := v.dir.queue } } :=
  calc v = { v.offMechanisms with
        store := v.store, print := v.print, punch := v.punch, dir := { v.offMechanisms.dir with queue := v.dir.queue } } := rfl
    _ = _ := by rw [h]; rfl

theorem store_of_offMechanisms (h : v.offMechanisms = s.offMechanisms) :
    v.store = { s.store with free := v.store.free, dir := v.store.dir, arrival := v.store.arrival } :=
  calc v.store = { v.offMechanisms.store with free := v.store.free, dir := v.store.dir, arrival := v.store.arrival } := rfl
    _ = _ := by rw [h]; rfl

end State
end Sys2Proof.Machine
end

section
/-! PROOF. Deletions (sections 3.5, 4.5, 4.8, 5.4, 9.6, 9.7). -/

namespace Sys2Proof.Machine
/-- The listings still to be sent mark a freed entry gone, those sent do not (R172). -/
theorem markGone_eq (e : Nat) (q : ReplyEntry) :
    q.markGone e =
      { q with captured := q.captured.mapIdx fun i c => if q.sent ≤ i ∧ c.entry = e then { c with gone := true } else c } := by
  have hcap : q.captured.take q.sent ++ (q.captured.drop q.sent).map (fun c => if c.entry = e then { c with gone := true } else c) =
      q.captured.mapIdx fun i c => if q.sent ≤ i ∧ c.entry = e then { c with gone := true } else c := by
    refine List.ext_getElem? fun i => ?_
    rw [List.getElem?_append, List.getElem?_mapIdx]
    by_cases hi : i < q.sent
    · by_cases hlen : i < q.captured.length
      · simp [hi, hlen, Nat.not_le.mpr hi]
      · simp [hlen, show q.captured.length ≤ i - min q.sent q.captured.length + q.sent by omega]
    · by_cases hlen : i < q.captured.length
      · simp [hi, Nat.le_of_not_lt hi, show min q.sent q.captured.length = q.sent by omega, show q.sent + (i - q.sent) = i by omega]
      · simp [hlen]
        omega
  rw [← hcap]
  rfl

namespace State

variable {s : State} {e x : Nat}

/-- COPY holds or waits while its list is not empty (R105). -/
theorem copyClaims_of_mem (hc : s.ClaimsSound) (h : e ∈ s.punch.copyList) : s.CopyClaims := by
  obtain ⟨-, hcounts, -, -, hcount, -⟩ := hc
  have hpos : s.punch.copyClaim.count ≠ 0 := by
    rw [hcount]
    exact List.length_pos_iff.mpr (List.ne_nil_of_mem h) |>.ne'
  have hiff : s.punch.copyClaim.count = 0 ↔ s.punch.copyClaim.state = .idle ∨ s.punch.copyClaim.state = .draining := (hcounts .copy).2
  rw [CopyClaims]
  cases hst : s.punch.copyClaim.state <;> simp_all

/-- The release at a deletion leaves other records alone where only those on the copy list wait for COPY. -/
theorem afterRelease_other (hc : s.ClaimsSound) (h : e ∈ s.punch.copyList) (hne : x ≠ e)
    (hx : (s.record x).punch.status = .pending → (s.record x).punchSource = .copy → x ∈ s.punch.copyList) :
    s.afterRelease (s.record x) = s.record x := by
  obtain ⟨-, -, -, -, hcount, -⟩ := hc
  by_cases hp : (s.record x).punch.status = .pending ∧ (s.record x).punchSource = .copy
  · have hmem := hx hp.1 hp.2
    rw [afterRelease, if_neg]
    rintro ⟨⟨hle, -⟩, -⟩
    rw [hcount] at hle
    obtain ⟨a, ha⟩ := List.length_eq_one_iff.mp (Nat.le_antisymm hle (List.length_pos_iff.mpr (List.ne_nil_of_mem h)))
    rw [ha, List.mem_singleton] at hmem h
    exact hne (hmem.trans h.symm)
  · exact afterRelease_of_not (by tauto)

/-- The disposition of a record after a change to it (R57, R83). -/
theorem examine_written_out (s : State) (e : Nat) :
    let r := s.record e
    let r' : Record :=
      if r.print.status = .pending ∧ r.print.mark = false ∧ (r.state = .complete ∨ r.state = .cut) ∧ r.print.cursor = r.length then
        { r with print := { r.print with status := .done } }
      else r
    s.examine e =
      if (r'.state = .complete ∨ r'.state = .cut) ∧ r'.retained = false ∧
          (r'.print.status ≠ .pending ∧ r'.punch.status ≠ .pending ∧ r'.send.status ≠ .pending) ∧
          r'.print.mark = false ∧ r'.punch.mark = false ∧ r'.send.mark = false then s.freeRecord e
      else s.setRecord e r' := by
  intro r r'
  have hr' : r' = r.printDone := by
    refine if_congr ?_ rfl rfl
    rw [Record.printedOut_iff, Record.isClosed_iff]
    tauto
  rw [examine_eq, hr']
  refine if_congr ?_ rfl rfl
  rw [Record.disposable_iff, Record.isClosed_iff]
  tauto

end State

open State

/-- Settles O47: X by its execution, a deletion by what it makes of every record, the disposition and the freeing by their rules. -/
theorem deletionsLetRecordsGo : Obligations.DeletionsLetRecordsGo := by
  refine ⟨fun s src body e hb ho hf h1 h32 => ?_, fun s e hd h1 h32 hclosed hdel => ?_, fun s e hclosed hdel => ?_,
    fun s e hs hc he hclosed hdel => ?_, examine_written_out, fun s e => ?_⟩
  · obtain ⟨fs, hread, hvs⟩ := fieldsAre_iff.mp hf
    have hdoes := does_effect_plain (k := .delete) hb (by cases src <;> rfl) (by decide) (fun _ => ho) hread
      (by rw [hvs]; simp [DirKind.fieldsOk, h1, h32])
    rw [effect, doDelete, hvs, List.headD_cons, requestDelete] at hdoes
    refine ⟨fun hst => ?_, fun hst => ?_, fun hst => ?_⟩
    · rwa [if_pos hst] at hdoes
    · rwa [if_neg (by intro h; rw [h] at hst; cases hst), if_pos hst] at hdoes
    · obtain h | h := Record.isClosed_iff.mp hst <;> simp only [h] at hdoes <;> exact hdoes
  · have hgo : ((s.record e).state.isClosed && !(s.record e).deletePending) = true := by simp [hclosed, hdel]
    have heases := (Easing.deleteRecord hgo).record (by simpa using hd) e ⟨h1, h32⟩
    rw [record_setRecord hd ⟨h1, h32⟩ ⟨h1, h32⟩, if_pos rfl] at heases
    refine heases.kept.imp id fun ⟨_, hpend, hret, hp, hu, hsend⟩ => ?_
    exact ⟨hpend, hret, fun h => Record.giveUp_pending _ (hp h), fun h => Record.giveUp_pending _ (hu h),
      fun h => Record.giveUp_pending _ (hsend h)⟩
  · exact deleteRecord_skip (by simp [hdel])
  · obtain ⟨-, -, hstore, -⟩ := hs
    have hl := (storeSound_iff.mp hstore).listed
    have hn := numbered_of_inUse he
    have hgo : ((s.record e).state.isClosed && !(s.record e).deletePending) = true := by simp [hclosed, hdel]
    have hcast := deleteRecord_recast hl hn hgo fun h => copyClaims_of_mem hc h
    intro v c
    refine ⟨?_, fun x hx hne hcopy => ?_, ?_, deleteRecord_print hgo, ?_, ?_⟩
    · rw [hcast.record e hn, if_pos rfl]
    · rw [hcast.record x (numbered_of_inUse hx), if_neg hne]
      split
      · exact afterRelease_other hc ‹_› hne hcopy
      · rfl
    · rw [← hcast.arrival_eq hl]
      exact store_of_offMechanisms (deleteRecord_offMechanisms s e)
    · rw [deleteRecord_punch hgo fun h => copyClaims_of_mem hc h]
      rfl
    · exact eq_of_offMechanisms (deleteRecord_offMechanisms s e)
  · exact (congrArg (fun f => ({ s with
        store := { s.store with
          free := s.store.free ++ (s.record e).blocks, arrival := s.store.arrival.erase e, dir := s.store.dir.set (e - 1) .empty }
        dir := { s.dir with queue := s.dir.queue.map f } } : State)) (funext (markGone_eq e)))

end Sys2Proof.Machine
end

section
/-! PROOF. The erase (sections 3.5, 9.8): a state that it takes otherwise than `Obligations.ErasesVoidTheStack` says. -/

namespace Sys2Proof.Machine
namespace State

/-- A record on the copy list, and one that waits for COPY without being on it and has nothing left to print; COPY is WAITING. -/
def waiter : State :=
  { reset with
    store :=
      { reset.store with
        dir :=
          [{ Record.empty with state := .complete, punch := ⟨.pending, 0, true⟩, punchSource := .copy },
            { Record.empty with
              state := .complete, print := ⟨.pending, 0, false⟩, punch := ⟨.pending, 0, false⟩, punchSource := .copy
              send := ⟨.none, 0, true⟩ }] ++ List.replicate 30 Record.empty
        arrival := [1, 2] }
    punch := { reset.punch with copyClaim := ⟨.waiting, 1⟩, copyList := [1] } }

/-- The erase releases COPY at the first record; the second, given up, is found printed out before it is deleted. -/
theorem waiter_erase : (waiter.erase.record 2).print.status = .done := by decide

theorem waiter_deletedAs : (waiter.deletedAs 2 (waiter.record 2)).examined.print.status = .abandoned := by decide

/-! ### The state is sound -/

theorem waiter_records :
    ∀ e < 33, 1 ≤ e →
      ((waiter.record e).state ≠ .empty ↔ e = 1 ∨ e = 2) ∧ (waiter.record e).state ≠ .composing ∧ (waiter.record e).state ≠ .receiving ∧
        (waiter.record e).state ≠ .suspended ∧ (waiter.record e).blocks = [] ∧ (waiter.record e).length = 0 ∧
        (waiter.record e).precedence = 0 ∧ (waiter.record e).print.cursor = 0 := by decide

theorem waiter_inUse (e : Nat) : waiter.InUse e ↔ e = 1 ∨ e = 2 := by
  rw [inUse_iff]
  refine ⟨fun ⟨hn, hst⟩ => ((waiter_records e (Nat.lt_succ_of_le hn.2) hn.1).1.mp hst), fun h => ?_⟩
  have hn : Numbered e := by obtain rfl | rfl := h <;> exact ⟨by decide, by decide⟩
  exact ⟨hn, (waiter_records e (Nat.lt_succ_of_le hn.2) hn.1).1.mpr h⟩

theorem waiter_storeSound : waiter.StoreSound := by
  refine ⟨by decide, by decide, fun e => ?_, ?_, fun e h1 h32 => ?_, fun d e hd _ hcomp => ?_⟩
  · rw [waiter_inUse]
    show e ∈ [1, 2] ↔ _
    simp
  · have hnone : (waiter.store.dir.map (·.blocks)).flatten = [] := by decide
    have hstart : (reset.store.dir.map (·.blocks)).flatten = [] := by decide
    have hfree : waiter.store.free = reset.store.free := by rw [waiter]
    obtain ⟨-, -, -, -, -, -, -, ⟨-, -, ⟨-, -, -, hreset, -⟩, -⟩, -⟩ := resetHasWhatStepsKeep
    rw [hnone, hfree]
    rwa [hstart] at hreset
  · obtain ⟨-, -, -, -, hblocks, hlen, hprec, -⟩ := waiter_records e (Nat.lt_succ_of_le h32) h1
    rw [hblocks, hlen, hprec]
    exact ⟨rfl, Nat.zero_le _, Nat.zero_le _, fun _ => rfl⟩
  · obtain ⟨⟨h1, h32⟩, -⟩ := inUse_iff.mp hd
    exact absurd hcomp (waiter_records d (Nat.lt_succ_of_le h32) h1).2.1

theorem waiter_stackSound : waiter.StackSound := by
  refine ⟨.nil, nofun, nofun, fun e he hst => ?_⟩
  obtain ⟨⟨h1, h32⟩, -⟩ := inUse_iff.mp he
  obtain ⟨-, -, hrec, hsus, -⟩ := waiter_records e (Nat.lt_succ_of_le h32) h1
  exact (hst.elim hrec hsus).elim

theorem waiter_storeAndPrinterSound : waiter.StoreAndPrinterSound := by
  have hprofiles : waiter.ProfilesWellFormed := by
    have h := reset_profilesWellFormed
    unfold ProfilesWellFormed at h ⊢
    rwa [show waiter.profile = reset.profile from rfl]
  refine ⟨hprofiles, ⟨.nil, nofun⟩, waiter_storeSound, waiter_stackSound, ⟨by decide, .nil, nofun, fun e h1 h32 => ?_, nofun⟩, ?_⟩
  · obtain ⟨-, -, -, -, -, -, -, hcursor⟩ := waiter_records e (Nat.lt_succ_of_le h32) h1
    rw [hcursor]
    exact Nat.zero_le _
  · exact ⟨nofun, by decide, nofun, nofun, by simp [waiter, reset, start, TxBlock.start]⟩

theorem waiter_claimsSound : waiter.ClaimsSound := by
  refine ⟨fun x y hx => ?_, fun x => ?_, by decide, by decide, rfl, fun e he => ?_, nofun⟩
  · cases x <;> cases hx
  · cases x <;> decide
  · obtain rfl : e = 1 := List.mem_singleton.mp he
    exact ⟨(waiter_inUse 1).mpr (.inl rfl), by decide, by decide, by decide⟩

end State

open State

/-- Refutes O48: the clause on every record takes the deletions of an erase to act on each record as the closings left it. But a release
of COPY at one deletion gives up the punch of a record that waits for COPY without being on the copy list, and the store then examines
that record: in `waiter` it is found printed out, so that its print output is DONE when the deletion comes to it, and not ABANDONED. -/
theorem not_erasesVoidTheStack : ¬Obligations.ErasesVoidTheStack := by
  rintro ⟨-, -, -, -, hrecords, -⟩
  have h := (hrecords waiter waiter_storeAndPrinterSound waiter_claimsSound).1 2 ((waiter_inUse 2).mpr (.inr rfl)) nofun
  have hprint := congrArg (fun r : Record => r.print.status) h
  have hclosed : (waiter.record 2).state.isOpen = false := by decide
  have hempty : ¬((waiter.record 2).state = .empty ∨ (waiter.record 2).deletePending = true) := by decide
  simp only [hclosed, Bool.false_eq_true, if_false, if_neg hempty, waiter_erase, waiter_deletedAs] at hprint
  cases hprint

end Sys2Proof.Machine
end

section
/-! PROOF. Characters and breaks are sent (sections 7.1, 7.3 to 7.7, 8.4, 8.5): how each completion and each item goes on. -/

namespace Sys2Proof.Machine
namespace State

variable {s : State}

/-! ### The completions -/

theorem characterComplete_more {r c : Row} {rest : List Row} {sh : ShiftState} {i : TxItem}
    (h : s.tx.inFlight = some (.character r (c :: rest) sh i)) :
    s.characterComplete = noticeTraffic { s with tx := { s.tx with inFlight := some (.character c rest sh i) } } := by
  simp only [characterComplete, h]
  rfl

theorem characterComplete_last {r : Row} {sh : ShiftState} {i : TxItem} (h : s.tx.inFlight = some (.character r [] sh i)) :
    s.characterComplete = codeDone (noticeTraffic { s with tx := { s.tx with inFlight := none, shift := sh } }) i := by
  simp only [characterComplete, h]
  rfl

theorem breakComplete_brk {n : Nat} (h : s.tx.inFlight = some (.brk n)) :
    s.breakComplete = noticeTraffic { s with tx := { s.tx with inFlight := none, shift := .unknown } } := by
  simp only [breakComplete, h]
  rfl

theorem noticeTraffic_timed (s : State) :
    s.noticeTraffic =
      if s.conn.state = .connected ∧ s.conn.lineType = .switched then
        { s with conn := { s.conn with lineIdle := if s.working.lineIdleS = 0 then none else some (s.working.lineIdleS * 1000) } }
      else s := by
  simp only [noticeTraffic, idleTimed_iff]
  rfl

/-! ### The items -/

theorem codeDone_answerback (s : State) :
    s.codeDone .answerback =
      if s.tx.answerback = .sending [] then { s with tx := { s.tx with answerback := .none } } else s := by
  simp only [codeDone]
  split
  · rename_i h
    rw [if_pos h]
    rfl
  · rename_i h
    exact (if_neg h).symm

theorem codeDone_reply (s : State) : s.codeDone .reply = if s.tx.reply = some [] then s.replySent else s := by
  simp only [codeDone]
  split
  · rename_i h
    rw [if_pos h]
  · rename_i h
    exact (if_neg h).symm

/-! ### The send data -/

theorem sendData_of_clear (h : s.conn.clearingSpace = false) :
    s.sendData = match s.tx.inFlight with
      | none => []
      | some f => f.elements := by
  rw [sendData, h]
  rfl

end State

theorem frame_eq (r : Row) :
    frame r =
      [(.space, 2), (if r.getLsbD 0 then .mark else .space, 2), (if r.getLsbD 1 then .mark else .space, 2),
        (if r.getLsbD 2 then .mark else .space, 2), (if r.getLsbD 3 then .mark else .space, 2),
        (if r.getLsbD 4 then .mark else .space, 2), (.mark, 3)] := rfl

/-- Settles O57: the completions by what is in flight, and the items by what each has left to send. -/
theorem charactersAndBreaksAreSent : Obligations.CharactersAndBreaksAreSent := by
  refine ⟨fun s r c rest sh i hpow h => ?_, fun s r sh i hpow h => ?_, fun s n hpow h => ?_, State.noticeTraffic_timed, fun s => ?_,
    frame_eq, fun s => ⟨fun h => ?_, fun h => ?_⟩⟩
  · have hdoes := EventOf.characterSent.does hpow
    rwa [State.characterComplete_more h] at hdoes
  · have hdoes := EventOf.characterSent.does hpow
    rwa [State.characterComplete_last h] at hdoes
  · have hdoes := EventOf.breakSent.does hpow
    rwa [State.breakComplete_brk h] at hdoes
  · exact ⟨rfl, rfl, s.codeDone_answerback, s.codeDone_reply, fun e => ⟨rfl, rfl⟩⟩
  · rw [State.sendData, if_pos h]
  · refine ⟨fun hf => ?_, fun c rest sh i hf => ?_, fun n hf => ?_⟩ <;> simp only [State.sendData_of_clear h, hf] <;> rfl

end Sys2Proof.Machine
end

section
/-! PROOF. The send arbiter and its items (sections 7.1 to 7.7), and the conversion of a code under a shift state (sections 5.5, 7.2). -/

namespace Sys2Proof.Machine

/-! ### The conversion -/

section Conversion

variable {p : Profile} {sh : ShiftState} {c : Code} {r : Row}

/-- A code of both planes, or one whose plane is in force, is sent as it stands; a code of the other plane after that plane's shift code. -/
theorem Profile.convert_both (h : (p.codeRec c).sendAs = .both r) :
    p.convert sh c = some ([r], if c = 0o040#7 ∧ p.unshiftOnSpace = true then .letters else sh) := by
  simp only [Profile.convert, h]

theorem Profile.convert_letters (h : (p.codeRec c).sendAs = .letters r) :
    p.convert sh c =
      if sh = .letters then some ([r], if c = 0o040#7 ∧ p.unshiftOnSpace = true then .letters else sh)
      else (p.shiftCode .letters).map fun k => ([k, r], .letters) := by
  simp only [Profile.convert, h, Plane.shift]
  rfl

theorem Profile.convert_figures (h : (p.codeRec c).sendAs = .figures r) :
    p.convert sh c =
      if sh = .figures then some ([r], if c = 0o040#7 ∧ p.unshiftOnSpace = true then .letters else sh)
      else (p.shiftCode .figures).map fun k => ([k, r], .figures) := by
  simp only [Profile.convert, h, Plane.shift]
  rfl

end Conversion

namespace State

variable {s : State}

/-! ### A code is taken -/

theorem sendCode_taken {i : TxItem} {c : Code} {r : Row} {rest : List Row} {sh : ShiftState}
    (h : s.working.convert s.tx.shift c = some (r :: rest, sh)) :
    s.sendCode i c = { s with tx := { s.tx with inFlight := some (.character r rest sh i) } } := by
  simp only [sendCode, h]
  rfl

theorem sendCode_skipped {i : TxItem} {c : Code} (h : s.working.convert s.tx.shift c = none) :
    s.sendCode i c = codeDone { s with tx := { s.tx with skipCount := sat16 s.tx.skipCount } } i := by
  simp only [sendCode, h]
  rfl

/-! ### The order of the arbiter -/

theorem arbitrate_brk (h : s.tx.breakPending = true) :
    s.arbitrate =
      some { s with tx := { s.tx with breakPending := false, inFlight := some (.brk (s.working.breakThreshold + 4)) } } := by
  rw [arbitrate, if_pos h]
  rfl

section NoBreak

variable (hb : s.tx.breakPending = false)
include hb

theorem arbitrate_answerback {l : List Code} (ha : s.tx.answerback = .sending l) : s.arbitrate = some (s.sendAnswerback l) := by
  simp [arbitrate, hb, ha]

theorem arbitrate_reply {l : List Code} (ha : ∀ l, s.tx.answerback ≠ .sending l) (hr : s.tx.reply = some l) :
    s.arbitrate = some (s.sendReply l) := by
  cases hab : s.tx.answerback with
  | sending l => exact absurd hab (ha l)
  | none => simp [arbitrate, hb, hr, hab]
  | pending => simp [arbitrate, hb, hr, hab]

theorem arbitrate_pending (ha : s.tx.answerback = .pending) (hr : s.tx.reply = none) :
    s.arbitrate = some { s with tx := { s.tx with answerback := .sending s.working.answerback } } := by
  conv_lhs => simp only [arbitrate, hb, ha, hr, Bool.false_eq_true, if_false]
  rfl

theorem arbitrate_free (ha : s.tx.answerback = .none) (hr : s.tx.reply = none) :
    s.arbitrate =
      match s.readyReply with
      | some text => some { s with tx := { s.tx with reply := some text } }
      | none => s.sendText := by
  conv_lhs => simp only [arbitrate, hb, ha, hr, Bool.false_eq_true, if_false]
  rfl

theorem arbitrate_head {h : ReplyEntry} {rest : List ReplyEntry} (ha : s.tx.answerback = .none) (hr : s.tx.reply = none)
    (hq : s.dir.queue = h :: rest) (hk : h.kind ≠ .reserved) :
    s.arbitrate = some { s with tx := { s.tx with reply := some h.text } } := by
  have hready : s.readyReply = some h.text := by simp only [readyReply, hq, if_neg hk]
  rw [arbitrate_free hb ha hr, hready]

theorem arbitrate_text (ha : s.tx.answerback = .none) (hr : s.tx.reply = none) (hq : ∀ h ∈ s.dir.queue.head?, h.kind = .reserved) :
    s.arbitrate = s.sendText := by
  have hready : s.readyReply = none := by
    cases hqueue : s.dir.queue with
    | nil => simp only [readyReply, hqueue]
    | cons h rest => simp only [readyReply, hqueue, if_pos (hq h (by simp [hqueue]))]
  rw [arbitrate_free hb ha hr, hready]

end NoBreak

theorem allSent_iff (e : Nat) : s.allSent e = true ↔ (s.record e).length ≤ (s.record e).send.cursor := by simp [allSent]

theorem sendText_keyboard {e : Nat} (ht : s.tx.retrieval = none) (hk : s.tx.keyboardText = some e) :
    s.sendText = if (s.record e).length ≤ (s.record e).send.cursor then none else some (s.sendCell (.keyboardCell e) e) := by
  simp only [sendText, ht, hk, allSent_iff]

/-! ### Retrieval -/

theorem headingRows_eq (p : Profile) (n prec : Nat) :
    headingRows p n prec =
      [0o033#7] ++ p.callLetters ++ [0o115#7, digit prec, 0o040#7] ++
        [digit (n / 1000), digit (n / 100), digit (n / 10), digit n, 0o015#7] := by
  simp [headingRows, fourDigits, chr]

theorem sendRetrieval_code {t : Retrieval} {c : Code} {rest : List Code} (h : t.codes = c :: rest) :
    s.sendRetrieval t = sendCode { s with tx := { s.tx with retrieval := some { t with codes := rest } } } .retrievalText c := by
  simp only [sendRetrieval, h]
  rfl

theorem sendRetrieval_cell {t : Retrieval} {e : Nat} (hcodes : t.codes = []) (hpart : t.part = .cells) (he : t.entry = some e)
    (hlt : (s.record e).send.cursor < (s.record e).length) : s.sendRetrieval t = s.sendCell (.retrievalCell e) e := by
  have hsent : s.allSent e = false := by simpa [allSent] using hlt
  simp only [sendRetrieval, hcodes, hpart, he, if_true, Option.filter_some, hsent, Bool.not_false]

theorem sendRetrieval_next {t : Retrieval} (hcodes : t.codes = [])
    (h : t.part ≠ .cells ∨ ∀ e, t.entry = some e → (s.record e).length ≤ (s.record e).send.cursor) :
    s.sendRetrieval t =
      match t.todo with
      | [] => s.endRetrieval t
      | part :: rest => s.setRetrieval { t with part := part, codes := s.partCodes t part, todo := rest } := by
  have hcell : (if t.part = .cells then t.entry.filter fun e => !s.allSent e else none) = none := by
    split
    · rename_i hpart
      rw [Option.filter_eq_none_iff]
      intro e he
      simpa [allSent] using h.resolve_left (not_not_intro hpart) e he
    · rfl
  simp only [sendRetrieval, hcodes, hcell] <;> rfl

theorem endRetrieval_record {t : Retrieval} {e : Nat} (h : t.entry = some e) :
    s.endRetrieval t =
      examine
        (setRecord { s with tx := { s.tx with retrieval := none } } e
          { s.record e with
            send :=
              ⟨if (s.record e).send.status = .pending then .done else (s.record e).send.status, (s.record e).send.cursor, false⟩ }) e := by
  simp only [endRetrieval, h, updRecord, Record.owed_iff]
  rfl

/-- A retrieval is done where its last part is out: the cells are, and nothing or the cells alone are still to begin. -/
theorem retrievalDone_iff (t : Retrieval) :
    s.retrievalDone t = true ↔
      t.codes = [] ∧
        ((t.todo = [] ∧ (t.part = .cells → ∀ e, t.entry = some e → (s.record e).length ≤ (s.record e).send.cursor)) ∨
          (t.todo = [.cells] ∧ ∀ e, t.entry = some e → (s.record e).length ≤ (s.record e).send.cursor)) := by
  have hcells : (match t.entry with | some e => s.allSent e | none => true) = true ↔
      ∀ e, t.entry = some e → (s.record e).length ≤ (s.record e).send.cursor := by
    cases he : t.entry <;> simp [allSent]
  rw [← hcells]
  simp only [retrievalDone, Bool.and_eq_true, List.isEmpty_iff]
  refine and_congr_right fun _ => ?_
  match t.todo with
  | [] =>
    cases t.part with
    | cells => simp <;> rfl
    | crlf | heading | endRows => simp
  | [p] => cases p <;> cases t.part <;> simp <;> rfl
  | p :: q :: rest => cases p <;> cases t.part <;> simp

/-! ### What is settled before the arbiter decides -/

theorem settleItems_abandoned {t : Retrieval} {e : Nat} (ht : s.tx.retrieval = some t) (he : t.entry = some e)
    (hst : (s.record e).send.status = .abandoned) : s.settleItems = some (s.abandonRetrieval t e) := by
  have hmet : t.entry.any (fun e => (s.record e).send.status == .abandoned) = true := by simp [he, hst]
  have hfilter : s.tx.retrieval.filter (fun t => t.entry.any fun e => (s.record e).send.status == .abandoned) = some t := by
    rw [ht, Option.filter_some, if_pos hmet]
  simp only [settleItems, hfilter, he, Option.map_some]

/-- No retrieval's record is abandoned. -/
def RetrievalKept (s : State) : Prop := ∀ t, s.tx.retrieval = some t → ∀ e, t.entry = some e → (s.record e).send.status ≠ .abandoned

theorem settleItems_kept (h : s.RetrievalKept) :
    s.settleItems =
      match s.tx.retrieval.filter s.retrievalDone with
      | some t => some (s.endRetrieval t)
      | none =>
        match s.tx.keyboardText with
        | some e => if (s.record e).send.status = .abandoned then some (s.dropKeyboardText e) else none
        | none => s.nextKeyboardText.map s.takeKeyboardText := by
  have hnone : s.tx.retrieval.filter (fun t => t.entry.any fun e => (s.record e).send.status == .abandoned) = none := by
    rw [Option.filter_eq_none_iff]
    intro t ht hany
    cases he : t.entry with
    | none => simp [he] at hany
    | some e => exact h t ht e he (by simpa [he] using hany)
  simp only [settleItems, hnone, beq_iff_eq] <;> rfl

theorem settleItems_done {t : Retrieval} (h : s.RetrievalKept) (ht : s.tx.retrieval = some t) (hdone : s.retrievalDone t = true) :
    s.settleItems = some (s.endRetrieval t) := by
  rw [settleItems_kept h, ht, Option.filter_some, if_pos hdone]

theorem settleItems_keyboard (h : s.RetrievalKept) (hdone : ∀ t, s.tx.retrieval = some t → s.retrievalDone t = false) :
    s.settleItems =
      match s.tx.keyboardText with
      | some e => if (s.record e).send.status = .abandoned then some (s.dropKeyboardText e) else none
      | none => s.nextKeyboardText.map s.takeKeyboardText := by
  have hnone : s.tx.retrieval.filter s.retrievalDone = none := by
    rw [Option.filter_eq_none_iff]
    intro t ht
    simp [hdone t ht]
  rw [settleItems_kept h, hnone]

theorem nextKeyboardText_eq (s : State) :
    s.nextKeyboardText =
      s.store.arrival.find? fun e =>
        decide ((s.record e).origin = .keyboard ∧ (s.record e).send.status = .pending ∧ (s.record e).send.mark = false) := by
  unfold nextKeyboardText
  congr 1
  funext e
  rw [Bool.eq_iff_iff]
  simp [Record.owed_iff, and_assoc]

theorem takeKeyboardText_eq (s : State) (e : Nat) :
    s.takeKeyboardText e =
      { (s.setRecord e { s.record e with send := { (s.record e).send with mark := true } }).examine e with
        tx := { s.tx with keyboardText := some e } } := by
  unfold takeKeyboardText onTx
  rw [updRecord_tx]
  rfl

/-! ### The step of the Line Transmitter -/

theorem keyboardTextSent_iff (e : Nat) :
    s.keyboardTextSent e = true ↔
      (s.record e).send.status = .pending ∧ (s.record e).state.isClosed = true ∧ (s.record e).length ≤ (s.record e).send.cursor := by
  simp [keyboardTextSent, Record.owed_iff, allSent, and_assoc]

theorem sendStep_off (h : s.conn.state ≠ .connected) : s.sendStep = none := by
  have hoff : s.isConnected = false := by simpa [isConnected] using h
  simp [sendStep, hoff]

theorem sendStep_connected (h : s.conn.state = .connected) :
    s.sendStep =
      match s.tx.keyboardText.filter s.keyboardTextSent with
      | some e => some (s.endKeyboardText e)
      | none =>
        if s.tx.inFlight.isSome = true then none
        else match s.settleItems with
          | some s' => some s'
          | none => if s.working.rateIndex = s.rx.rate then s.arbitrate else none := by
  have hon : s.isConnected = true := by simpa [isConnected] using h
  simp only [sendStep, hon, rateWaits, bne_iff_ne, ite_not, Bool.not_true, Bool.false_eq_true, if_false] <;> rfl

theorem sendStep_sent {e : Nat} (h : s.conn.state = .connected) (hk : s.tx.keyboardText = some e)
    (hsent : s.keyboardTextSent e = true) : s.sendStep = some (s.endKeyboardText e) := by
  rw [sendStep_connected h, hk, Option.filter_some, if_pos hsent]

theorem sendStep_unsent (h : s.conn.state = .connected) (hunsent : ∀ e, s.tx.keyboardText = some e → s.keyboardTextSent e = false) :
    s.sendStep =
      if s.tx.inFlight.isSome = true then none
      else match s.settleItems with
        | some s' => some s'
        | none => if s.working.rateIndex = s.rx.rate then s.arbitrate else none := by
  have hnone : s.tx.keyboardText.filter s.keyboardTextSent = none := by
    rw [Option.filter_eq_none_iff]
    intro e he
    simp [hunsent e he]
  rw [sendStep_connected h, hnone]

end State

open State

/-- Settles O58: the order of the arbiter by what each item has, a retrieval by its codes and parts, what is settled before the arbiter
decides by its items' records, and the conversion by how the code is sent. -/
theorem arbiterAndConversion : Obligations.ArbiterAndConversion := by
  refine ⟨⟨fun s => arbitrate_brk, fun s c rest hb ha => arbitrate_answerback hb ha, fun s c rest hb ha hr => arbitrate_reply hb ha hr,
      fun s hb ha hr => arbitrate_pending hb ha hr, fun s h rest hb ha hr hq hk => arbitrate_head hb ha hr hq hk,
      fun s i c r rest sh h => sendCode_taken h, fun s c h => sendCode_skipped h, fun s i c h => sendCode_skipped h,
      fun s hb ha hr hq => ⟨fun t ht => ?_, fun e ht hk => ?_, fun ht hk => ?_⟩, fun s hb ha => arbitrate_answerback hb ha,
      fun s hb ha hr => arbitrate_reply hb ha hr⟩,
    fun s t => ⟨fun c rest => sendRetrieval_code, fun e hcodes hpart he hlt => sendRetrieval_cell hcodes hpart he hlt,
      fun hcodes h => ⟨fun htodo => ?_, fun part rest htodo => ?_⟩, rfl, rfl, rfl, fun e n he hn => ?_, fun he => ?_,
      fun e => endRetrieval_record, fun e => ?_⟩,
    fun s => ⟨fun t e => settleItems_abandoned, fun h => ?_, fun t ht hkept hdone => ?_, retrievalDone_iff, s.takeKeyboardText_eq,
      sendStep_off, fun hcon => ⟨fun e hk hst hcl hle => ?_, fun hunsent => ?_⟩⟩,
    fun p sh c r => ⟨fun h => ?_, fun h => Profile.convert_both h, fun h hsh => ?_, fun h hsh => ?_, fun k h hsh hk => ?_,
      fun k h hsh hk => ?_, fun h hsh hk => ?_, fun h hsh hk => ?_⟩⟩
  · rw [arbitrate_text hb ha hr hq, sendText, ht]
  · rw [arbitrate_text hb ha hr hq, sendText_keyboard ht hk]
    exact ⟨fun hlt => if_neg (Nat.not_le.mpr hlt), fun hle => if_pos hle⟩
  · rw [arbitrate_text hb ha hr hq, sendText, ht, hk]
  · rw [sendRetrieval_next hcodes h, htodo]
  · rw [sendRetrieval_next hcodes h, htodo]
    rfl
  · simp only [partCodes, he, Option.getD_some, hn]
    exact headingRows_eq _ _ _
  · simp only [endRetrieval, he]
    rfl
  · rfl
  · rw [settleItems_keyboard (fun t ht => (h t ht).2) fun t ht => (h t ht).1]
    refine ⟨fun e hk => ?_, fun hk => ?_⟩
    · rw [hk]
      rfl
    · rw [hk, ← nextKeyboardText_eq]
  · refine settleItems_done (fun t' ht' => ?_) ht hdone
    obtain rfl : t = t' := Option.some.inj (ht.symm.trans ht')
    exact hkept
  · exact sendStep_sent hcon hk ((keyboardTextSent_iff e).mpr ⟨hst, hcl, hle⟩)
  · rw [sendStep_unsent hcon fun e hk => ?_]
    · refine ⟨fun hfly => if_pos hfly, fun hfree => ⟨fun u hu => ?_, fun hu => ?_⟩⟩ <;> rw [hfree, hu] <;> rfl
    · rw [Bool.eq_false_iff, Ne, keyboardTextSent_iff]
      rintro ⟨hst, hcl, hle⟩
      rcases hunsent e hk with h | h | h
      · exact h hst
      · rw [hcl] at h
        cases h
      · exact absurd hle (Nat.not_le.mpr h)
  · simp only [Profile.convert, h]
  · rw [Profile.convert_letters h, if_pos hsh]
  · rw [Profile.convert_figures h, if_pos hsh]
  · rw [Profile.convert_letters h, if_neg hsh, hk, Option.map_some]
  · rw [Profile.convert_figures h, if_neg hsh, hk, Option.map_some]
  · rw [Profile.convert_letters h, if_neg hsh, hk, Option.map_none]
  · rw [Profile.convert_figures h, if_neg hsh, hk, Option.map_none]

end Sys2Proof.Machine
end

section
/-! PROOF. The punch (Chapter 5): its rows, its pieces, its boundary and its records; the fault timers and the paper sensors (sections 4.1,
4.4). -/

namespace Sys2Proof.Machine
namespace State

variable {s : State} {e : Nat}

/-! ### The done signal, the fault timers and the paper sensors -/

theorem rowDone_some {r : Row} (h : s.punch.inFlight = some r) :
    s.rowDone =
      let v : State := { s with punch := { s.punch with inFlight := none, faultTimer := none, tapeSupply := s.punch.tapeSupply - 1 } }
      if s.punch.newTapeDue = true then { v with punch := v.reelFitted } else v := by
  simp only [rowDone, h, Option.isSome_some, if_true, newReel_eq]
  rfl

theorem operationFault_some {op : PrinterOp} (h : s.print.inFlight = some op) :
    s.operationFault =
      { s with print := { s.print with fault := true, failedOp := some op, inFlight := none, faultTimer := none } } := by
  simp only [operationFault, h]
  rfl

theorem rowFault_some {r : Row} (h : s.punch.inFlight = some r) :
    s.rowFault = { s with punch := { s.punch with fault := true, failedRow := some r, inFlight := none, faultTimer := none } } := by
  simp only [rowFault, h]
  rfl

/-! ### The boundary -/

theorem punchBoundary_feed (h : 0 < s.punch.feedRows) :
    s.punchBoundary =
      some { s with punch := { s.punch with piece := .feed, rows := List.replicate s.punch.feedRows 0#5, feedRows := 0 } } := by
  rw [punchBoundary, if_pos h]
  rfl

section NoFeed

variable (hfeed : s.punch.feedRows = 0)
include hfeed

theorem punchBoundary_leader (h : s.punch.leaderOwed = true) :
    s.punchBoundary =
      some
        { s with
          punch := { s.punch with piece := .leader, rows := List.replicate s.working.leaderRows 0#5, leaderOwed := false } } := by
  rw [punchBoundary, hfeed, if_neg (by decide), if_pos h]
  rfl

theorem punchBoundary_current (h : s.punch.leaderOwed = false) (he : s.punch.current = some e) :
    s.punchBoundary = s.goOnPunching e := by
  simp only [punchBoundary, hfeed, h, he, Nat.lt_irrefl, Bool.false_eq_true, if_false]

theorem punchBoundary_serve (h : s.punch.leaderOwed = false) (he : s.punch.current = none) : s.punchBoundary = s.serveHolder := by
  simp only [punchBoundary, hfeed, h, he, Nat.lt_irrefl, Bool.false_eq_true, if_false]

end NoFeed

theorem serveHolder_some {x : PunchSource} (h : s.punch.holder = some x) :
    s.serveHolder =
      match s.nextToPunch x with
      | some e => some (s.choosePunch e)
      | none =>
        if (s.punch.claim x).state = .draining then
          some { s with punch := { s.punch with piece := .trailer, rows := List.replicate s.working.leaderRows 0#5 } }
        else none := by
  simp only [serveHolder, h]
  rfl

theorem Claim.holds_iff (c : Claim) : c.holds = true ↔ c.state = .holding ∨ c.state = .draining := by simp [Machine.Claim.holds]

theorem Claim.holds_eq_false_iff (c : Claim) : c.holds = false ↔ c.state = .idle ∨ c.state = .waiting := by
  cases h : c.state <;> simp [Machine.Claim.holds, h]

theorem nextToPunch_source {x : PunchSource} (h : x ≠ .copy) :
    s.nextToPunch x = s.bestEntry fun r => decide (r.punch.status = .pending ∧ r.punchSource = x) := by
  have hok : (fun r : Record => r.punch.owed && r.punchSource == x) =
      fun r => decide (r.punch.status = .pending ∧ r.punchSource = x) := by
    funext r
    rw [Bool.eq_iff_iff]
    simp [Record.owed_iff]
  rw [← hok]
  cases x with
  | copy => exact absurd rfl h
  | line | keyboard => rfl

/-! ### The current record -/

theorem choosePunch_eq (s : State) (e : Nat) :
    s.choosePunch e =
      { s.setRecord e { s.record e with punch := { (s.record e).punch with mark := true } } with
        punch :=
          { s.punch with
            current := some e, headingDone := false, endDone := false, restart := false
            framed :=
              decide (s.working.punchFraming = true ∧ (s.record e).punchSource ≠ .keyboard ∧ (s.record e).serial.isSome = true) } } := by
  have hframed : (s.working.punchFraming && (s.record e).punchSource != .keyboard && (s.record e).serial.isSome) =
      decide (s.working.punchFraming = true ∧ (s.record e).punchSource ≠ .keyboard ∧ (s.record e).serial.isSome = true) := by
    rw [Bool.eq_iff_iff]
    simp [and_assoc]
  rw [choosePunch, hframed]
  rfl

theorem beginCodes_endRows (s : State) :
    s.beginCodes .endRows (endRows s.working) =
      { s with
        punch := { s.punch with piece := .endRows, codes := [0o033#7] ++ s.working.callLetters ++ [0o105#7, 0o015#7] } } := rfl

theorem goOnPunching_abandoned (h : (s.record e).punch.status = .abandoned) :
    s.goOnPunching e =
      if s.punch.framed = true ∧ s.punch.headingDone = true ∧ s.punch.endDone = false then
        some (s.beginCodes .endRows (endRows s.working))
      else some (s.letGoPunch e) := by
  simp only [goOnPunching, if_pos h, Bool.and_eq_true, Bool.not_eq_true', and_assoc]

section Owed

variable (howed : (s.record e).punch.status ≠ .abandoned)
include howed

theorem goOnPunching_heading {n : Nat} (hf : s.punch.framed = true) (hh : s.punch.headingDone = false)
    (hn : (s.record e).serial = some n) :
    s.goOnPunching e = some (s.beginCodes .heading (headingRows s.working n (s.record e).precedence)) := by
  simp only [goOnPunching, if_neg howed, hf, hh, hn, Option.getD_some, Bool.not_false, Bool.and_self, if_true]

theorem goOnPunching_text (h : s.punch.framed = false ∨ s.punch.headingDone = true) :
    s.goOnPunching e =
      if (s.record e).punch.cursor < (s.record e).length then some (s.takePunchCell e)
      else if (s.record e).state.isClosed = true then
        if s.punch.framed = true ∧ s.punch.endDone = false then some (s.beginCodes .endRows (endRows s.working))
        else some (s.finishPunch e)
      else none := by
  have hpast : (s.punch.framed && !s.punch.headingDone) = false := by rcases h with h | h <;> simp [h]
  simp only [goOnPunching, if_neg howed, hpast, Bool.false_eq_true, if_false, Bool.and_eq_true, Bool.not_eq_true']

end Owed

/-- Entry `e` with its punch cursor one cell on, examined. -/
def cellPunched (s : State) (e : Nat) : State :=
  (s.setRecord e { s.record e with punch := { (s.record e).punch with cursor := (s.record e).punch.cursor + 1 } }).examine e

theorem takePunchCell_mutilated (h : (s.cellOf e (s.record e).punch.cursor).quality = .mutilated) :
    s.takePunchCell e =
      { s with punch := { s.punch with piece := .cell, rows := [s.working.errorRow], shiftAfter := some s.punch.shift } } := by
  simp only [takePunchCell, if_pos h]
  rfl

section Whole

variable (hwhole : (s.cellOf e (s.record e).punch.cursor).quality ≠ .mutilated)
include hwhole

theorem takePunchCell_skipped (h : s.working.convert s.punch.shift (s.cellOf e (s.record e).punch.cursor).code = none) :
    s.takePunchCell e = cellPunched { s with punch := { s.punch with skipCount := sat16 s.punch.skipCount } } e := by
  simp only [takePunchCell, if_neg hwhole, punchCode, h]
  rfl

theorem takePunchCell_rows {rows : List Row} {sh : ShiftState}
    (h : s.working.convert s.punch.shift (s.cellOf e (s.record e).punch.cursor).code = some (rows, sh)) :
    s.takePunchCell e = { s with punch := { s.punch with piece := .cell, rows := rows, shiftAfter := some sh } } := by
  simp only [takePunchCell, if_neg hwhole, punchCode, h]
  rfl

end Whole

theorem finishPunch_eq (s : State) (e : Nat) :
    s.finishPunch e =
      let v := s.setRecord e { s.record e with punch := { (s.record e).punch with status := .done } }
      if e ∈ s.punch.copyList then (v.leaveCopyList e).letGoPunch e else v.letGoPunch e := by
  have hmem : (s.setRecord e { s.record e with punch := { (s.record e).punch with status := .done } }).punch.copyList.contains e = true ↔
      e ∈ s.punch.copyList := List.contains_iff_mem
  simp only [finishPunch, hmem]
  split <;> rfl

/-! ### The end of a piece -/

theorem endPiece_cell (hp : s.punch.piece = .cell) (hc : s.punch.current = some e) :
    s.endPiece = cellPunched { s with punch := { s.punch with piece := .none } } e := by
  have hcurrent : (s.onPunch fun b => { b with piece := .none }).punch.current = some e := hc
  simp only [endPiece, hp, hcurrent]
  rfl

theorem endPiece_reelLeader (hp : s.punch.piece = .reelLeader) :
    s.endPiece =
      let v : State := { s with punch := { s.punch with piece := .none, shift := .unknown, restart := false } }
      if s.punch.restart = true then v.restartRecord else v := by
  conv_lhs => simp only [endPiece, hp, onPunch]
  rfl

theorem restartRecord_some (hc : s.punch.current = some e) :
    s.restartRecord =
      setRecord { s with punch := { s.punch with headingDone := false, endDone := false } } e
        { s.record e with punch := { (s.record e).punch with cursor := 0 } } := by
  conv_lhs => simp only [restartRecord, hc]
  rfl

theorem restartRecord_none (hc : s.punch.current = none) : s.restartRecord = s := by simp only [restartRecord, hc]

/-- The first source that waits takes the punch over (R104). -/
theorem handover_eq (s : State) :
    s.handover =
      { s with
        punch :=
          if s.punch.lineClaim.state = .waiting then
            { s.punch with lineClaim := ⟨.holding, s.punch.lineClaim.count⟩, leaderOwed := true }
          else if s.punch.keyboardClaim.state = .waiting then
            { s.punch with keyboardClaim := ⟨.holding, s.punch.keyboardClaim.count⟩, leaderOwed := true }
          else if s.punch.copyClaim.state = .waiting then
            { s.punch with copyClaim := ⟨.holding, s.punch.copyClaim.count⟩, leaderOwed := true }
          else s.punch } := by
  simp only [handover, punchSources, List.find?_cons, List.find?_nil, PunchBlock.claim]
  by_cases hl : s.punch.lineClaim.state = .waiting
  · rw [if_pos hl, hl]
    rfl
  by_cases hk : s.punch.keyboardClaim.state = .waiting
  · rw [if_neg hl, if_pos hk, hk, beq_eq_false_iff_ne.mpr hl]
    rfl
  by_cases hc : s.punch.copyClaim.state = .waiting
  · rw [if_neg hl, if_neg hk, if_pos hc, hc, beq_eq_false_iff_ne.mpr hl, beq_eq_false_iff_ne.mpr hk]
    rfl
  · rw [if_neg hl, if_neg hk, if_neg hc, beq_eq_false_iff_ne.mpr hl, beq_eq_false_iff_ne.mpr hk, beq_eq_false_iff_ne.mpr hc]

theorem endPiece_trailer {x : PunchSource} (hp : s.punch.piece = .trailer) (hx : s.punch.holder = some x) :
    s.endPiece =
      handover
        { s with punch := ({ s.punch with piece := .none, shift := .unknown } : PunchBlock).setClaim x ⟨.idle, 0⟩ } := by
  have hholder : ({ s.punch with piece := .none, shift := .unknown } : PunchBlock).holder = some x := hx
  simp only [endPiece, hp, onPunch, trailerEnd, hholder]

/-! ### The step of the Punch Controller -/

theorem punchStep_busy (h : s.punch.inFlight.isSome = true ∨ s.punch.fault = true ∨ s.punch.tapeOut = true) : s.punchStep = none := by
  have hbusy : (s.punch.inFlight.isSome || s.punch.fault || s.punch.tapeOut) = true := by simpa [or_assoc] using h
  simp only [punchStep, hbusy, if_true]

section Able

variable (hfly : s.punch.inFlight = none) (hfault : s.punch.fault = false) (htape : s.punch.tapeOut = false)
include hfly hfault htape

theorem punchStep_row {r : Row} {rest : List Row} (h : s.punch.rows = r :: rest) :
    s.punchStep =
      if s.punch.tapeSupply = 0 then some { s with punch := { s.punch with tapeOut := true } }
      else if s.motor.state = .running then
        some { s with punch := { s.punch with inFlight := some r, rows := rest, faultTimer := some 2000 } }
      else none := by
  conv_lhs => simp only [punchStep, hfly, hfault, htape, h, Option.isSome_none, Bool.or_self, Bool.false_eq_true, if_false]
  rfl

variable (hrows : s.punch.rows = [])
include hrows

theorem punchStep_shift {sh : ShiftState} (h : s.punch.shiftAfter = some sh) :
    s.punchStep = some { s with punch := { s.punch with shift := sh, shiftAfter := none } } := by
  conv_lhs => simp only [punchStep, hfly, hfault, htape, hrows, h, Option.isSome_none, Bool.or_self, Bool.false_eq_true, if_false]
  rfl

variable (hshift : s.punch.shiftAfter = none)
include hshift

theorem punchStep_code {c : Code} {rest : List Code} (h : s.punch.codes = c :: rest) :
    s.punchStep = some (s.takeFraming c rest) := by
  simp only [punchStep, hfly, hfault, htape, hrows, hshift, h, Option.isSome_none, Bool.or_self, Bool.false_eq_true, if_false]

theorem punchStep_end (h : s.punch.codes = []) :
    s.punchStep = if s.punch.piece = .none then s.punchBoundary else some s.endPiece := by
  simp only [punchStep, hfly, hfault, htape, hrows, hshift, h, Option.isSome_none, Bool.or_self, Bool.false_eq_true, if_false]

end Able

theorem takeFraming_eq (s : State) (c : Code) (rest : List Code) :
    s.takeFraming c rest =
      { s with
        punch :=
          match s.working.convert s.punch.shift c with
          | none => { s.punch with codes := rest, skipCount := sat16 s.punch.skipCount }
          | some (rows, sh) => { s.punch with codes := rest, rows := rows, shiftAfter := some sh } } := by
  simp only [takeFraming, punchCode]
  cases s.working.convert s.punch.shift c <;> rfl

end State

open State

/-- Settles O56: the commands by their events, the boundary by what is owed, the current record by its framing and its cursor, and the end of
each piece by the piece. -/
theorem punchRowsFaultsAndPaper : Obligations.PunchRowsFaultsAndPaper := by
  refine ⟨fun s hpow => ⟨fun h => ?_, fun r h hdue => ?_, fun r h hdue => ?_⟩,
    ⟨fun s op hpow h => ?_, fun s r hpow h => ?_, fun s out low hpow => ?_⟩,
    fun s => ⟨punchBoundary_feed, punchBoundary_leader, fun hfeed hleader => ⟨fun e => punchBoundary_current hfeed hleader, fun hcur => ?_⟩,
      fun x hx => (Claim.holds_iff _).mp (PunchBlock.holder_some hx), fun hnone x =>
      (Claim.holds_eq_false_iff _).mp (PunchBlock.holder_none hnone x), rfl, fun x => nextToPunch_source⟩,
    fun s e => ⟨s.choosePunch_eq e, ⟨goOnPunching_abandoned, fun howed hf hh n hn => ?_, fun howed htext => ?_⟩,
      ⟨takePunchCell_mutilated, takePunchCell_skipped, fun rows sh hwhole => takePunchCell_rows hwhole, endPiece_cell⟩, rfl, s.finishPunch_eq e, rfl⟩,
    fun s => ⟨fun h => ?_, fun h => ?_, fun h => ?_, fun h => ?_, fun h hno => ?_, fun e h hagain hcur => ?_, fun x h hx => ?_⟩,
    fun s => ⟨punchStep_busy, fun hfly hfault htape => ⟨fun r rest hrows => ?_, fun sh hrows hshift => ?_, fun hrows hshift =>
      ⟨fun c rest hcodes => ?_, fun hcodes hpiece => ?_, fun hcodes hpiece => ?_⟩⟩⟩⟩
  · have hdoes := EventOf.punchDone.does hpow
    rwa [rowDone, h, Option.isSome_none, if_neg Bool.false_ne_true] at hdoes
  · have hdoes := EventOf.punchDone.does hpow
    simpa only [rowDone_some h, hdue, Bool.false_eq_true, if_false] using hdoes
  · have hdoes := EventOf.punchDone.does hpow
    simpa only [rowDone_some h, hdue, if_true] using hdoes
  · have hdoes := EventOf.printerFaultTimerExpiry.does hpow
    rwa [operationFault_some h] at hdoes
  · have hdoes := EventOf.punchFaultTimerExpiry.does hpow
    rwa [rowFault_some h] at hdoes
  · exact (EventOf.paperOutChange out low).does hpow
  · rw [punchBoundary_serve hfeed hleader hcur]
    refine ⟨fun hnone => ?_, fun x hx => ?_⟩
    · simp only [serveHolder, hnone]
    · rw [serveHolder_some hx]
      exact ⟨fun e he => by rw [he], fun hnone => by rw [hnone]⟩
  · rw [goOnPunching_heading howed hf hh hn, headingRows_eq]
    rfl
  · rw [goOnPunching_text howed htext]
    exact ⟨fun hlt => if_pos hlt, fun hle hopen => by rw [if_neg (Nat.not_lt.mpr hle), hopen, if_neg Bool.false_ne_true],
      fun hle hclosed => by rw [if_neg (Nat.not_lt.mpr hle), if_pos hclosed, beginCodes_endRows]⟩
  · rcases h with h | h <;> simp only [endPiece, h] <;> rfl
  · simp only [endPiece, h]
    rfl
  · simp only [endPiece, h]
    rfl
  · simp only [endPiece, h]
    rfl
  · rw [endPiece_reelLeader h]
    rcases hno with hno | hno
    · exact if_neg (by rw [hno]; decide)
    · simp only
      split
      · exact restartRecord_none hno
      · rfl
  · rw [endPiece_reelLeader h]
    exact (if_pos hagain).trans (restartRecord_some hcur)
  · rw [endPiece_trailer h hx, handover_eq]
  · rw [punchStep_row hfly hfault htape hrows]
    exact ⟨fun h => if_pos h, fun hsupply hmotor => by rw [if_neg (Nat.ne_of_gt hsupply), if_neg hmotor],
      fun hsupply hmotor => by rw [if_neg (Nat.ne_of_gt hsupply), if_pos hmotor]⟩
  · exact punchStep_shift hfly hfault htape hrows hshift
  · exact (punchStep_code hfly hfault htape hrows hshift hcodes).trans (congrArg some (s.takeFraming_eq c rest))
  · rw [punchStep_end hfly hfault htape hrows hshift hcodes, if_neg hpiece]
  · rw [punchStep_end hfly hfault htape hrows hshift hcodes, if_pos hpiece]

end Sys2Proof.Machine
end

section
/-! PROOF. The printer (sections 4.1 to 4.3, 4.5, 4.6): the effects of operations, the conversion of a cell, which record comes first, and the
headers. -/

namespace Sys2Proof.Machine

/-! ### The effects of operations -/

theorem State.operationDone_some {s : State} {op : PrinterOp} (h : s.print.inFlight = some op) :
    s.operationDone = { s with print := PrintBlock.complete s.working op { s.print with inFlight := none, faultTimer := none } } := by
  simp only [operationDone, h]
  rfl

/-! ### The conversion of a cell -/

section Conversion

variable {p : Profile} {column : Nat} {c : Cell}

/-- The operation of a printing cell (R76). -/
def Profile.printOp (p : Profile) (c : Cell) (advance : Bool) : PrinterOp :=
  if c.quality = .mutilated ∨ (c.quality = .doubtful ∧ p.doubtfulMarking = true) then .print p.mutilationType advance
  else match (p.codeRec c.code).typePos with
    | some t => .print t advance
    | none => if p.substituteType ≤ 63 then .print p.substituteType advance else .space

theorem printAction_eq (p : Profile) (c : Cell) (advance : Bool) :
    (match printAction p c with
      | none => PrinterOp.space
      | some t => .print t advance) = p.printOp c advance := by
  unfold printAction Profile.printOp
  by_cases hm : c.quality = .mutilated
  · rw [if_pos hm, if_pos (.inl hm)]
  by_cases hd : c.quality = .doubtful ∧ p.doubtfulMarking = true
  · rw [if_neg hm, if_pos hd, if_pos (.inr hd)]
  · rw [if_neg hm, if_neg hd, if_neg (not_or.mpr ⟨hm, hd⟩)]
    cases (p.codeRec c.code).typePos with
    | some t => rfl
    | none => by_cases hs : p.substituteType ≤ 63 <;> simp only [hs, if_true, if_false]

theorem printingOps_eq (p : Profile) (column : Nat) (c : Cell) :
    printingOps p column c =
      if column ≤ p.lineLength then ([p.printOp c true], false)
      else if p.autoNewLine = true then ([.ret, .feed, p.printOp c true], true)
      else ([p.printOp c false], false) := by
  rw [← printAction_eq, ← printAction_eq]
  rfl

theorem convertPrint_printing {pageLine : Nat}
    (h : c.quality = .mutilated ∨ c.code ∉ [0o015#7, 0o012#7, 0o040#7, 0o007#7, 0o014#7, 0o000#7]) :
    convertPrint p column pageLine c = printingOps p column c := by
  unfold convertPrint
  rcases h with h | h
  · rw [if_pos h]
  · simp only [List.mem_cons, List.not_mem_nil, or_false, not_or] at h
    obtain ⟨hret, hfeed, hspace, hbell, hform, hnull⟩ := h
    rw [if_neg hret, if_neg hfeed, if_neg hspace, if_neg hbell, if_neg hform, if_neg hnull, ite_self]

end Conversion

/-! ### Whose record comes first -/

section Best

variable {ok : Nat → Bool} {prec : Nat → Nat} {l : List Nat}

/-- What is best of a list: nothing where nothing qualifies, else the first of the highest precedence. -/
def Best (ok : Nat → Bool) (prec : Nat → Nat) (l : List Nat) : Option Nat → Prop
  | none => ∀ e ∈ l, ok e = false
  | some c => ∃ before later, l = before ++ c :: later ∧ ok c = true ∧ (∀ e ∈ before, ok e = true → prec e < prec c) ∧
      ∀ e ∈ later, ok e = true → prec e ≤ prec c

/-- The better of what was best and the next entry. -/
def better (ok : Nat → Bool) (prec : Nat → Nat) (best : Option Nat) (e : Nat) : Option Nat :=
  if ok e then
    match best with
    | none => some e
    | some b => if prec b < prec e then some e else some b
  else best

theorem Best.le {c e : Nat} (h : Best ok prec l (some c)) (he : e ∈ l) (hok : ok e = true) : prec e ≤ prec c := by
  obtain ⟨before, later, rfl, -, hbefore, hlater⟩ := h
  rcases List.mem_append.mp he with he | he
  · exact Nat.le_of_lt (hbefore e he hok)
  · rcases List.mem_cons.mp he with rfl | he
    · exact Nat.le_refl _
    · exact hlater e he hok

theorem Best.better {b : Option Nat} (h : Best ok prec l b) (a : Nat) : Best ok prec (l ++ [a]) (better ok prec b a) := by
  by_cases ha : ok a = true
  · cases b with
    | none =>
      simp only [Machine.better, ha, if_true]
      exact ⟨l, [], rfl, ha, fun e he hok => absurd hok (by rw [h e he]; decide), nofun⟩
    | some c =>
      by_cases hlt : prec c < prec a
      · simp only [Machine.better, ha, hlt, if_true]
        exact ⟨l, [], rfl, ha, fun e he hok => Nat.lt_of_le_of_lt (h.le he hok) hlt, nofun⟩
      · simp only [Machine.better, ha, hlt, if_true, if_false]
        obtain ⟨before, later, rfl, hc, hbefore, hlater⟩ := h
        refine ⟨before, later ++ [a], by simp, hc, hbefore, fun e he hok => ?_⟩
        rcases List.mem_append.mp he with he | he
        · exact hlater e he hok
        · rw [List.mem_singleton.mp he]
          exact Nat.not_lt.mp hlt
  · have hkeep : Machine.better ok prec b a = b := if_neg ha
    rw [hkeep]
    cases b with
    | none =>
      intro e he
      rcases List.mem_append.mp he with he | he
      · exact h e he
      · rw [List.mem_singleton.mp he]
        exact Bool.eq_false_iff.mpr ha
    | some c =>
      obtain ⟨before, later, rfl, hc, hbefore, hlater⟩ := h
      refine ⟨before, later ++ [a], by simp, hc, hbefore, fun e he hok => ?_⟩
      rcases List.mem_append.mp he with he | he
      · exact hlater e he hok
      · rw [List.mem_singleton.mp he] at hok
        exact absurd hok ha

theorem best_foldl (ok : Nat → Bool) (prec : Nat → Nat) (l : List Nat) : Best ok prec l (l.foldl (better ok prec) none) := by
  induction l using List.reverseRecOn with
  | nil => exact nofun
  | append_singleton l a ih =>
    rw [List.foldl_append]
    exact ih.better a

/-- Of two that are best, neither stands before the other. -/
theorem Best.not_before {c d : Nat} {k later later' before : List Nat} (hc : ok c = true) (hd : ok d = true)
    (hl : c :: later = k ++ d :: later') (hlater : ∀ e ∈ later, ok e = true → prec e ≤ prec c)
    (hbefore : ∀ e ∈ before ++ k, ok e = true → prec e < prec d) : c = d := by
  cases k with
  | nil => exact (List.cons.inj hl).1
  | cons a k =>
    obtain ⟨rfl, rfl⟩ := List.cons.inj hl
    have hlt : prec c < prec d := hbefore c (by simp) hc
    exact absurd (hlater d (by simp) hd) (Nat.not_le.mpr hlt)

theorem Best.unique {x y : Option Nat} (hx : Best ok prec l x) (hy : Best ok prec l y) : x = y := by
  cases x with
  | none =>
    cases y with
    | none => rfl
    | some d =>
      obtain ⟨_, _, rfl, hd, -⟩ := hy
      exact absurd hd (by rw [hx d (by simp)]; decide)
  | some c =>
    obtain ⟨before, later, hl, hc, hbefore, hlater⟩ := hx
    cases y with
    | none => exact absurd hc (by rw [hy c (by simp [hl])]; decide)
    | some d =>
      obtain ⟨before', later', hl', hd, hbefore', hlater'⟩ := hy
      rcases List.append_eq_append_iff.mp (hl.symm.trans hl') with ⟨k, rfl, hk⟩ | ⟨k, rfl, hk⟩
      · exact congrArg some (Best.not_before hc hd hk hlater hbefore')
      · exact congrArg some (Best.not_before hd hc hk hlater' hbefore).symm

end Best

namespace State

variable {s : State} {e : Nat}

theorem bestEntry_iff (s : State) (ok : Record → Bool) (x : Option Nat) :
    s.bestEntry ok = x ↔ Best (fun e => ok (s.record e)) (fun e => (s.record e).precedence) s.store.arrival x := by
  have hbest : Best (fun e => ok (s.record e)) (fun e => (s.record e).precedence) s.store.arrival (s.bestEntry ok) := best_foldl _ _ _
  exact ⟨fun h => h ▸ hbest, hbest.unique⟩

theorem candidate_iff (r : Record) :
    candidate r = true ↔ r.print.status = .pending ∧ r.print.mark = false ∧ (r.print.cursor < r.length ∨ r.state.isOpen = true) := by
  simp [candidate, Record.owed_iff, and_assoc]

theorem exceeding_iff (s : State) (e c : Nat) :
    s.exceeding e = some c ↔ s.bestCandidate = some c ∧ (s.record e).precedence < (s.record c).precedence := by
  refine ⟨exceeding_some, fun ⟨hbest, hlt⟩ => ?_⟩
  simp only [exceeding, hbest, if_pos hlt]

/-! ### The headers -/

theorem headerOf_started {r : Record} (h : r.started = true) : s.headerOf r = resumeHeader r.serial := if_pos h

theorem resumeHeader_eq (serial : Option Nat) :
    resumeHeader serial =
      0o053#7 ::
        (match serial with
          | none => [0o055#7, 0o055#7, 0o055#7, 0o055#7]
          | some n => [digit (n / 1000), digit (n / 100), digit (n / 10), digit n]) ++ [0o015#7, 0o012#7] := by
  cases serial <;> rfl

theorem headerOf_fresh {r : Record} (h : r.started = false) :
    s.headerOf r =
      match r.serial with
      | some n => if r.origin = .line ∧ s.working.printHeadings = true then printHeading n r.precedence else []
      | none => [] := by
  rw [headerOf, h, if_neg Bool.false_ne_true]
  rfl

end State
end Sys2Proof.Machine
end

section
/-! PROOF. The printer's context stack, its boundaries and its step (sections 4.1, 4.3, 4.4, 4.5, 4.7, 4.8). -/

namespace Sys2Proof.Machine
namespace State

variable {s : State} {e : Nat}

/-! ### The context stack -/

theorem pushContext_eq (s : State) (e : Nat) :
    s.pushContext e =
      { s.setRecord e { s.record e with print := { (s.record e).print with mark := true } } with
        print :=
          { s.print with
            contexts := ⟨e, (s.record e).print.cursor, false⟩ :: s.print.contexts
            ops := s.freshLine ++ (if s.print.contexts = [] then [] else [.feed])
            codes := s.headerOf (s.record e), kind := .opening } } := by
  conv_lhs => simp only [pushContext, List.isEmpty_iff]
  rfl

section Top

variable {top : PrintContext} {rest : List PrintContext} (h : s.print.contexts = top :: rest)
include h

theorem markMidLine_top :
    s.markMidLine =
      { s with
        print := { s.print with contexts := { top with midLine := top.midLine || decide (s.print.column ≠ 1) } :: rest } } := by
  have hcolumn : (s.print.column != 1) = decide (s.print.column ≠ 1) := by
    rw [Bool.eq_iff_iff]
    simp
  rw [← hcolumn, markMidLine, onPrint]
  simp only [h]

theorem setLineStart_top (n : Nat) :
    s.setLineStart n = { s with print := { s.print with contexts := { top with lineStart := n } :: rest } } := by
  rw [setLineStart, onPrint]
  simp only [h]

theorem setLineStart_atMargin (n : Nat) :
    (if s.print.column = 1 then s.setLineStart n else s) =
      { s with
        print := if s.print.column = 1 then { s.print with contexts := { top with lineStart := n } :: rest } else s.print } := by
  split
  · exact setLineStart_top h n
  · rfl

theorem dropTop_eq (done : Bool) :
    s.dropTop done =
      examine
        (setRecord { s with print := { s.print with contexts := rest } } top.entry
          { s.record top.entry with
            print :=
              ⟨if done = true then .done else (s.record top.entry).print.status, (s.record top.entry).print.cursor, false⟩ })
        top.entry := by
  simp only [dropTop, h]
  rfl

theorem dropBeneath_member (he : e ∈ rest.map (·.entry)) :
    s.dropBeneath e =
      examine
        (setRecord { s with print := { s.print with contexts := top :: rest.filter (·.entry ≠ e) } } e
          { s.record e with print := { (s.record e).print with mark := false } }) e := by
  have hany : rest.any (·.entry == e) = true := by simpa using he
  have hfilter : rest.filter (·.entry != e) = rest.filter (·.entry ≠ e) := by
    congr 1
    funext c
    rw [Bool.eq_iff_iff]
    simp
  rw [← hfilter]
  simp only [dropBeneath, h, if_pos hany]
  rfl

theorem takePrintCell_eq :
    s.takePrintCell top.entry =
      let q := convertPrint s.working s.print.column s.print.pageLine (s.cellOf top.entry (s.record top.entry).print.cursor)
      { s with
        print :=
          { s.print with
            ops := q.1, kind := .cell
            contexts := if q.2 = true then { top with lineStart := (s.record top.entry).print.cursor } :: rest else top :: rest } } := by
  simp only [takePrintCell]
  split
  · exact setLineStart_top (by exact h) _
  · rw [← h]
    rfl

/-! ### The end of a sequence -/

theorem endSequence_cell (hk : s.print.kind = .cell) :
    s.endSequence = cellDone { s with print := { s.print with kind := .none } } top.entry := by
  have htop : (s.onPrint fun b => { b with kind := .none }).print.contexts = top :: rest := h
  simp only [endSequence, htop, hk]
  rfl

theorem endSequence_opening (hk : s.print.kind = .opening) :
    s.endSequence =
      let v : State := { s with print := { s.print with kind := .none } }
      if s.print.column = 1 then v.setLineStart (s.record top.entry).print.cursor else v := by
  have htop : (s.onPrint fun b => { b with kind := .none }).print.contexts = top :: rest := h
  simp only [endSequence, htop, hk]
  rfl

theorem endSequence_resumption (hk : s.print.kind = .resumption) :
    s.endSequence = rewind { s with print := { s.print with kind := .none } } top := by
  have htop : (s.onPrint fun b => { b with kind := .none }).print.contexts = top :: rest := h
  simp only [endSequence, htop, hk]
  rfl

theorem cellDone_eq :
    s.cellDone top.entry =
      { s.setRecord top.entry
          { s.record top.entry with
            started := true, print := { (s.record top.entry).print with cursor := (s.record top.entry).print.cursor + 1 } } with
        print :=
          if s.print.column = 1 then
            { s.print with contexts := { top with lineStart := (s.record top.entry).print.cursor + 1 } :: rest }
          else s.print } := by
  exact setLineStart_atMargin (s := s.setRecord _ _) h _

theorem rewind_eq :
    s.rewind top =
      if top.midLine = true then
        { s.setRecord top.entry
            { s.record top.entry with print := { (s.record top.entry).print with cursor := top.lineStart } } with
          print := { s.print with contexts := { top with midLine := false } :: rest } }
      else s := by
  have hset (r : Record) : (s.setRecord top.entry r).print.contexts = top :: rest := h
  simp only [rewind, onPrint, hset]
  rfl

/-! ### The boundary -/

theorem printBoundary_abandoned (hst : (s.record top.entry).print.status = .abandoned) :
    s.printBoundary = some (s.popContext false) := by
  simp only [printBoundary, h, if_pos hst]

variable (hst : (s.record top.entry).print.status ≠ .abandoned)
include hst

theorem printBoundary_finished (hfin : finished (s.record top.entry) = true) : s.printBoundary = some (s.popContext true) := by
  simp only [printBoundary, h, if_neg hst, if_pos hfin]

variable (hunfin : finished (s.record top.entry) = false)
include hunfin

theorem printBoundary_going :
    s.printBoundary =
      let take : Option State :=
        if (s.record top.entry).print.cursor < (s.record top.entry).length then some (s.takePrintCell top.entry) else none
      match s.exceeding top.entry with
      | some c => if s.mayPreempt top.entry c = true then some (s.preempt c) else take
      | none => take := by
  have hno : ¬finished (s.record top.entry) = true := by rw [hunfin]; decide
  simp only [printBoundary, h, if_neg hst, if_neg hno] <;> rfl

theorem printBoundary_preempts {c : Nat} (hc : s.exceeding top.entry = some c) (hmay : s.mayPreempt top.entry c = true) :
    s.printBoundary = some (s.preempt c) := by
  rw [printBoundary_going h hst hunfin, hc]
  exact if_pos hmay

theorem printBoundary_takes (hno : ∀ c, s.exceeding top.entry = some c → s.mayPreempt top.entry c = false) :
    s.printBoundary =
      if (s.record top.entry).print.cursor < (s.record top.entry).length then some (s.takePrintCell top.entry) else none := by
  rw [printBoundary_going h hst hunfin]
  cases hc : s.exceeding top.entry with
  | none => rfl
  | some c => exact if_neg (by rw [hno c hc]; decide)

end Top

theorem finished_iff (r : Record) : finished r = true ↔ r.print.cursor = r.length ∧ (r.state = .complete ∨ r.state = .cut) := by
  simp [finished, Record.isClosed_iff]

theorem mayPreempt_iff (s : State) (e c : Nat) :
    s.mayPreempt e c = true ↔
      (s.record c).precedence = 3 ∨ (s.print.lastFeed = true ∧ s.print.column = 1) ∨ (s.record e).print.cursor = (s.record e).length := by
  simp [mayPreempt, PrintBlock.atLineBoundary, or_assoc]

theorem mayPreempt_eq_false_iff (s : State) (e c : Nat) :
    s.mayPreempt e c = false ↔
      (s.record c).precedence ≠ 3 ∧ (s.print.lastFeed = false ∨ s.print.column ≠ 1) ∧
        (s.record e).print.cursor ≠ (s.record e).length := by
  rw [Bool.eq_false_iff, Ne, mayPreempt_iff, not_or, not_or, not_and_or, Bool.not_eq_true]

theorem afterPop_cons (top : PrintContext) (rest : List PrintContext) (s : State) :
    afterPop (top :: rest) s =
      if finished (s.record top.entry) = true then afterPop rest (s.dropTop true)
      else match s.exceeding top.entry with
        | some c => s.preempt c
        | none => s.resume top.entry := rfl

/-! ### The step of the Print Controller -/

theorem paperStops_iff (s : State) (op : PrinterOp) :
    s.paperStops op = true ↔ s.print.paperOut = true ∧ (op = .feed ∨ ∃ position advance, op = .print position advance) := by
  cases op <;> simp [paperStops]

theorem printStep_busy (h : s.print.inFlight.isSome = true ∨ s.print.fault = true ∨ s.print.held = true) : s.printStep = none := by
  have hbusy : (s.print.inFlight.isSome || s.print.fault || s.print.held) = true := by simpa [or_assoc] using h
  simp only [printStep, hbusy, if_true]

section Able

variable (hfly : s.print.inFlight = none) (hfault : s.print.fault = false) (hheld : s.print.held = false)
include hfly hfault hheld

theorem printStep_op {op : PrinterOp} {rest : List PrinterOp} (h : s.print.ops = op :: rest) :
    s.printStep =
      if s.paperStops op = true then some { s with print := { s.print with held := true } }
      else if s.motor.state = .running then
        some { s with print := { s.print with inFlight := some op, ops := rest, faultTimer := some 2000 } }
      else none := by
  conv_lhs => simp only [printStep, hfly, hfault, hheld, h, Option.isSome_none, Bool.or_self, Bool.false_eq_true, if_false]
  rfl

variable (hops : s.print.ops = [])
include hops

theorem printStep_code {c : Code} {rest : List Code} (h : s.print.codes = c :: rest) :
    s.printStep =
      some
        { s with
          print :=
            { s.print with
              ops := (convertPrint s.working s.print.column s.print.pageLine ⟨c, .good⟩).1, codes := rest } } := by
  conv_lhs => simp only [printStep, hfly, hfault, hheld, hops, h, Option.isSome_none, Bool.or_self, Bool.false_eq_true, if_false]
  rfl

theorem printStep_end (h : s.print.codes = []) :
    s.printStep = if s.print.kind = .none then s.printBoundary else some s.endSequence := by
  simp only [printStep, hfly, hfault, hheld, hops, h, Option.isSome_none, Bool.or_self, Bool.false_eq_true, if_false]

end Able

end State

open State

/-- Settles O55: the operations by the done signal's event, the conversion by the code, the candidates by the best of the arrival list, and what
a boundary and a step do by the top context and what is ready. -/
theorem printerOperationsComplete : Obligations.PrinterOperationsComplete := by
  refine ⟨fun s hpow => ⟨fun h => ?_, fun h => ?_, fun h => ?_, fun h => ?_, fun h => ?_, fun p h => ?_, fun p h => ?_⟩,
    fun p column pageLine c => ⟨fun hq => ?_, fun hc => ?_⟩,
    ⟨candidate_iff, fun s ok => ⟨s.bestEntry_iff ok none, fun c => s.bestEntry_iff ok (some c)⟩, fun s => rfl, exceeding_iff⟩,
    fun s r => ⟨fun h => ?_, fun n h hline hn hp => ?_, fun h hno => ?_⟩,
    fun s e => ⟨s.pushContext_eq e, rfl, fun h => ?_⟩,
    fun s top rest h => ⟨fun c => ?_, printBoundary_abandoned h, fun hst hfin => ?_, fun hst hunfin => ⟨fun c hc hmay => ?_, fun hno => ?_⟩,
      fun done => ⟨dropTop_eq h done, rfl⟩, fun e => dropBeneath_member h, takePrintCell_eq h, fun hk => ?_, fun hk => ?_, fun hk => ?_⟩,
    fun s top rest => ⟨rfl, fun hfin => ?_, fun hunfin c hc => ?_, fun hunfin hc => ?_⟩,
    fun s => ⟨printStep_busy, fun hfly hfault hheld => ⟨fun op rest hops => ?_, fun hops => ⟨fun c rest => ?_, fun hcodes hk => ?_,
      fun hcodes hk => ?_⟩⟩⟩⟩
  · have hdoes := EventOf.printerDone.does hpow
    simpa only [operationDone, h] using hdoes
  · have hdoes := EventOf.printerDone.does hpow
    rwa [operationDone_some h] at hdoes
  · have hdoes := EventOf.printerDone.does hpow
    rwa [operationDone_some h] at hdoes
  · have hdoes := EventOf.printerDone.does hpow
    rwa [operationDone_some h] at hdoes
  · have hdoes := EventOf.printerDone.does hpow
    rwa [operationDone_some h] at hdoes
  · have hdoes := EventOf.printerDone.does hpow
    rwa [operationDone_some h] at hdoes
  · have hdoes := EventOf.printerDone.does hpow
    rwa [operationDone_some h] at hdoes
  · refine ⟨fun h => ?_, fun h => ?_, fun h => ?_, fun h => ?_, fun h => ?_, fun h => ?_⟩ <;>
      simp only [convertPrint, if_neg hq, h] <;> rfl
  · rw [convertPrint_printing hc, printingOps_eq]
    exact ⟨fun hle => if_pos hle, fun hlt hauto => (if_neg (Nat.not_le.mpr hlt)).trans (if_pos hauto),
      fun hlt hauto => (if_neg (Nat.not_le.mpr hlt)).trans (if_neg (by rw [hauto]; decide))⟩
  · exact (headerOf_started h).trans (resumeHeader_eq _)
  · rw [headerOf_fresh h, hn]
    exact if_pos ⟨hline, hp⟩
  · rw [headerOf_fresh h]
    cases hn : r.serial with
    | none => rfl
    | some n =>
      refine if_neg fun ⟨hline, hp⟩ => ?_
      rcases hno with hno | hno | hno
      · exact hno hline
      · rw [hn] at hno
        cases hno
      · rw [hp] at hno
        cases hno
  · simp only [printBoundary, h]
  · rw [preempt, markMidLine_top h]
  · exact printBoundary_finished h hst ((finished_iff _).mpr hfin)
  · exact printBoundary_preempts h hst (Bool.eq_false_iff.mpr fun hf => hunfin ((finished_iff _).mp hf)) hc
      ((s.mayPreempt_iff _ c).mpr hmay)
  · rw [printBoundary_takes h hst (Bool.eq_false_iff.mpr fun hf => hunfin ((finished_iff _).mp hf)) fun c hc =>
      (s.mayPreempt_eq_false_iff _ c).mpr (hno c hc)]
    exact ⟨fun hlt => if_pos hlt, fun hle => if_neg (Nat.not_lt.mpr hle)⟩
  · rw [endSequence_cell h hk]
    exact cellDone_eq h
  · rw [endSequence_opening h hk]
    exact setLineStart_atMargin (s := { s with print := { s.print with kind := .none } }) h _
  · rw [endSequence_resumption h hk]
    exact rewind_eq h
  · rw [afterPop_cons, if_pos ((finished_iff _).mpr hfin)]
  · rw [afterPop_cons, if_neg (mt (finished_iff _).mp hunfin), hc]
  · rw [afterPop_cons, if_neg (mt (finished_iff _).mp hunfin), hc]
  · rw [printStep_op hfly hfault hheld hops]
    exact ⟨fun h => if_pos ((s.paperStops_iff op).mpr h),
      fun h hmotor => by rw [if_neg (mt (s.paperStops_iff op).mp h), if_neg hmotor],
      fun h hmotor => by rw [if_neg (mt (s.paperStops_iff op).mp h), if_pos hmotor]⟩
  · exact printStep_code hfly hfault hheld hops
  · rw [printStep_end hfly hfault hheld hops hcodes, if_neg hk]
  · rw [printStep_end hfly hfault hheld hops hcodes, if_pos hk]

end Sys2Proof.Machine
end
